-- ==== Sys2Proof/Word.lean ====
section
/-! DEFINITION. The bytes of the SPI link and the words of the ZT bus. -/
namespace Sys2Proof

/-- One byte of the SPI link (R169). -/
abbrev Byte := BitVec 8

/-- One 16-bit word of the ZT bus and of a buffer (R3, R65). -/
abbrev Word := BitVec 16

end Sys2Proof
end

