-- ==== Sys2Proof/Config.lean ====
section
/-! DEFINITION. What the part fixes (capacities, identity codes) and the free values of the model. -/
namespace Sys2Proof.Config

/-- FREE VALUE (log 5). Which party comes first where the spec says that either may be taken first and the commands
do not settle it (R142, R145, R179). It has no body: no proof can lean on its values. It is applied to State.races. -/
opaque arbiterFirst : Nat → Bool

/-- FREE VALUE (log 7). Whether the promotion of lane A, and of lane B, comes before the beacon launch at a cycle start that
the part's own clock makes (R98 lets each be taken on either side). It has no body. It is applied to State.races. -/
opaque promotedFirst : Nat → Bool × Bool

/-- Vendor code (R162). -/
def vendorCode : Word := 0x5A52
/-- Part code (R162). -/
def partCode : Word := 0x0480
/-- Revision (R162). -/
def revision : Nat := 1
/-- Positions per bank (R39). -/
def positions : Nat := 64
/-- Message buffers (R65). -/
def buffers : Nat := 48
/-- Words per buffer (R65). -/
def wordsPerBuffer : Nat := 32
/-- Entries of the sporadic queue (R108). -/
def sporadicEntries : Nat := 16
/-- Records of the slot record queue (R124). -/
def recordCapacity : Nat := 128
/-- Notification groups (R137). -/
def notificationGroups : Nat := 10
/-- Places of the outbound queue (R172). -/
def outboundPlaces : Nat := 8
/-- NOTIFY or STARTUP frames that may stand in the outbound queue (R144, R172). -/
def notifyPlaces : Nat := 2
/-- Places of the intake queue (R179). -/
def intakePlaces : Nat := 4
/-- Sync byte of every frame (R174). -/
def syncByte : Byte := 0xC3
/-- Filler byte (R170). -/
def fillerByte : Byte := 0x00
/-- Microseconds of a start delimiter: from the arrival of a message, where its start delimiter begins, to the moment at which
it is recognised (R2, R3, R11). -/
def delimiterTime : Nat := 2
/-- Generator polynomial of the bus check word (R5). -/
def busPolynomial : Word := 0x8BB7
/-- Generator polynomial of the frame check (R174). -/
def linkPolynomial : Word := 0x1021

end Sys2Proof.Config
end

