-- ==== Sys2Proof/Syntax.lean ====
section
/-! DEFINITION. The commands of the ZT-480: one constructor per row of spec/opcode_table.json, and the types of their
operands. -/
namespace Sys2Proof

/-- The two lanes of the bus (00, Conventions). -/
inductive Lane where
  | A | B
deriving DecidableEq, Repr

/-- How a message ended, as far as it had (R2). -/
inductive Ending where
  /-- still in progress -/
  | inProgress
  /-- cut, so many microseconds after its arrival: the carrier ended before the end delimiter, or no end delimiter stood
  where the length places it -/
  | cut (age : Nat)
  /-- the end delimiter was recognised where the length places it -/
  | delimiter
deriving DecidableEq, Repr

/-- A message as a receiver hears it after its start delimiter (R2): the words received, in order, and its end. -/
structure Message where
  words : List Word
  ending : Ending
deriving DecidableEq, Repr

/-- One carrier on a lane in an EXPECT window, from its carrier start on, at the offsets of the window's cycle (R2, R12). -/
inductive Heard where
  /-- no start delimiter was recognised in it up to its carrier lost, or up to the window end -/
  | noise (start lost : Nat)
  /-- a start delimiter was recognised in it: the carrier start, the arrival (R11), and what followed -/
  | message (start arrival : Nat) (body : Message)
deriving DecidableEq, Repr

/-- A message heard in FREE mode, with the microticks from its carrier start to its arrival (R2, R15). -/
structure FreeMessage where
  lead : Nat
  body : Message
deriving DecidableEq, Repr

/-- What a lane's receiver heard of its own lane's launch (R16). -/
structure Echo where
  /-- a start delimiter was heard by the launch-end event -/
  startDelimiter : Bool
  /-- the header, payload and check words heard, in order -/
  words : List Word
  /-- an end delimiter was heard by the launch-end event -/
  endDelimiter : Bool
  /-- carrier was lost between the start delimiter and the end delimiter -/
  carrierLost : Bool
deriving DecidableEq, Repr

/-- Which lanes' promotions at a cycle-start event come before the beacon launch of that event (R98). -/
structure Promotions where
  a : Bool
  b : Bool
deriving DecidableEq, Repr

/-- The commands, in the order of spec/opcode_table.json. A request row carries the tag and the payload bytes of its
request frame (R174, R189): the frame has passed tests of check and kind, and reaches the intake queue. A row of the
host link carries the byte the exchange brought in. -/
inductive Instr where
  | ident (tag : Byte) (payload : List Byte)
  | config (tag : Byte) (payload : List Byte)
  | cfgget (tag : Byte) (payload : List Byte)
  | start (tag : Byte) (payload : List Byte)
  | stop (tag : Byte) (payload : List Byte)
  | stat (tag : Byte) (payload : List Byte)
  | reset (tag : Byte) (payload : List Byte)
  | eput (tag : Byte) (payload : List Byte)
  | edel (tag : Byte) (payload : List Byte)
  | eget (tag : Byte) (payload : List Byte)
  | tclr (tag : Byte) (payload : List Byte)
  | tload (tag : Byte) (payload : List Byte)
  | tchk (tag : Byte) (payload : List Byte)
  | tcommit (tag : Byte) (payload : List Byte)
  | tcancel (tag : Byte) (payload : List Byte)
  | bsetup (tag : Byte) (payload : List Byte)
  | bwrite (tag : Byte) (payload : List Byte)
  | bread (tag : Byte) (payload : List Byte)
  | bstat (tag : Byte) (payload : List Byte)
  | lsetDisable (tag : Byte) (lane : Byte)
  | lsetEnable (tag : Byte) (lane : Byte)
  | lsetClear (tag : Byte) (lane : Byte)
  | lstat (tag : Byte) (payload : List Byte)
  | spost (tag : Byte) (payload : List Byte)
  | scancel (tag : Byte) (payload : List Byte)
  | slist (tag : Byte) (payload : List Byte)
  | rfetch (tag : Byte) (payload : List Byte)
  | rdrop (tag : Byte) (payload : List Byte)
  | rthresh (tag : Byte) (payload : List Byte)
  | gset (tag : Byte) (payload : List Byte)
  | nmask (tag : Byte) (payload : List Byte)
  | nack (tag : Byte) (payload : List Byte)
  | evread (tag : Byte) (payload : List Byte)
  | unknownRequest (tag : Byte) (code : Byte) (payload : List Byte)
  /-- the byte that arrives where the parser awaits the second check byte -/
  | inboundFrameComplete (byte : Byte)
  /-- the byte that arrives where the parser awaits the length -/
  | frameLength (byte : Byte)
  | transactionEnd
  /-- the byte that comes in while the sync byte of an outbound frame goes out -/
  | syncByteClockedOut (byte : Byte)
  /-- the byte that comes in while the last byte of an outbound frame goes out -/
  | frameClockedOut (byte : Byte)
  | notificationFrameComposed
  | powerReset
  | pinReset
  | resetEnd
  /-- R98 lets each lane's promotion at this event come before the beacon launch or after it: first says which do -/
  | cycleStart (first : Promotions)
  | cycleMarkPulseEnd
  | startupListenExpiry
  | beaconDeadline
  | holdoverLimitReached
  /-- the message ended `elapsed` microticks after the moment the state stands at -/
  | freeMessageEnd (lane : Lane) (elapsed : Nat) (message : FreeMessage)
  | sendWindowStart (position : Nat)
  | expectWindowStart (position : Nat)
  | openWindowStart (position : Nat)
  | quietWindowStart (position : Nat)
  /-- the carrier start at this cycle offset on this lane -/
  | breach (lane : Lane) (offset : Nat)
  /-- the carriers that started on each lane in the window, in order -/
  | expectWindowEnd (heardA heardB : List Heard)
  | windowEnd
  | sendLaunchEnd (echoA echoB : Echo)
  | sporadicLaunchEnd (echoA echoB : Echo)
  | beaconLaunchEnd (echoA echoB : Echo)
  | expiry
  | holdExpired (lane : Lane)
  | probationPassed (lane : Lane)
  | exchangeComplete (byte : Byte)
  | transactionStart
deriving DecidableEq, Repr

end Sys2Proof
end

