-- ==== Sys2Proof/Machine/State.lean ====
section
/-! DEFINITION. The state of the ZT-480, block by block, its value after reset, and the two closed types of a stop. -/
namespace Sys2Proof.Machine

/-- No command stops the part with a fault: what the manual calls a fault is state (result codes, lane states, lost
records). The type has no constructor. -/
inductive Fault where
deriving DecidableEq, Repr

/-- Why a command is refused. -/
inductive Refusal where
  /-- Raised by exec alone, for a command that has no meaning yet. Safe: nothing is claimed of it. -/
  | notModelled (mnemonic : String)
deriving DecidableEq, Repr

/-! ### Lanes and sets of lanes -/

/-- A set of lanes (00, Conventions). -/
structure LaneSet where
  a : Bool
  b : Bool
deriving DecidableEq, Repr

/-- Two values of one type, one for each lane. -/
structure PerLane (α : Type) where
  a : α
  b : α
deriving DecidableEq, Repr

/-! ### Configuration store (R154) -/

/-- Role of a node, configured or effective (R20, R154). -/
inductive Role where
  | master | follower
deriving DecidableEq, Repr

/-- The twelve parameters (R154). -/
structure Params where
  nodeId : Nat
  role : Role
  cycleLength : Nat
  tol : Nat
  lockWindow : Nat
  correctionLimit : Nat
  holdoverLimit : Nat
  preferredLane : Lane
  debitLimit : Nat
  holdTime : Nat
  probationCount : Nat
  autoReadmission : Bool
deriving DecidableEq, Repr

/-! ### Timebase (R20) -/

/-- Sync state (R20). -/
inductive Sync where
  | offline | listen | acquire | locked | holdover
deriving DecidableEq, Repr

/-- MODEL: a cycle that has ended, for the stamps of messages that arrived in it (R11, R30): the moments between which it
ran, the offset it had reached at its end, and its current length. -/
structure PastCycle where
  began : Nat
  ended : Nat
  offset : Nat
  length : Nat
deriving DecidableEq, Repr

/-- The timebase (R20). Moments are counts of microticks on the clock State.now. -/
structure Timebase where
  sync : Sync
  /-- the effective role -/
  role : Role
  cycle : BitVec 6
  offset : Nat
  /-- current length of the cycle (R17) -/
  length : Nat
  /-- MODEL: moment at which the running cycle began (R11) -/
  began : Nat
  /-- MODEL: the cycles that ended so lately that a message of theirs may still be coming in, the last one first (R11) -/
  past : List PastCycle
  missed : Nat
  /-- expiry moment of the startup listen, while it runs (R22) -/
  startupListen : Option Nat
  beaconMark : Bool
  /-- moment at which a beacon was last taken (R29) -/
  lastTaken : Option Nat
  /-- MODEL: the beacon deadline of this cycle has been met (R33) -/
  deadlinePassed : Bool
  /-- MODEL: the state stands at the moment of a cycle-start event (R96, R98, R118) -/
  atCycleStart : Bool
  /-- moment at which the CYCLE_MARK pulse ends, while it lasts (R18) -/
  markUntil : Option Nat
deriving DecidableEq, Repr

/-! ### Schedule executor (R39, R40, R55) -/

/-- Role of a schedule entry (R40). -/
inductive EntryRole where
  | send | expect | openSlot | quiet
deriving DecidableEq, Repr

/-- Expected sender of an EXPECT entry (R40). -/
inductive Expected where
  | any
  | node (id : Nat)
deriving DecidableEq, Repr

/-- A schedule entry (R40); a field absent for the role is none. Bit c of cycles: the entry is active in cycle c. -/
structure Entry where
  slot : Nat
  role : EntryRole
  start : Nat
  length : Nat
  lanes : LaneSet
  buffer : Option Nat
  sender : Option Expected
  maxWords : Option Nat
  cycles : BitVec 64
  log : Bool
  alarm : Bool
deriving DecidableEq, Repr

/-- A bank of the schedule table: 64 positions (R39). -/
abbrev Bank := List (Option Entry)

/-- State of the launch of a SEND or OPEN window (R55). -/
inductive LaunchState where
  | notLaunched | inProgress | ended | cut
deriving DecidableEq, Repr

/-- What the role of an open window needs (R55). `taking` are the listening or watching lanes at the window-start
event, `onProbation` those of them then in PROBATION, `left` those that abandoned the window since (R10). -/
inductive WindowRole where
  | send (usable : LaneSet) (launch : LaunchState)
  | openSlot (usable : LaneSet) (launch : LaunchState)
  | expect (taking onProbation left : LaneSet)
  | quiet (taking onProbation left : LaneSet) (breached : Bool)
deriving DecidableEq, Repr

/-- The window context (R55): position, cycle number at the window-start event, and the role's part. The entry is the
one the ACTIVE bank held at the window-start event. -/
structure Window where
  position : Nat
  entry : Entry
  cycle : BitVec 6
  role : WindowRole
deriving DecidableEq, Repr

/-- The schedule executor (R39). -/
structure Schedule where
  active : Bank
  edit : Bank
  commitPending : Bool
  window : Option Window
deriving DecidableEq, Repr

/-! ### Lane units (R8, R84) -/

/-- Lane state (R84). -/
inductive LaneState where
  | active | probation | faulted | disabled
deriving DecidableEq, Repr

/-- One lane unit (R84). -/
structure LaneUnit where
  state : LaneState
  debit : Nat
  hold : Nat
  clean : Nat
  good : Bool
deriving DecidableEq, Repr

/-- Which block asked for a launch (R7). -/
inductive LaunchKind where
  | beacon | send | sporadic
deriving DecidableEq, Repr

/-- The launch in progress (R8, R9): its lanes U, the lanes of U cut since, its start offset, the cycle number and words
fixed at the launch-start event. -/
structure Launch where
  kind : LaunchKind
  lanes : LaneSet
  cut : LaneSet
  start : Nat
  cycle : BitVec 6
  header1 : Word
  header2 : Word
  payload : List Word
deriving DecidableEq, Repr

/-- A span of moments, from `opened` up to but not including `closed`, in which a lane's receiver was in EXPECT mode
(`judges`) or in QUIET mode (R10). -/
structure Span where
  opened : Nat
  closed : Nat
  judges : Bool
deriving DecidableEq, Repr

/-- MODEL: one lane's receiver, as far as it decides which messages it takes in FREE mode (R2, R10, R12, R15). -/
structure Receiver where
  /-- start delimiters recognised before this moment are lost: the receiver was OFF -/
  since : Nat
  /-- what `busy` was before the launch that began at the moment `busy`; else the same as it -/
  floor : Nat
  /-- the lane's activity up to this moment has been handed on, or was abandoned by a launch, or was the launch's own: a
  further carrier starts no earlier -/
  busy : Nat
  /-- the latest EXPECT and QUIET spans that are over, the last one first -/
  spans : List Span
deriving DecidableEq, Repr

/-! ### Buffer pool (R65, R69, R73, R75) -/

/-- Freshness of a SEND buffer (R69). -/
inductive Freshness where
  | empty | fresh | stale
deriving DecidableEq, Repr

/-- Send policy (R69). -/
inductive Policy where
  | repeat | once
deriving DecidableEq, Repr

/-- State of a RECEIVE buffer (R75). -/
inductive RxState where
  | empty | new | read
deriving DecidableEq, Repr

/-- Status part of a RECEIVE buffer (R75). -/
structure RxStatus where
  state : RxState
  sender : Option Nat
  lanes : LaneSet
  disagree : Bool
  arrival : Option Nat
  lastData : Option (BitVec 6)
  lastHeard : Option (BitVec 6)
  nullSeen : Bool
  sequence : BitVec 4
  age : Nat
deriving DecidableEq, Repr

/-- Kind and status part of a buffer (R65). -/
inductive BufferStatus where
  | unused
  | send (freshness : Freshness) (policy : Policy) (sequence : BitVec 4) (sendCount : Nat)
  | receive (status : RxStatus)
  | sporadic (sequence : BitVec 4)
deriving DecidableEq, Repr

/-- A buffer: its contents, as many words as its length, and its status (R65). -/
structure Buffer where
  words : List Word
  status : BufferStatus
deriving DecidableEq, Repr

/-! ### Sporadic queue (R108, R109) -/

/-- An entry of the sporadic queue (R109); slot none is ANY. -/
structure SporadicEntry where
  ticket : Nat
  buffer : Nat
  lanes : LaneSet
  priority : Nat
  slot : Option Nat
  life : Nat
  onAir : Bool
deriving DecidableEq, Repr

/-- The sporadic queue, oldest post first, and its ticket counter (R108). -/
structure SporadicQueue where
  entries : List SporadicEntry
  counter : Nat
deriving DecidableEq, Repr

/-! ### Slot record queue (R124, R125) -/

/-- Kind of a record (R125). -/
inductive RecordKind where
  | received | nullHeard | missing | faulty | sent | suppressed | quietBreach | sporadicSent | sporadicExpired | gap
deriving DecidableEq, Repr

/-- What a lane field of a record holds (R125). -/
inductive Outcome where
  | notUsed | silent | timing | check | format | sender | null | good | echoOk | echoFault | carrierSeen
deriving DecidableEq, Repr

/-- A record (R125). The detail is its two bytes, offset 13 first (R201). -/
structure Record where
  kind : RecordKind
  number : Word
  cycle : BitVec 6
  slot : Nat
  position : Option Nat
  outcomes : PerLane Outcome
  sender : Option Nat
  words : Option Nat
  arrival : Option Nat
  endOffset : Option Nat
  detail : Byte × Byte
  disagree : Bool
  probation : Bool
deriving DecidableEq, Repr

/-- The slot record queue, oldest record first (R124). -/
structure RecordQueue where
  records : List Record
  next : Word
  lost : Nat
  threshold : Nat
deriving DecidableEq, Repr

/-! ### Notification unit (R138) -/

/-- The four bytes of an event's detail (R137). -/
structure Detail where
  d0 : Byte
  d1 : Byte
  d2 : Byte
  d3 : Byte
deriving DecidableEq, Repr

/-- An accumulation (R138). -/
structure Accumulation where
  kinds : Word
  count : Nat
  first : BitVec 6
  last : BitVec 6
  detail : Detail
deriving DecidableEq, Repr

/-- Delivery state of a group (R138). -/
inductive Delivery where
  | idle | pending | awaiting | awaitingMore
deriving DecidableEq, Repr

/-- A notification group (R138). Bit k of enable and seen stands for kind number k. -/
structure Group where
  level : Nat
  enable : Word
  seen : Word
  acc : Option Accumulation
  delivery : Delivery
  sequence : Byte
deriving DecidableEq, Repr

/-- The notification unit: ten groups and the mask level M (R138). -/
structure Notifier where
  groups : List Group
  mask : Nat
deriving DecidableEq, Repr

/-! ### Host link and request handler (R168) -/

/-- Parser state with the partial inbound frame (R168, R175). -/
inductive Parser where
  | sync
  | length
  | body (len : Nat) (bytes : List Byte)
  | check (len : Nat) (bytes : List Byte) (high : Option Byte)
deriving DecidableEq, Repr

/-- A request frame of the intake queue (R179). -/
structure Request where
  tag : Byte
  code : Byte
  payload : List Byte
deriving DecidableEq, Repr

/-- Kind of an outbound frame (R187). -/
inductive FrameKind where
  | response | notify | startup
deriving DecidableEq, Repr

/-- An outbound frame (R187). fill is its room byte and its check, once its sync byte was clocked out (R173). -/
structure OutFrame where
  kind : FrameKind
  tag : Byte
  code : Byte
  payload : List Byte
  fill : Option (Byte × Word)
deriving DecidableEq, Repr

/-- Kind of a deferred request (R183). -/
inductive DeferredKind where
  | start | tcommit
deriving DecidableEq, Repr

/-- The deferred request (R183). -/
structure Deferred where
  kind : DeferredKind
  tag : Byte
deriving DecidableEq, Repr

/-- Where the outbound byte of an exchange comes from (R170, R186). -/
inductive ByteSource where
  /-- the queue was empty when the exchange began -/
  | filler
  /-- the next byte of the oldest outbound frame -/
  | frame
  /-- a reset came during the exchange: its byte belongs to no frame and its inbound byte is discarded -/
  | orphan
deriving DecidableEq, Repr

/-- The exchange in progress: its outbound byte, fixed when it began (R170). -/
structure Exchange where
  byte : Byte
  source : ByteSource
deriving DecidableEq, Repr

/-- The host link and the request handler (R168). -/
structure Link where
  parser : Parser
  intake : List Request
  outbound : List OutFrame
  delivered : Nat
  reservations : Nat
  deferred : Option Deferred
  /-- a transaction is in progress: CS is low (R169) -/
  transaction : Bool
  exchange : Option Exchange
deriving DecidableEq, Repr

/-- Cause of a reset from outside (R163). -/
inductive ResetCause where
  | power | pin
deriving DecidableEq, Repr

/-! ### The whole part -/

/-- The state of the ZT-480. -/
structure State where
  cfg : Params
  tb : Timebase
  sched : Schedule
  lanes : PerLane LaneUnit
  /-- the launch in progress; at most one (R8) -/
  launch : Option Launch
  /-- MODEL: what the two receivers have to remember -/
  rx : PerLane Receiver
  /-- the 48 buffers -/
  bufs : List Buffer
  spor : SporadicQueue
  recs : RecordQueue
  notif : Notifier
  link : Link
  /-- the reset in force, with the cause it will report (R163) -/
  resetting : Option ResetCause
  /-- MODEL: microticks since the last reset (log 12) -/
  now : Nat
  /-- MODEL: free choices consumed so far (log 5) -/
  races : Nat
  /-- MODEL: the commands waiting, first in first out -/
  pending : List Instr
deriving DecidableEq, Repr

/-! ### Reset values (R165) -/

/-- Defaults of R154. -/
def Params.default : Params :=
  { nodeId := 0, role := .follower, cycleLength := 10000, tol := 2, lockWindow := 10, correctionLimit := 4,
    holdoverLimit := 4, preferredLane := .A, debitLimit := 24, holdTime := 16, probationCount := 8,
    autoReadmission := true }

/-- The timebase after reset (R20; the MODEL fields by log 12). -/
def Timebase.reset : Timebase :=
  { sync := .offline, role := .follower, cycle := 0, offset := 0, length := 10000, began := 0, past := [], missed := 0,
    startupListen := none, beaconMark := false, lastTaken := none, deadlinePassed := false, atCycleStart := false,
    markUntil := none }

/-- An empty bank (R39). -/
def Bank.empty : Bank := List.replicate Config.positions none

/-- The schedule executor after reset (R39). -/
def Schedule.reset : Schedule :=
  { active := Bank.empty, edit := Bank.empty, commitPending := false, window := none }

/-- A lane unit after reset (R84). -/
def LaneUnit.reset : LaneUnit := { state := .active, debit := 0, hold := 0, clean := 0, good := false }

/-- A receiver after reset: OFF, with nothing heard (R10, log 12). -/
def Receiver.reset : Receiver := { since := 0, floor := 0, busy := 0, spans := [] }

/-- A buffer after reset (R65). -/
def Buffer.unused : Buffer := { words := [], status := .unused }

/-- The sporadic queue after reset (R108). -/
def SporadicQueue.reset : SporadicQueue := { entries := [], counter := 0 }

/-- The slot record queue after reset (R124). -/
def RecordQueue.reset : RecordQueue := { records := [], next := 0, lost := 0, threshold := 64 }

/-- A notification group after reset (R138). -/
def Group.reset : Group :=
  { level := 0, enable := 0, seen := 0, acc := none, delivery := .idle, sequence := 0 }

/-- The notification unit after reset (R138). -/
def Notifier.reset : Notifier :=
  { groups := List.replicate Config.notificationGroups Group.reset, mask := 0 }

/-- The host link while a reset is in force (R168): the third column, but for the empty outbound queue. CS is the
host's pin and stays as it is; here it is high (log 12). -/
def Link.reset : Link :=
  { parser := .sync, intake := [], outbound := [], delivered := 0, reservations := 0, deferred := none,
    transaction := false, exchange := none }

/-- The part at the reset values of every block, before the STARTUP frame is queued (R165). -/
def State.held : State :=
  { cfg := Params.default, tb := Timebase.reset, sched := Schedule.reset,
    lanes := { a := LaneUnit.reset, b := LaneUnit.reset }, launch := none,
    rx := { a := Receiver.reset, b := Receiver.reset },
    bufs := List.replicate Config.buffers Buffer.unused, spor := SporadicQueue.reset, recs := RecordQueue.reset,
    notif := Notifier.reset, link := Link.reset, resetting := none, now := 0, races := 0, pending := [] }

/-- Payload of the STARTUP frame (R200): the revision and the six capacities. -/
def startupPayload : List Byte :=
  [BitVec.ofNat 8 Config.revision, BitVec.ofNat 8 Config.positions, BitVec.ofNat 8 Config.buffers,
   BitVec.ofNat 8 Config.wordsPerBuffer, BitVec.ofNat 8 Config.sporadicEntries, BitVec.ofNat 8 Config.recordCapacity,
   BitVec.ofNat 8 Config.notificationGroups]

/-- The STARTUP frame (R166, R187): code is the reset cause, 1 POWER, 2 PIN, 3 COMMAND. -/
def startupFrame (cause tag : Byte) : OutFrame :=
  { kind := .startup, tag := tag, code := cause, payload := startupPayload, fill := none }

/-- The part right after a power-on reset (R165, R166, R168): every block at its reset values, the STARTUP frame
(cause POWER, tag 0) alone in the outbound queue (log 11). -/
def State.reset : State :=
  { State.held with link := { Link.reset with outbound := [startupFrame 1 0] } }

end Sys2Proof.Machine
end

