-- ==== Sys2Proof/Decode.lean ====
section
/-! DEFINITION. Words of the table. No row of spec/opcode_table.json gives bits: the commands come from bytes of the SPI
link, lines and the part's own clock, and no word spells one. -/
namespace Sys2Proof

/-- The command a word spells by the table's bits: none, for every word. -/
def decodeTableWord (_nbits _w : Nat) : Option Instr := none

end Sys2Proof
end

