-- ==== Sys2Proof/Machine/Bits.lean ====
section
/-! DEFINITION. Bytes, words, check sums, header words, sets of lanes, and the codes of Section 11.9. -/
namespace Sys2Proof

/-- The other lane. -/
def Lane.other : Lane → Lane
  | .A => .B
  | .B => .A

/-- Code of a single lane (R188). -/
def Lane.code : Lane → Byte
  | .A => 1
  | .B => 2

/-- The lane of a code (R188). -/
def Lane.ofCode (n : Nat) : Option Lane := if n = 1 then some .A else if n = 2 then some .B else none

/-- Group number of the lane groups LANE_A and LANE_B (R106). -/
def Lane.group : Lane → Nat
  | .A => 2
  | .B => 3

end Sys2Proof

namespace Sys2Proof.Machine

/-! ### Bytes and words (R188) -/

/-- A number as one byte. -/
def byte (n : Nat) : Byte := BitVec.ofNat 8 n

/-- Low byte of a word. -/
def lowByte (w : Word) : Byte := w.setWidth 8

/-- High byte of a word. -/
def highByte (w : Word) : Byte := (w >>> 8).setWidth 8

/-- A two-byte field, low byte first (R188). -/
def bytes16 (w : Word) : List Byte := [lowByte w, highByte w]

/-- A number as a two-byte field, low byte first (R188). -/
def number16 (n : Nat) : List Byte := bytes16 (BitVec.ofNat 16 n)

/-- The word of two bytes, low byte first (R188). -/
def wordOf (low high : Byte) : Word := high ++ low

/-- Byte i of a payload. -/
def byteAt (payload : List Byte) (i : Nat) : Byte := (payload[i]?).getD 0

/-- Field of one byte at offset i, as a number. -/
def fieldAt (payload : List Byte) (i : Nat) : Nat := (byteAt payload i).toNat

/-- Two-byte field at offset i, as a word (R188). -/
def wordAt (payload : List Byte) (i : Nat) : Word := wordOf (byteAt payload i) (byteAt payload (i + 1))

/-- An optional one-byte field: absent is 0xFF (R188). -/
def optByte : Option Nat → Byte
  | some n => byte n
  | none => 0xFF

/-- An optional two-byte field: absent is 0xFFFF (R188). -/
def optBytes16 : Option Nat → List Byte
  | some n => number16 n
  | none => [0xFF, 0xFF]

/-- A flag as a byte. -/
def flagByte (b : Bool) : Byte := if b then 1 else 0

/-- A cycle number as a byte. -/
def cycleByte (c : BitVec 6) : Byte := c.setWidth 8

/-- Words of a byte list, two bytes each, low byte first (R188). -/
def wordsOf : List Byte → List Word
  | low :: high :: rest => wordOf low high :: wordsOf rest
  | _ => []

/-- Bytes of a list of words (R188). -/
def bytesOf (ws : List Word) : List Byte := ws.flatMap bytes16

/-! ### Check sums (R5, R174) -/

/-- One bit through the register of R5 and R174. -/
def crcBit (poly reg : Word) (bit : Bool) : Word :=
  if reg.msb ^^ bit then (reg <<< 1) ^^^ poly else reg <<< 1

/-- A value's low `width` bits, most significant bit first, through the register. -/
def crcBits (poly : Word) (value : Nat) : Nat → Word → Word
  | 0, reg => reg
  | width + 1, reg => crcBits poly value width (crcBit poly reg (value.testBit width))

/-- The check word of a bus message over its header and payload words (R5). -/
def busCheck (words : List Word) : Word :=
  words.foldl (fun reg w => crcBits Config.busPolynomial w.toNat 16 reg) 0xFFFF

/-- The check of a frame over its length byte and body (R174). -/
def linkCheck (bytes : List Byte) : Word :=
  bytes.foldl (fun reg b => crcBits Config.linkPolynomial b.toNat 8 reg) 0xFFFF

/-! ### Messages on the bus (R3, R4) -/

/-- Air time of a message of n payload words (R3). -/
def airTime (n : Nat) : Nat := 20 + 4 * n

/-- Kind codes of header word 1 (R4). -/
def kindBeacon : Nat := 1
/-- Kind DATA (R4). -/
def kindData : Nat := 2
/-- Kind NULL (R4). -/
def kindNull : Nat := 3

/-- Header word 1: kind, sender, spare bits 0, payload length (R4). -/
def header1 (kind sender n : Nat) : Word := BitVec.ofNat 16 (kind * 16384 + sender * 256 + n)

/-- Header word 2: slot id, cycle number, sequence count (R4). -/
def header2 (slot : Nat) (cycle : BitVec 6) (sequence : BitVec 4) : Word :=
  BitVec.ofNat 16 (slot * 1024 + cycle.toNat * 16 + sequence.toNat)

/-- Kind field of header word 1 (R4). -/
def headerKind (h : Word) : Nat := h.toNat / 16384
/-- Sender field of header word 1 (R4). -/
def headerSender (h : Word) : Nat := h.toNat / 256 % 64
/-- Spare bits of header word 1 (R4). -/
def headerSpare (h : Word) : Nat := h.toNat / 64 % 4
/-- Payload length field of header word 1 (R4). -/
def headerLength (h : Word) : Nat := h.toNat % 64
/-- Slot id field of header word 2 (R4). -/
def headerSlot (h : Word) : Nat := h.toNat / 1024
/-- Cycle number field of header word 2 (R4). -/
def headerCycle (h : Word) : BitVec 6 := BitVec.ofNat 6 (h.toNat / 16)
/-- Sequence count field of header word 2 (R4). -/
def headerSequence (h : Word) : BitVec 4 := BitVec.ofNat 4 h.toNat

end Sys2Proof.Machine

namespace Sys2Proof

/-! ### Messages as they are heard (R2, R3) -/

/-- The payload length n that header word 1 announces; 0 while it has not been received (R4). -/
def Message.length (m : Message) : Nat :=
  match m.words with
  | h :: _ => Machine.headerLength h
  | [] => 0

/-- Words of the whole message: two header words, n payload words, the check word (R3). -/
def Message.size (m : Message) : Nat := 3 + m.length

/-- Microseconds from the arrival to the end delimiter of the whole message (R11). -/
def Message.airAfter (m : Message) : Nat := 16 + 4 * m.length

/-- Microseconds from the arrival to the message's end, if it has ended. -/
def Message.age (m : Message) : Option Nat :=
  match m.ending with
  | .inProgress => none
  | .cut age => some age
  | .delimiter => some m.airAfter

/-- The header words, when both were received. -/
def Message.header (m : Message) : Option (Word × Word) :=
  match m.words with
  | h1 :: h2 :: _ => some (h1, h2)
  | _ => none

/-- The payload words received. -/
def Message.payload (m : Message) : List Word := (m.words.drop 2).take m.length

/-- The check word, when it was received: it stands after the n payload words, for every n (R4). -/
def Message.checkWord (m : Message) : Option Word := m.words[2 + m.length]?

/-- The check result is right (R5): the check word was received and equals the register. -/
def Message.checkRight (m : Message) : Bool :=
  match m.header, m.checkWord with
  | some (h1, h2), some c => c == Machine.busCheck (h1 :: h2 :: m.payload)
  | _, _ => false

/-- The start delimiter was recognised: the carrier was not lost within it. What ends sooner is noise (R2, R3). -/
def Message.recognised (m : Message) : Bool := m.age.all fun k => decide (Config.delimiterTime ≤ k)

/-- The message as it stood so many microseconds after its arrival: the first word is complete after 6, each further one
after 4 more (R3). DESIGN CHOICE (log 35): a word that is complete, and a message that is cut, at that very moment has come
by it; so one cut at the window-end offset has ended (R13). -/
def Message.upTo (m : Message) (elapsed : Nat) : Message :=
  { words := m.words.take ((elapsed - 2) / 4)
    ending := if m.age.any (fun k => decide (k ≤ elapsed)) then m.ending else .inProgress }

/-- Offset of the carrier start. -/
def Heard.start : Heard → Nat
  | .noise start _ => start
  | .message start _ _ => start

/-- Offset of the end of what was heard of the carrier, if it has ended. -/
def Heard.lost : Heard → Option Nat
  | .noise _ lost => some lost
  | .message _ arrival m => m.age.map (arrival + ·)

end Sys2Proof

namespace Sys2Proof.Machine

/-! ### Lanes -/

/-- The value of one lane. -/
def PerLane.get {α : Type} (p : PerLane α) : Lane → α
  | .A => p.a
  | .B => p.b

/-- A new value for one lane. -/
def PerLane.set {α : Type} (p : PerLane α) (l : Lane) (x : α) : PerLane α :=
  match l with
  | .A => { p with a := x }
  | .B => { p with b := x }

/-- The value of one lane changed. -/
def PerLane.update {α : Type} (p : PerLane α) (l : Lane) (f : α → α) : PerLane α := p.set l (f (p.get l))

/-- No lane. -/
def LaneSet.none : LaneSet := ⟨false, false⟩
/-- Both lanes. -/
def LaneSet.both : LaneSet := ⟨true, true⟩
/-- The set of one lane. -/
def LaneSet.single : Lane → LaneSet
  | .A => ⟨true, false⟩
  | .B => ⟨false, true⟩
/-- Membership. -/
def LaneSet.has (s : LaneSet) : Lane → Bool
  | .A => s.a
  | .B => s.b
/-- Intersection. -/
def LaneSet.inter (s t : LaneSet) : LaneSet := ⟨s.a && t.a, s.b && t.b⟩
/-- Union. -/
def LaneSet.union (s t : LaneSet) : LaneSet := ⟨s.a || t.a, s.b || t.b⟩
/-- The lanes of s that are not in t. -/
def LaneSet.minus (s t : LaneSet) : LaneSet := ⟨s.a && !t.a, s.b && !t.b⟩
/-- No lane is in the set. -/
def LaneSet.isEmpty (s : LaneSet) : Bool := !(s.a || s.b)
/-- The lanes for which p holds. -/
def LaneSet.filter (p : Lane → Bool) : LaneSet := ⟨p .A, p .B⟩
/-- The values of the lanes of a set changed. -/
def PerLane.on {α : Type} (p : PerLane α) (s : LaneSet) (f : α → α) : PerLane α :=
  { a := if s.a then f p.a else p.a, b := if s.b then f p.b else p.b }
/-- Code of a set of lanes (R188). -/
def LaneSet.code (s : LaneSet) : Byte := if s.a then (if s.b then 3 else 1) else (if s.b then 2 else 0)
/-- The set of a code, or none where the code names no lane or no set (R203). -/
def LaneSet.ofCode (n : Nat) : Option LaneSet :=
  if n = 1 then some ⟨true, false⟩ else if n = 2 then some ⟨false, true⟩ else if n = 3 then some ⟨true, true⟩
  else Option.none

/-! ### Codes (R204) -/

/-- Role codes. -/
def Role.code : Role → Byte
  | .master => 1
  | .follower => 2

/-- The role of a code. -/
def Role.ofCode (n : Nat) : Option Role := if n = 1 then some .master else if n = 2 then some .follower else none

/-- Sync state codes. -/
def Sync.code : Sync → Byte
  | .offline => 0
  | .listen => 1
  | .acquire => 2
  | .locked => 3
  | .holdover => 4

/-- Entry role codes. -/
def EntryRole.code : EntryRole → Byte
  | .send => 1
  | .expect => 2
  | .openSlot => 3
  | .quiet => 4

/-- The entry role of a code. -/
def EntryRole.ofCode (n : Nat) : Option EntryRole :=
  if n = 1 then some .send else if n = 2 then some .expect else if n = 3 then some .openSlot
  else if n = 4 then some .quiet else none

/-- Lane state codes. -/
def LaneState.code : LaneState → Byte
  | .active => 1
  | .probation => 2
  | .faulted => 3
  | .disabled => 4

/-- Delivery state codes. -/
def Delivery.code : Delivery → Byte
  | .idle => 0
  | .pending => 1
  | .awaiting => 2
  | .awaitingMore => 3

/-- Freshness codes (R199). -/
def Freshness.code : Freshness → Byte
  | .empty => 0
  | .fresh => 1
  | .stale => 2

/-- Policy codes (R192). -/
def Policy.code : Policy → Byte
  | .repeat => 1
  | .once => 2

/-- The policy of a code (R192). -/
def Policy.ofCode (n : Nat) : Option Policy := if n = 1 then some .repeat else if n = 2 then some .once else none

/-- RECEIVE buffer state codes (R199). -/
def RxState.code : RxState → Byte
  | .empty => 0
  | .new => 1
  | .read => 2

/-- Buffer kind codes. -/
def BufferStatus.kindCode : BufferStatus → Byte
  | .unused => 0
  | .send .. => 1
  | .receive _ => 2
  | .sporadic _ => 3

/-- Record kind codes. -/
def RecordKind.code : RecordKind → Byte
  | .received => 1
  | .nullHeard => 2
  | .missing => 3
  | .faulty => 4
  | .sent => 5
  | .suppressed => 6
  | .quietBreach => 7
  | .sporadicSent => 8
  | .sporadicExpired => 9
  | .gap => 10

/-- Lane outcome codes. -/
def Outcome.code : Outcome → Byte
  | .notUsed => 0
  | .silent => 1
  | .timing => 2
  | .check => 3
  | .format => 4
  | .sender => 5
  | .null => 6
  | .good => 7
  | .echoOk => 8
  | .echoFault => 9
  | .carrierSeen => 10

/-- Frame kind codes. -/
def FrameKind.code : FrameKind → Byte
  | .response => 2
  | .notify => 3
  | .startup => 4

/-- Code of the one inbound kind, REQUEST. -/
def requestKind : Byte := 1

/-- Launch kind codes of TRANSMIT_FAULT. -/
def LaunchKind.code : LaunchKind → Byte
  | .send => 1
  | .sporadic => 2
  | .beacon => 3

/-- Cause codes of a reset from outside (R163); COMMAND is 3. -/
def ResetCause.code : ResetCause → Byte
  | .power => 1
  | .pin => 2

/-- Result codes. -/
inductive Result where
  | ok | unknownRequest | badLength | badField | wrongState | notConfigured | busy | inUse | held | full | notFound
  | tooLate | cancelled | tableInvalid | duplicateTag | masterConflict | wrongKind
deriving DecidableEq, Repr

/-- Result codes. -/
def Result.code : Result → Byte
  | .ok => 0x00
  | .unknownRequest => 0x01
  | .badLength => 0x02
  | .badField => 0x03
  | .wrongState => 0x04
  | .notConfigured => 0x05
  | .busy => 0x06
  | .inUse => 0x07
  | .held => 0x08
  | .full => 0x09
  | .notFound => 0x0A
  | .tooLate => 0x0B
  | .cancelled => 0x0C
  | .tableInvalid => 0x0D
  | .duplicateTag => 0x0E
  | .masterConflict => 0x0F
  | .wrongKind => 0x10

/-- Validation reasons (R41, R42). -/
inductive Reason where
  | cyclesEmpty | lanesNone | beforeBeacon | pastTail | windowShort | bufferKind | senderSelf | overlap | dupSlot
deriving DecidableEq, Repr

/-- Validation reason codes. -/
def Reason.code : Reason → Byte
  | .cyclesEmpty => 1
  | .lanesNone => 2
  | .beforeBeacon => 3
  | .pastTail => 4
  | .windowShort => 5
  | .bufferKind => 6
  | .senderSelf => 7
  | .overlap => 8
  | .dupSlot => 9

/-- Causes of COMMIT_DONE. -/
inductive CommitCause where
  | immediate | cycleStart | cyclesStopped
deriving DecidableEq, Repr

/-- COMMIT_DONE cause codes. -/
def CommitCause.code : CommitCause → Byte
  | .immediate => 1
  | .cycleStart => 2
  | .cyclesStopped => 3

/-- Causes of a lane's STATE_CHANGED. -/
inductive LaneCause where
  | debitLimit | probationError | holdExpired | probationPassed | lsetDisable | lsetEnable
deriving DecidableEq, Repr

/-- Lane STATE_CHANGED cause codes. -/
def LaneCause.code : LaneCause → Byte
  | .debitLimit => 1
  | .probationError => 2
  | .holdExpired => 3
  | .probationPassed => 4
  | .lsetDisable => 5
  | .lsetEnable => 6

/-! ### Events (R137) -/

/-- The event kinds of the ten groups. -/
inductive Event where
  | syncChanged | beaconMissed | beaconOutOfWindow | masterConflict | cycleJump
  | commitDone | commitCancelled | sendSuppressed
  | laneChanged (l : Lane) | receiveError (l : Lane) | transmitFault (l : Lane)
  | missing | faulty | disagree
  | sent | expired | queueEmpty
  | threshold | gap
  | violation
  | receiveOverrun | sendStale
  | frameCheck | frameLength | frameKind | frameCut | intakeOverflow
deriving DecidableEq, Repr

/-- The group an event kind belongs to (R137). -/
def Event.group : Event → Nat
  | .syncChanged | .beaconMissed | .beaconOutOfWindow | .masterConflict | .cycleJump => 0
  | .commitDone | .commitCancelled | .sendSuppressed => 1
  | .laneChanged l | .receiveError l | .transmitFault l => l.group
  | .missing | .faulty | .disagree => 4
  | .sent | .expired | .queueEmpty => 5
  | .threshold | .gap => 6
  | .violation => 7
  | .receiveOverrun | .sendStale => 8
  | .frameCheck | .frameLength | .frameKind | .frameCut | .intakeOverflow => 9

/-- The kind number of an event kind in its group (R137). -/
def Event.number : Event → Nat
  | .syncChanged => 0
  | .beaconMissed => 1
  | .beaconOutOfWindow => 2
  | .masterConflict => 3
  | .cycleJump => 4
  | .commitDone => 0
  | .commitCancelled => 1
  | .sendSuppressed => 2
  | .laneChanged _ => 0
  | .receiveError _ => 1
  | .transmitFault _ => 2
  | .missing => 0
  | .faulty => 1
  | .disagree => 2
  | .sent => 0
  | .expired => 1
  | .queueEmpty => 2
  | .threshold => 0
  | .gap => 1
  | .violation => 0
  | .receiveOverrun => 0
  | .sendStale => 1
  | .frameCheck => 0
  | .frameLength => 1
  | .frameKind => 2
  | .frameCut => 3
  | .intakeOverflow => 4

/-- The kind numbers defined for a group, as a set (R137). -/
def definedKinds : Nat → Word
  | 0 => 0x001F
  | 1 => 0x0007
  | 2 => 0x0007
  | 3 => 0x0007
  | 4 => 0x0007
  | 5 => 0x0007
  | 6 => 0x0003
  | 7 => 0x0001
  | 8 => 0x0003
  | 9 => 0x001F
  | _ => 0

end Sys2Proof.Machine
end

