-- ==== Sys2Proof/Machine/Ops.lean ====
section
/-! DEFINITION. The operations that several commands share: raising an event and composing a notification, answering a
request, filing a record, passing time, cutting a launch. -/
namespace Sys2Proof.Machine

/-! ### The outbound queue (R172) -/

/-- Frames plus reservations (R172). -/
def Link.used (k : Link) : Nat := k.outbound.length + k.reservations

/-- A free place that is not reserved exists (R172). -/
def Link.hasPlace (k : Link) : Bool := decide (k.used < Config.outboundPlaces)

/-- The frame counts toward the limit of 2 (R144, R172). -/
def OutFrame.isNotification (f : OutFrame) : Bool := f.kind == .notify || f.kind == .startup

/-- NOTIFY and STARTUP frames in the outbound queue (R144). -/
def Link.notifications (k : Link) : Nat := k.outbound.countP OutFrame.isNotification

/-- The RESPONSE frame of a result (R182, R187). -/
def responseFrame (tag : Byte) (r : Result) (payload : List Byte) : OutFrame :=
  { kind := .response, tag := tag, code := r.code, payload := payload, fill := none }

/-- A response enters at the tail, filling a reservation (R172, R182). -/
def answer (tag : Byte) (r : Result) (payload : List Byte) (s : State) : State :=
  { s with link := { s.link with
      outbound := s.link.outbound ++ [responseFrame tag r payload]
      reservations := s.link.reservations - 1 } }

/-- The deferred request of this kind, if held, is answered and removed (R183). -/
def answerDeferred (kind : DeferredKind) (r : Result) (s : State) : State :=
  match s.link.deferred with
  | some d =>
    if d.kind = kind then
      let t := answer d.tag r [] s
      { t with link := { t.link with deferred := none } }
    else s
  | none => s

/-! ### The notification unit (R139 to R146) -/

/-- The accumulation a new event begins (R140). -/
def Accumulation.begun (kind : Nat) (cycle : BitVec 6) (d : Detail) : Accumulation :=
  { kinds := BitVec.twoPow 16 kind, count := 1, first := cycle, last := cycle, detail := d }

/-- A further event joins an accumulation (R140). -/
def Accumulation.join (a : Accumulation) (kind : Nat) (cycle : BitVec 6) (d : Detail) : Accumulation :=
  { a with kinds := a.kinds ||| BitVec.twoPow 16 kind, count := min 255 (a.count + 1), last := cycle, detail := d }

/-- An enabled event is accumulated by the delivery state (R140). -/
def Group.accumulate (g : Group) (kind : Nat) (cycle : BitVec 6) (d : Detail) : Group :=
  match g.delivery, g.acc with
  | .idle, _ => { g with acc := some (Accumulation.begun kind cycle d), delivery := .pending }
  | .awaiting, _ => { g with acc := some (Accumulation.begun kind cycle d), delivery := .awaitingMore }
  | _, some a => { g with acc := some (a.join kind cycle d) }
  | _, none => { g with acc := some (Accumulation.begun kind cycle d) }

/-- An event reaches its group: the seen mark is set, and an enabled kind is accumulated (R139). -/
def Group.accept (g : Group) (kind : Nat) (cycle : BitVec 6) (d : Detail) : Group :=
  let g := { g with seen := g.seen ||| BitVec.twoPow 16 kind }
  if g.enable.getLsbD kind then g.accumulate kind cycle d else g

/-- An event reaches the unit with the cycle stamp of R141. -/
def Notifier.accept (n : Notifier) (e : Event) (cycle : BitVec 6) (d : Detail) : Notifier :=
  match n.groups[e.group]? with
  | some g => { n with groups := n.groups.set e.group (g.accept e.number cycle d) }
  | none => n

/-- A group is eligible (R143). -/
def Group.eligible (g : Group) (mask : Nat) : Bool := g.delivery == .pending && decide (mask < g.level)

/-- The eligible group of highest level, and of lowest number among equals, numbered from i (R145). -/
def chooseGroup (mask : Nat) : List Group → Nat → Option (Nat × Group)
  | [], _ => none
  | g :: gs, i =>
    match chooseGroup mask gs (i + 1) with
    | none => if g.eligible mask then some (i, g) else none
    | some (j, h) => if g.eligible mask && decide (h.level ≤ g.level) then some (i, g) else some (j, h)

/-- The group the arbiter takes next (R145). -/
def Notifier.chosen (n : Notifier) : Option (Nat × Group) := chooseGroup n.mask n.groups 0

/-- The three conditions of R144; no frame is composed while a reset is in force (R163). -/
def arbiterReady (s : State) : Bool :=
  s.resetting.isNone && s.notif.chosen.isSome && decide (s.link.notifications < Config.notifyPlaces) && s.link.hasPlace

/-- Payload of a NOTIFY frame (R146, R200). -/
def notifyPayload (sequence : Byte) (a : Accumulation) : List Byte :=
  [sequence] ++ bytes16 a.kinds ++
    [byte a.count, cycleByte a.first, cycleByte a.last, a.detail.d0, a.detail.d1, a.detail.d2, a.detail.d3]

/-- The NOTIFY frame of a group (R146, R187). A PENDING group has an accumulation (R138); without one the items are 0. -/
def notifyFrame (number : Nat) (g : Group) : OutFrame :=
  { kind := .notify, tag := 0, code := byte number
    payload := notifyPayload g.sequence (g.acc.getD ⟨0, 0, 0, 0, ⟨0, 0, 0, 0⟩⟩), fill := none }

/-- The arbiter composes one frame: it enters at the tail, and the group becomes AWAITING with an empty accumulation
(R146). -/
def compose (s : State) : State :=
  match s.notif.chosen with
  | some (i, g) =>
    { s with
      notif := { s.notif with groups := s.notif.groups.set i { g with acc := none, delivery := .awaiting } }
      link := { s.link with outbound := s.link.outbound ++ [notifyFrame i g] } }
  | none => s

/-- The arbiter composes while its conditions hold; the limit of 2 stops it (R144). -/
def composeAll (s : State) : State :=
  let t := if arbiterReady s then compose s else s
  if arbiterReady t then compose t else t

/-- One free choice is consumed (log 5). -/
def countRace (s : State) : State := { s with races := s.races + 1 }

/-- An event is raised (R139 to R142): it reaches its group, and where the arbiter can then compose, it may do so before
the next event of the same occurrence (R142) or wait for the end of the step (log 5). -/
def raise (e : Event) (d : Detail) (s : State) : State :=
  let s := { s with notif := s.notif.accept e s.tb.cycle d }
  if arbiterReady s then
    if Config.arbiterFirst s.races then composeAll (countRace s) else countRace s
  else s

/-- A detail whose last two bytes are 0. -/
def detail2 (a b : Byte) : Detail := ⟨a, b, 0, 0⟩

/-- A detail of a two-byte item, low byte first (R204), and two bytes. -/
def detailWord (w : Word) (c d : Byte) : Detail := ⟨lowByte w, highByte w, c, d⟩

/-! ### The slot record queue (R126 to R129) -/

/-- A record is inserted at the tail with the next record number, and THRESHOLD is raised when the rise reaches the
threshold (R126, R127, R135, R136). -/
def insertRecord (r : Record) (s : State) : State :=
  let occupancy := s.recs.records.length + 1
  let number := s.recs.next
  let t := { s with recs := { s.recs with
    records := s.recs.records ++ [{ r with number := number }], next := number + 1 } }
  if occupancy = s.recs.threshold then
    raise .threshold ⟨byte s.recs.threshold, byte occupancy, lowByte number, highByte number⟩ t
  else t

/-- A record is handed to the queue: inserted, or discarded and counted when the queue is full (R127, R129). -/
def fileRecord (r : Record) (s : State) : State :=
  if s.recs.records.length < Config.recordCapacity then insertRecord r s
  else
    let t := { s with recs := { s.recs with lost := min 65535 (s.recs.lost + 1) } }
    if s.recs.lost = 0 then raise .gap (detailWord s.recs.next r.kind.code (cycleByte r.cycle)) t else t

/-! ### Time (R17) -/

/-- Cycles run (R17). -/
def Sync.running : Sync → Bool
  | .offline | .listen => false
  | .acquire | .locked | .holdover => true

/-- Offset at which a window ends (R40, R56). -/
def Window.ends (w : Window) : Nat := w.entry.start + w.entry.length

/-- Offset of a launch's launch-end event (R8). -/
def Launch.ends (l : Launch) : Nat := l.start + airTime l.payload.length

/-- Lanes of a launch that are not cut (R9). -/
def Launch.onAir (l : Launch) : LaneSet := l.lanes.minus l.cut

/-- The offset to which time may pass before the end of the cycle, of the open window or of the launch in progress comes
first (log 3). -/
def horizon (s : State) : Nat :=
  let h := s.tb.length
  let h := match s.sched.window with
    | some w => min h w.ends
    | none => h
  match s.launch with
  | some l => min h l.ends
  | none => h

/-- In a running cycle the offset m is not past, and no end comes before it (log 3). -/
def reaches (s : State) (m : Nat) : Bool :=
  s.tb.sync.running && decide (s.tb.offset ≤ m) && decide (m ≤ horizon s)

/-- Time passes to offset m of the running cycle (R17). -/
def passTo (m : Nat) (s : State) : State :=
  { s with
    now := s.now + (m - s.tb.offset)
    tb := { s.tb with offset := m, atCycleStart := s.tb.atCycleStart && decide (m = s.tb.offset) } }

/-- Beacon window end B (R19). -/
def beaconWindow (p : Params) : Nat := 20 + 2 * p.tol

/-! ### Launches and lanes leaving (R9, R10, R116) -/

/-- The window context records the launch state (R55). -/
def WindowRole.launched (r : WindowRole) (l : LaunchState) : WindowRole :=
  match r with
  | .send u _ => .send u l
  | .openSlot u _ => .openSlot u l
  | r => r

/-- The open window's context records the launch state (R55). -/
def setLaunchState (l : LaunchState) (s : State) : State :=
  { s with sched := { s.sched with window := s.sched.window.map fun w => { w with role := w.role.launched l } } }

/-- An ON_AIR entry returns to QUEUED in its place (R116). -/
def SporadicQueue.requeue (q : SporadicQueue) : SporadicQueue :=
  { q with entries := q.entries.map fun e => { e with onAir := false } }

/-! #### The receivers (R10, R12, R15) -/

/-- A launch begins at this moment: a message in progress, whose carrier started before, is abandoned; a beacon that has
ended by this moment is not (R15, R25). -/
def Receiver.abandon (now : Nat) (r : Receiver) : Receiver :=
  if r.busy < now then { r with busy := now, floor := r.busy } else r

/-- The launch ends, or is cut, at this moment: the lane was not quiet while it was on the air, and no carrier started
(R2, R8). -/
def Receiver.resume (now : Nat) (r : Receiver) : Receiver :=
  if r.busy < now then { r with busy := now, floor := now } else r

/-- The receiver leaves OFF at this moment (R10). -/
def Receiver.listen (now : Nat) (r : Receiver) : Receiver := { r with since := now }

/-- The lane's activity up to this moment is handed on. -/
def Receiver.occupy (now : Nat) (r : Receiver) : Receiver := { r with busy := now, floor := now }

/-- An EXPECT or QUIET span is over. A carrier starts no more than 4 microticks before its message's arrival, which is no
more than 268 before its end (R3, R4), so older spans are forgotten. -/
def Receiver.close (now : Nat) (x : Span) (r : Receiver) : Receiver :=
  { r with spans := x :: r.spans.filter fun y => decide (now < y.closed + 272) }

/-- The receivers of these lanes change. -/
def receivers (lanes : LaneSet) (f : Receiver → Receiver) (s : State) : State := { s with rx := s.rx.on lanes f }

/-- The lanes an open EXPECT window still listens on, or an open QUIET window still watches (R10). -/
def WindowRole.holds (r : WindowRole) : LaneSet :=
  match r with
  | .expect t _ left | .quiet t _ left _ => t.minus left
  | _ => LaneSet.none

/-- The context is an EXPECT window's. -/
def WindowRole.isExpect : WindowRole → Bool
  | .expect .. => true
  | _ => false

/-- The open window's span up to this moment; `now` and `offset` are of one moment of its cycle (R10, R56). -/
def spanOf (s : State) (w : Window) (closed : Nat) : Span :=
  { opened := s.now + w.entry.start - s.tb.offset, closed := closed, judges := w.role.isExpect }

/-- The receivers of an open window that ends or is abandoned return to the mode that follows (R12, R57, R63). DESIGN CHOICE
(log 33): a message whose carrier started in an EXPECT window that is abandoned is not taken afterwards, as after one that
ends. -/
def windowReceivers (s : State) : PerLane Receiver :=
  match s.sched.window with
  | some w => s.rx.on w.role.holds (Receiver.close s.now (spanOf s w s.now))
  | none => s.rx

/-- The launch in progress is cut on these lanes (R9). When no lane of it is left, it has no launch-end event: the
context records it as cut (R59) and a sporadic entry returns to QUEUED (R116). -/
def cutLaunch (lanes : LaneSet) (s : State) : State :=
  match s.launch with
  | none => s
  | some l =>
    let l' := { l with cut := l.cut.union (l.lanes.inter lanes) }
    if l'.onAir.isEmpty then
      let t := if l.kind = .beacon then s else setLaunchState .cut s
      { t with
        launch := none, spor := if l.kind = .sporadic then s.spor.requeue else s.spor
        rx := s.rx.on (l.onAir.inter lanes) (Receiver.resume s.now) }
    else { s with launch := some l', rx := s.rx.on (l.onAir.inter lanes) (Receiver.resume s.now) }

/-- The role part of the context after a lane abandons an EXPECT or QUIET window (R10). -/
def WindowRole.without (r : WindowRole) (l : Lane) : WindowRole :=
  match r with
  | .expect t p left => .expect t p (left.union (t.inter (LaneSet.single l)))
  | .quiet t p left b => .quiet t p (left.union (t.inter (LaneSet.single l))) b
  | r => r

/-- A lane leaves ACTIVE and PROBATION: its launch is cut, and it abandons the window it listens or watches in
(R9, R10). -/
def laneLeaves (l : Lane) (s : State) : State :=
  let t := cutLaunch (LaneSet.single l) s
  { t with sched := { t.sched with window := t.sched.window.map fun w => { w with role := w.role.without l } } }

/-- The ACTIVE lanes. -/
def activeLanes (s : State) : LaneSet := LaneSet.filter fun l => (s.lanes.get l).state == .active

/-- The PROBATION lanes. -/
def probationLanes (s : State) : LaneSet := LaneSet.filter fun l => (s.lanes.get l).state == .probation

/-- The bank's entry at a position; none for an empty position and for a number that names none. -/
def Bank.entryAt (b : Bank) (position : Nat) : Option Entry := (b[position]?).join

/-- Number of non-empty positions (R64). -/
def Bank.occupied (b : Bank) : Nat := b.countP Option.isSome

/-- The entry is active in the cycle (R40). -/
def Entry.activeIn (e : Entry) (c : BitVec 6) : Bool := e.cycles.getLsbD c.toNat

end Sys2Proof.Machine
end

