-- ==== Sys2Proof/Machine/Bus.lean ====
section
/-! DEFINITION. Messages on the lanes: the judgement of an EXPECT window (R13, R14), the echo check (R16), free messages
(R15) and the combination of the two lanes (R87, R88). -/
namespace Sys2Proof.Machine

/-! ### Judging an EXPECT window -/

/-- The judged message of a window as it stood at the window end, with its arrival offset (R12). -/
structure Judged where
  arrival : Nat
  body : Message
deriving DecidableEq, Repr

/-- The judged message among the carriers of a window that ends at offset m: the first whose start delimiter was recognised
before it, which is 2 microseconds after its arrival. Noise is forgotten, and every later carrier is ignored (R2, R3, R12). -/
def judged (m : Nat) : List Heard → Option Judged
  | [] => none
  | .noise _ _ :: hs => judged m hs
  | .message _ arrival body :: hs =>
    if body.recognised && decide (arrival + Config.delimiterTime < m) then some ⟨arrival, body.upTo (m - arrival)⟩
    else judged m hs

/-- The arrival lies in the range of test 2 (R13). -/
def arrivalInRange (e : Entry) (tol arrival : Nat) : Bool :=
  decide (e.start + 4 ≤ arrival + tol) && decide (arrival ≤ e.start + 4 + tol)

/-- Test 4 of R13. -/
def formatFails (e : Entry) (cycle : BitVec 6) (h1 h2 : Word) : Bool :=
  decide (headerKind h1 = kindBeacon) || decide (headerKind h1 = 0) || decide (headerSpare h1 ≠ 0) ||
    decide (headerSender h1 = 0) || decide (headerSlot h2 ≠ e.slot) ||
    decide (e.maxWords.getD 0 < headerLength h1) ||
    (decide (headerKind h1 = kindNull) && decide (headerLength h1 ≠ 0)) || decide (headerCycle h2 ≠ cycle)

/-- Test 5 of R13. -/
def senderFails (e : Entry) (h1 : Word) : Bool :=
  match e.sender with
  | some (.node n) => decide (headerSender h1 ≠ n)
  | _ => false

/-- The message was cut (R2). -/
def Ending.isCut : Ending → Bool
  | .cut _ => true
  | _ => false

/-- The lane outcome of a window (R13); `cycle` is the window's cycle number. A message that had not ended by the window
end is in progress there. -/
def judge (e : Entry) (tol : Nat) (cycle : BitVec 6) : Option Judged → Outcome
  | none => .silent
  | some j =>
    if !arrivalInRange e tol j.arrival || j.body.ending == .inProgress then .timing
    else if Ending.isCut j.body.ending || !j.body.checkRight then .check
    else
      match j.body.header with
      | none => .check
      | some (h1, h2) =>
        if formatFails e cycle h1 h2 then .format
        else if senderFails e h1 then .sender
        else if headerKind h1 = kindNull then .null
        else .good

/-- The facts delivered with a lane outcome (R14). -/
structure Facts where
  arrival : Option Nat
  endOffset : Option Nat
  header : Option (Word × Word)
  payload : List Word
deriving DecidableEq, Repr

/-- The end offset of a message whose end delimiter was recognised (R11, R14). -/
def Judged.endOffset (j : Judged) : Option Nat :=
  if j.body.ending = .delimiter then some (j.arrival + j.body.airAfter) else none

/-- The facts the outcome allows (R14). -/
def factsOf (o : Outcome) : Option Judged → Facts
  | none => ⟨none, none, none, []⟩
  | some j =>
    match o with
    | .timing | .format | .sender | .null => ⟨some j.arrival, j.endOffset, j.body.header, []⟩
    | .check => ⟨some j.arrival, j.endOffset, none, []⟩
    | .good => ⟨some j.arrival, j.endOffset, j.body.header, j.body.payload⟩
    | _ => ⟨none, none, none, []⟩

/-! ### The echo check -/

/-- The words a launch sends: header, payload, check word (R3, R5). -/
def Launch.words (l : Launch) : List Word :=
  let body := l.header1 :: l.header2 :: l.payload
  body ++ [busCheck body]

/-- The echo outcome of a lane (R16). -/
def echoOutcome (l : Launch) (e : Echo) : Outcome :=
  if e.startDelimiter = true ∧ e.words = l.words ∧ e.endDelimiter = true ∧ e.carrierLost = false then .echoOk
  else .echoFault

/-- Each lane's echo outcome at the launch-end event; a lane not in U, or cut, forms none (R9, R16). -/
def echoOutcomes (l : Launch) (a b : Echo) : PerLane Outcome :=
  { a := if l.onAir.has .A then echoOutcome l a else .notUsed
    b := if l.onAir.has .B then echoOutcome l b else .notUsed }

/-! ### Free messages -/

/-- The offset stamp of an arrival (R11, R30). -/
inductive Stamp where
  /-- stamped with an offset of the cycle that runs now -/
  | thisCycle (offset : Nat)
  /-- stamped with an offset of a cycle that has ended, whose current length was this -/
  | pastCycle (offset length : Nat)
  /-- no cycle ran at the arrival -/
  | noCycle
deriving DecidableEq, Repr

/-- The stamp of an arrival at this moment (R11). -/
def stampOf (s : State) (arrival : Nat) : Stamp :=
  if s.tb.sync.running && decide (s.tb.began ≤ arrival) then .thisCycle (s.tb.offset - (s.now - arrival))
  else
    match s.tb.past.find? fun c => decide (c.began ≤ arrival) && decide (arrival < c.ended) with
    | some c => .pastCycle (c.offset - (c.ended - arrival)) c.length
    | none => .noCycle

/-- The cycles to remember when the running cycle ends now: no message lasts longer than 268 microseconds after its
arrival (R4, R11). -/
def pastCycles (s : State) : List PastCycle :=
  ⟨s.tb.began, s.now, s.tb.offset, s.tb.length⟩ :: s.tb.past.filter fun c => decide (s.now < c.ended + 268)

/-- The check result is right and the message was not cut (R5, R15). -/
def freeCheckRight (m : Message) : Bool := m.ending == .delimiter && m.checkRight

/-- The beacon line of R15: kind BEACON, n = 0, slot id 0, spare bits 0, sender 1 to 63. -/
def freeIsBeacon (h1 h2 : Word) : Bool :=
  decide (headerKind h1 = kindBeacon) && decide (headerLength h1 = 0) && decide (headerSlot h2 = 0) &&
    decide (headerSpare h1 = 0) && decide (headerSender h1 ≠ 0)

/-- A message that is a beacon, by the first line of R15. -/
def isBeacon (m : Message) : Bool := freeCheckRight m && m.header.any fun h => freeIsBeacon h.1 h.2

/-- The arrival lies in the beacon window or in the cycle tail, while a cycle runs (R15, R19). -/
def arrivalIsWatched (s : State) (arrival : Stamp) : Bool :=
  match arrival with
  | .thisCycle a | .pastCycle a _ =>
    s.tb.sync.running && (decide (a < beaconWindow s.cfg) || decide (s.cfg.cycleLength ≤ a + 20))
  | .noCycle => false

/-- The beacon outcome a free message forms, if any (R15). -/
def beaconOutcome (s : State) (arrival : Stamp) (m : Message) : Option Outcome :=
  match freeCheckRight m, m.header with
  | true, some (h1, h2) =>
    if freeIsBeacon h1 h2 then some .good
    else if headerKind h1 = kindBeacon then some .format
    else none
  | _, _ => if arrivalIsWatched s arrival then some .check else none

/-! ### Combination -/

/-- Kind of a combined outcome (R87). -/
inductive CombinedKind where
  | received | nullHeard | missing | faulty
deriving DecidableEq, Repr

/-- The combined outcome (R87, R88). -/
structure Combined where
  kind : CombinedKind
  good : LaneSet
  disagree : Bool
  source : Option Lane
deriving DecidableEq, Repr

/-- What one lane brings to the combination. -/
structure LaneView where
  /-- the lane is considered (R87) -/
  considered : Bool
  outcome : Outcome
  facts : Facts
deriving DecidableEq, Repr

/-- A considered lane with this outcome. -/
def LaneView.gives (v : LaneView) (o : Outcome) : Bool := v.considered && v.outcome == o

/-- Two GOOD lanes carry the same header words and payload words (R87). -/
def sameWords (a b : LaneView) : Bool :=
  a.facts.header == b.facts.header && a.facts.payload == b.facts.payload

/-- A lane that is not considered, or considered and SILENT (R87). -/
def LaneView.quiet (v : LaneView) : Bool := !v.considered || v.outcome == .silent

/-- The combined outcome of the considered lanes: the first row of R87 that applies. -/
def combine (preferred : Lane) (v : PerLane LaneView) : Combined :=
  let goodA := v.a.gives .good
  let goodB := v.b.gives .good
  let nullA := v.a.gives .null
  let nullB := v.b.gives .null
  if goodA && goodB then ⟨.received, LaneSet.both, !sameWords v.a v.b, some preferred⟩
  else if goodA then ⟨.received, LaneSet.single .A, nullB, some .A⟩
  else if goodB then ⟨.received, LaneSet.single .B, nullA, some .B⟩
  else if nullA && nullB then ⟨.nullHeard, LaneSet.none, false, some preferred⟩
  else if nullA then ⟨.nullHeard, LaneSet.none, false, some .A⟩
  else if nullB then ⟨.nullHeard, LaneSet.none, false, some .B⟩
  else if v.a.quiet && v.b.quiet then ⟨.missing, LaneSet.none, false, none⟩
  else ⟨.faulty, LaneSet.none, false, none⟩

/-- Bit of an outcome in an error set (R188). -/
def errorBit : Outcome → Byte
  | .timing => 1
  | .check => 2
  | .format => 4
  | .sender => 8
  | _ => 0

/-- Error set of the considered lanes (R88). -/
def errorSet (v : PerLane LaneView) : Byte :=
  (if v.a.considered then errorBit v.a.outcome else 0) ||| (if v.b.considered then errorBit v.b.outcome else 0)

/-- The reporting lane of a FAULTY record: the first considered lane, the preferred one first, that delivered an arrival
(R128). -/
def reportingLane (preferred : Lane) (v : PerLane LaneView) : Option Lane :=
  let delivers := fun l => (v.get l).considered && (v.get l).facts.arrival.isSome
  if delivers preferred then some preferred
  else if delivers preferred.other then some preferred.other
  else none

end Sys2Proof.Machine
end

