-- ==== Sys2Proof/Machine/Lanes.lean ====
section
/-! DEFINITION. The lane units: state changes, debit, grading of outcomes, and their reaction to a cycle-start event
(Chapter 5). -/
namespace Sys2Proof.Machine

/-- A lane takes new values that change its state, and STATE_CHANGED is raised (R106). -/
def changeLane (l : Lane) (cause : LaneCause) (u : LaneUnit) (s : State) : State :=
  raise (.laneChanged l) ⟨(s.lanes.get l).state.code, u.state.code, cause.code, byte u.debit⟩
    { s with lanes := s.lanes.set l u }

/-- New debit of a lane. -/
def setDebit (l : Lane) (d : Nat) (s : State) : State :=
  { s with lanes := s.lanes.set l { s.lanes.get l with debit := d } }

/-- A lane enters FAULTED (R92, R95, R97). -/
def faultLane (l : Lane) (cause : LaneCause) (s : State) : State :=
  changeLane l cause { state := .faulted, debit := s.cfg.debitLimit, hold := 0, clean := 0, good := false }
    (laneLeaves l s)

/-- A lane enters PROBATION, and its receiver leaves OFF (R10, R97). -/
def enterProbation (l : Lane) (cause : LaneCause) (s : State) : State :=
  changeLane l cause { state := .probation, debit := 0, hold := 0, clean := 0, good := false }
    { s with rx := s.rx.update l (Receiver.listen s.now) }

/-- An increase of an ACTIVE lane's debit; `report` raises the outcome's event with the debit after the outcome, and a
debit that reaches the limit faults the lane after it (R91, R92, R106). -/
def chargeLane (l : Lane) (amount : Nat) (report : Nat → State → State) (s : State) : State :=
  let d := (s.lanes.get l).debit + amount
  if s.cfg.debitLimit ≤ d then
    faultLane l .debitLimit (report s.cfg.debitLimit (setDebit l s.cfg.debitLimit s))
  else report d (setDebit l d s)

/-- A decrease by 1, which stops at 0 (R91). -/
def creditLane (l : Lane) (s : State) : State := setDebit l ((s.lanes.get l).debit - 1) s

/-- RECEIVE_ERROR with its detail (R106); position none is a beacon outcome. -/
def reportReceiveError (l : Lane) (o : Outcome) (position : Option Nat) (cycle : BitVec 6) (debit : Nat) (s : State) :
    State :=
  raise (.receiveError l) ⟨o.code, optByte position, cycleByte cycle, byte debit⟩ s

/-- An outcome that counts as an error of the lane (R91, R97). -/
def Outcome.isError : Outcome → Bool
  | .timing | .check | .format => true
  | _ => false

/-- An outcome that lowers the debit and sets the good mark (R91, R97). -/
def Outcome.isClean : Outcome → Bool
  | .good | .null => true
  | _ => false

/-- A lane outcome or beacon outcome acts on its lane by the lane state at the moment (R86, R91, R97). `charged`: a SILENT
outcome whose partner was considered and GOOD or NULL. -/
def gradeOutcome (l : Lane) (o : Outcome) (charged : Bool) (position : Option Nat) (cycle : BitVec 6) (s : State) :
    State :=
  match (s.lanes.get l).state with
  | .active =>
    if o.isClean then creditLane l s
    else if o.isError then chargeLane l 2 (reportReceiveError l o position cycle) s
    else if o = .silent ∧ charged = true then chargeLane l 2 (fun _ t => t) s
    else s
  | .probation =>
    if o.isClean then { s with lanes := s.lanes.set l { s.lanes.get l with good := true } }
    else if o.isError then
      faultLane l .probationError (reportReceiveError l o position cycle s.cfg.debitLimit s)
    else s
  | .faulted | .disabled => s

/-- TRANSMIT_FAULT with its detail (R106); position none is a beacon launch. -/
def reportTransmitFault (l : Lane) (k : LaunchKind) (position : Option Nat) (cycle : BitVec 6) (debit : Nat)
    (s : State) : State :=
  raise (.transmitFault l) ⟨k.code, optByte position, cycleByte cycle, byte debit⟩ s

/-- An echo outcome acts on its lane (R91, R94). Echo outcomes come from ACTIVE lanes alone (R86). -/
def gradeEcho (l : Lane) (o : Outcome) (k : LaunchKind) (position : Option Nat) (cycle : BitVec 6) (s : State) :
    State :=
  if (s.lanes.get l).state = .active then
    if o = .echoOk then creditLane l s
    else if o = .echoFault then chargeLane l 4 (reportTransmitFault l k position cycle) s
    else s
  else s

/-- The hold time has been served: a FAULTED lane becomes PROBATION (R96). -/
def holdServed (s : State) (l : Lane) : Bool :=
  (s.lanes.get l).state == .faulted && s.cfg.autoReadmission && decide (s.cfg.holdTime ≤ (s.lanes.get l).hold)

/-- Probation has been passed (R98). -/
def probationServed (s : State) (l : Lane) : Bool :=
  (s.lanes.get l).state == .probation && decide (s.cfg.probationCount ≤ (s.lanes.get l).clean)

/-- A lane enters ACTIVE through probation (R98). -/
def promoteLane (l : Lane) (s : State) : State :=
  changeLane l .probationPassed { state := .active, debit := 0, hold := 0, clean := 0, good := false } s

/-- A lane unit's reaction to a cycle-start event: a FAULTED lane's hold count advances and may be served (R96), a
PROBATION lane's cycle is judged and may promote it (R98). -/
def laneCycleStart (l : Lane) (s : State) : State :=
  let u := s.lanes.get l
  match u.state with
  | .faulted =>
    let t := { s with lanes := s.lanes.set l { u with hold := min 255 (u.hold + 1) } }
    if holdServed t l then enterProbation l .holdExpired t else t
  | .probation =>
    let judged := { u with clean := if u.good then min 255 (u.clean + 1) else u.clean, good := false }
    let t := { s with lanes := s.lanes.set l judged }
    if probationServed t l then promoteLane l t else t
  | .active | .disabled => s

end Sys2Proof.Machine
end

