-- ==== Sys2Proof/Machine/Buffers.lean ====
section
/-! DEFINITION. The buffer pool: reading and setting a buffer, the two relations, the snapshot, receptions, ageing, and
the buffer status record (Chapter 4). -/
namespace Sys2Proof.Machine

/-- Buffer n; a number that names none reads as UNUSED. -/
def bufferAt (s : State) (n : Nat) : Buffer := (s.bufs[n]?).getD Buffer.unused

/-- A new value for buffer n. -/
def setBuffer (n : Nat) (b : Buffer) (s : State) : State := { s with bufs := s.bufs.set n b }

/-- An entry of the bank with role SEND or EXPECT names the buffer (R66). -/
def Bank.names (b : Bank) (n : Nat) : Bool :=
  b.any fun p =>
    match p with
    | some e => (e.role == .send || e.role == .expect) && e.buffer == some n
    | none => false

/-- The buffer is referenced (R66). -/
def referenced (s : State) (n : Nat) : Bool :=
  s.sched.active.names n || (s.sched.commitPending && s.sched.edit.names n)

/-- The buffer is held by an entry of the sporadic queue (R66). -/
def isHeld (s : State) (n : Nat) : Bool := s.spor.entries.any fun e => e.buffer == n

/-! ### Kinds (R65, R67) -/

/-- The buffer is of kind SEND. -/
def Buffer.isSend (b : Buffer) : Bool := b.status.kindCode == 1
/-- The buffer is of kind RECEIVE. -/
def Buffer.isReceive (b : Buffer) : Bool := b.status.kindCode == 2
/-- The buffer is of kind SPORADIC. -/
def Buffer.isSporadic (b : Buffer) : Bool := b.status.kindCode == 3

/-- Status of a RECEIVE buffer after BSETUP (R67). -/
def RxStatus.setup : RxStatus :=
  { state := .empty, sender := none, lanes := LaneSet.none, disagree := false, arrival := none, lastData := none,
    lastHeard := none, nullSeen := false, sequence := 0, age := 255 }

/-- Status after BSETUP with a kind code and a policy (R67). -/
def BufferStatus.setup (kind : Nat) (policy : Policy) : BufferStatus :=
  if kind = 1 then .send .empty policy 0 0
  else if kind = 2 then .receive RxStatus.setup
  else if kind = 3 then .sporadic 0
  else .unused

/-! ### Launches (R71, R74) -/

/-- What a launch carries (R71). -/
structure Snapshot where
  data : Bool
  payload : List Word
  sequence : BitVec 4
  /-- SEND_STALE is raised -/
  stale : Bool
  /-- the buffer after the launch-start event -/
  after : Buffer
deriving DecidableEq, Repr

/-- The snapshot of a SEND buffer at a launch-start event, and the buffer after it: the four rows of R71. None for a
buffer that is not SEND, which validation keeps out of a SEND entry (R41). -/
def Buffer.snapshot (b : Buffer) (maxWords : Nat) : Option Snapshot :=
  match b.status with
  | .send freshness policy seq count =>
    let count' := min 255 (count + 1)
    let data : Snapshot :=
      { data := true, payload := b.words.take maxWords, sequence := seq + 1, stale := false
        after := { b with status := .send .stale policy (seq + 1) count' } }
    match freshness, policy with
    | .empty, _ =>
      some { data := false, payload := [], sequence := seq, stale := false
             after := { b with status := .send .empty policy seq count' } }
    | .fresh, _ => some data
    | .stale, .repeat => some data
    | .stale, .once =>
      some { data := false, payload := [], sequence := seq, stale := true
             after := { b with status := .send .stale policy seq count' } }
  | _ => none

/-- A SPORADIC buffer's sequence count after a launch, and the buffer after it (R74). -/
def Buffer.sporadicLaunch (b : Buffer) : BitVec 4 × Buffer :=
  match b.status with
  | .sporadic seq => (seq + 1, { b with status := .sporadic (seq + 1) })
  | _ => (0, b)

/-! ### Receptions (R76, R77, R79) -/

/-- What a RECEIVED outcome brings to a buffer (R76). -/
structure Reception where
  words : List Word
  sender : Nat
  sequence : BitVec 4
  lanes : LaneSet
  disagree : Bool
  arrival : Option Nat
  cycle : BitVec 6
deriving DecidableEq, Repr

/-- A RECEIVE buffer after a RECEIVED outcome (R76). -/
def Buffer.store (b : Buffer) (r : Reception) : Buffer :=
  match b.status with
  | .receive _ =>
    { words := r.words
      status := .receive { state := .new, sender := some r.sender, lanes := r.lanes, disagree := r.disagree
                           arrival := r.arrival, lastData := some r.cycle, lastHeard := some r.cycle
                           nullSeen := false, sequence := r.sequence, age := 0 } }
  | _ => b

/-- A RECEIVE buffer holds data the host has not read (R78). -/
def Buffer.isNew (b : Buffer) : Bool :=
  match b.status with
  | .receive r => r.state == .new
  | _ => false

/-- A RECEIVE buffer after a NULL_HEARD outcome (R77). -/
def Buffer.heardNull (b : Buffer) (cycle : BitVec 6) : Buffer :=
  match b.status with
  | .receive r => { b with status := .receive { r with nullSeen := true, lastHeard := some cycle } }
  | _ => b

/-- A buffer after a cycle-start event (R79). -/
def Buffer.aged (b : Buffer) : Buffer :=
  match b.status with
  | .receive r => { b with status := .receive { r with age := min 255 (r.age + 1) } }
  | _ => b

/-- Every RECEIVE buffer ages at a cycle-start event (R79). -/
def ageBuffers (s : State) : State := { s with bufs := s.bufs.map Buffer.aged }

/-- A RECEIVE buffer after BREAD without peek (R80). -/
def Buffer.markRead (b : Buffer) : Buffer :=
  match b.status with
  | .receive r => if r.state = .new then { b with status := .receive { r with state := .read } } else b
  | _ => b

/-- A buffer after a BWRITE (R70). -/
def Buffer.write (b : Buffer) (ws : List Word) : Buffer :=
  match b.status with
  | .send _ policy seq _ => { words := ws, status := .send .fresh policy seq 0 }
  | status => { words := ws, status := status }

/-! ### The buffer status record (R199) -/

/-- The thirteen bytes of R199. -/
def statusRecord (n : Nat) (b : Buffer) (held : Bool) : List Byte :=
  match b.status with
  | .unused => [byte n, 0, 0, 0, 0, 0, 0, 0, 0, 0, 0, 0, 0]
  | .send freshness policy seq count =>
    [byte n, 1, byte b.words.length, freshness.code, policy.code, seq.setWidth 8, byte count, 0, 0, 0, 0, 0, 0]
  | .receive r =>
    [byte n, 2, byte b.words.length, r.state.code, optByte r.sender, r.lanes.code,
      flagByte r.disagree ||| (flagByte r.nullSeen <<< 1)] ++ optBytes16 r.arrival ++
      [optByte (r.lastData.map BitVec.toNat), optByte (r.lastHeard.map BitVec.toNat), r.sequence.setWidth 8, byte r.age]
  | .sporadic seq =>
    [byte n, 3, byte b.words.length, seq.setWidth 8, flagByte held, 0, 0, 0, 0, 0, 0, 0, 0]

/-- The status record of buffer n as it stands. -/
def statusOf (s : State) (n : Nat) : List Byte := statusRecord n (bufferAt s n) (isHeld s n)

end Sys2Proof.Machine
end

