-- ==== Sys2Proof/Machine/Schedule.lean ====
section
/-! DEFINITION. Validation of a bank (R41, R42) and the commit (R50 to R54). -/
namespace Sys2Proof.Machine

/-- A failed validation: the reason, position i, and position j of a pair reason (R42). -/
structure Failure where
  reason : Reason
  i : Nat
  j : Option Nat
deriving DecidableEq, Repr

/-- What TABLE_INVALID carries (R187). -/
def Failure.payload (f : Failure) : List Byte := [f.reason.code, byte f.i, optByte f.j]

/-- Shortest window of an entry's role (R41). -/
def Entry.minimum (e : Entry) (tol : Nat) : Nat :=
  match e.role with
  | .send | .expect => airTime (e.maxWords.getD 0) + 2 * tol
  | .openSlot => 20 + 2 * tol
  | .quiet => 1

/-- The buffer kind test of R41: the entry's buffer is not of the kind its role needs. -/
def Entry.wrongBuffer (e : Entry) (bufs : List Buffer) : Bool :=
  let b := (e.buffer.bind fun n => bufs[n]?).getD Buffer.unused
  match e.role with
  | .send => !b.isSend
  | .expect => !b.isReceive
  | .openSlot | .quiet => false

/-- The single-entry tests in order (R41). -/
def Entry.fault (e : Entry) (p : Params) (bufs : List Buffer) : Option Reason :=
  if e.cycles = 0 then some .cyclesEmpty
  else if e.lanes.isEmpty then some .lanesNone
  else if e.start < beaconWindow p then some .beforeBeacon
  else if p.cycleLength < e.start + e.length + 20 then some .pastTail
  else if e.length < e.minimum p.tol then some .windowShort
  else if e.wrongBuffer bufs then some .bufferKind
  else if e.role = .expect ∧ e.sender = some (.node p.nodeId) then some .senderSelf
  else none

/-- The two pair tests in order (R42). -/
def pairFault (e f : Entry) : Option Reason :=
  if e.cycles &&& f.cycles ≠ 0 then
    if e.start < f.start + f.length ∧ f.start < e.start + e.length then some .overlap
    else if e.slot = f.slot then some .dupSlot
    else none
  else none

/-- The non-empty positions from i on, in ascending order. -/
def occupiedFrom : Bank → Nat → List (Nat × Entry)
  | [], _ => []
  | none :: b, i => occupiedFrom b (i + 1)
  | some e :: b, i => (i, e) :: occupiedFrom b (i + 1)

/-- First failing entry (R41). -/
def firstEntryFault (p : Params) (bufs : List Buffer) : List (Nat × Entry) → Option Failure
  | [] => none
  | (i, e) :: es =>
    match e.fault p bufs with
    | some r => some ⟨r, i, none⟩
    | none => firstEntryFault p bufs es

/-- First failing pair (i, j) for one i (R42). -/
def firstPartnerFault (i : Nat) (e : Entry) : List (Nat × Entry) → Option Failure
  | [] => none
  | (j, f) :: fs =>
    match pairFault e f with
    | some r => some ⟨r, i, some j⟩
    | none => firstPartnerFault i e fs

/-- First failing pair (R42). -/
def firstPairFault : List (Nat × Entry) → Option Failure
  | [] => none
  | (i, e) :: es =>
    match firstPartnerFault i e es with
    | some f => some f
    | none => firstPairFault es

/-- Validation of a bank against a configuration and the buffer kinds (R41, R42); none when the bank is valid. -/
def validate (p : Params) (bufs : List Buffer) (b : Bank) : Option Failure :=
  let es := occupiedFrom b 0
  match firstEntryFault p bufs es with
  | some f => some f
  | none => firstPairFault es

/-! ### Commit -/

/-- COMMIT_DONE with its detail (R64). -/
def raiseCommitDone (cause : CommitCause) (s : State) : State :=
  raise .commitDone ⟨cause.code, cycleByte s.tb.cycle, byte s.sched.active.occupied, 0⟩ s

/-- The ACTIVE bank becomes a copy of the EDIT bank and no commit is pending (R50, R52, R53). -/
def copyEdit (s : State) : State :=
  { s with sched := { s.sched with active := s.sched.edit, commitPending := false } }

/-- A pending commit takes effect: the copy, the deferred TCOMMIT's answer, COMMIT_DONE (R52, R53). DESIGN CHOICE (log 16):
at a cycle-start event and on a fall to LISTEN the answer enters the outbound queue before COMMIT_DONE is raised, and so
before a NOTIFY frame it causes; R52 and R53 give no order, and R159 lists the two in this order for STOP. -/
def settleCommit (cause : CommitCause) (s : State) : State :=
  if s.sched.commitPending then raiseCommitDone cause (answerDeferred .tcommit .ok (copyEdit s)) else s

/-- The open window is abandoned, or ends: its context is discarded, and its receivers return to the mode that follows
(R55, R57). -/
def abandonWindow (s : State) : State := { s with sched := { s.sched with window := none }, rx := windowReceivers s }

end Sys2Proof.Machine
end

