-- ==== Sys2Proof/Machine/Sporadic.lean ====
section
/-! DEFINITION. The sporadic queue: tickets, selection, removal and expiry (Chapter 6). -/
namespace Sys2Proof.Machine

/-- The ticket after t: 65,535 is followed by 1 (R110). -/
def nextTicket (t : Nat) : Nat := if t < 65535 then t + 1 else 1

/-- The first candidate that no entry carries (R110); each candidate passed over is the ticket of an entry, so as many
passes as there are entries suffice. -/
def freeTicket (entries : List SporadicEntry) : Nat → Nat → Nat
  | 0, c => c
  | passes + 1, c => if entries.any (fun e => e.ticket == c) then freeTicket entries passes (nextTicket c) else c

/-- The ticket SPOST gives (R110). -/
def SporadicQueue.newTicket (q : SporadicQueue) : Nat := freeTicket q.entries q.entries.length (nextTicket q.counter)

/-- The entry with a ticket. -/
def SporadicQueue.find (q : SporadicQueue) (ticket : Nat) : Option SporadicEntry :=
  q.entries.find? fun e => e.ticket == ticket

/-- The entry with a ticket is removed and the others close up (R108). -/
def removeTicket (ticket : Nat) (s : State) : State :=
  { s with spor := { s.spor with entries := s.spor.entries.filter fun e => e.ticket != ticket } }

/-- Words in an entry's buffer (R109). -/
def entryLength (s : State) (e : SporadicEntry) : Nat := (bufferAt s e.buffer).words.length

/-- The three tests of R112 on an entry that is QUEUED, for the OPEN entry o. -/
def sporadicEligible (s : State) (o : Entry) (e : SporadicEntry) : Bool :=
  !e.onAir && (match e.slot with
    | none => true
    | some k => k == o.slot) &&
    decide (airTime (entryLength s e) + 2 * s.cfg.tol ≤ o.length) &&
    !((e.lanes.inter o.lanes).inter (activeLanes s)).isEmpty

/-- The eligible entry of highest priority, the earliest among equals (R113). -/
def chooseSporadic (eligible : SporadicEntry → Bool) : List SporadicEntry → Option SporadicEntry
  | [] => none
  | e :: es =>
    match chooseSporadic eligible es with
    | none => if eligible e then some e else none
    | some f => if eligible e && decide (f.priority ≤ e.priority) then some e else some f

/-- The entry an OPEN window chooses (R113). -/
def selectSporadic (s : State) (o : Entry) : Option SporadicEntry :=
  chooseSporadic (sporadicEligible s o) s.spor.entries

/-- The entry with a ticket becomes ON_AIR (R113). -/
def SporadicQueue.putOnAir (q : SporadicQueue) (ticket : Nat) : SporadicQueue :=
  { q with entries := q.entries.map fun e => if e.ticket = ticket then { e with onAir := true } else e }

/-- A ticket as the two-byte detail of a record (R201). -/
def ticketDetail (t : Nat) : Byte × Byte := (lowByte (BitVec.ofNat 16 t), highByte (BitVec.ofNat 16 t))

/-- The SPORADIC_EXPIRED record (R118, R128); its number is given at insertion. -/
def expiredRecord (e : SporadicEntry) (cycle : BitVec 6) : Record :=
  { kind := .sporadicExpired, number := 0, cycle := cycle, slot := e.slot.getD 0, position := none
    outcomes := ⟨.notUsed, .notUsed⟩, sender := none, words := none, arrival := none, endOffset := none
    detail := ticketDetail e.ticket, disagree := false, probation := false }

/-- One expiry (R118). -/
def expireEntry (e : SporadicEntry) (s : State) : State :=
  raise .expired (detailWord (BitVec.ofNat 16 e.ticket) (byte e.buffer) (cycleByte s.tb.cycle))
    (fileRecord (expiredRecord e s.tb.cycle) (removeTicket e.ticket s))

/-- QUEUE_EMPTY after removals that left the queue empty (R122): cause 1 SENT, 2 EXPIRED. -/
def raiseQueueEmpty (ticket : Nat) (cause : Byte) (cycle : BitVec 6) (s : State) : State :=
  if s.spor.entries.isEmpty then
    raise .queueEmpty (detailWord (BitVec.ofNat 16 ticket) cause (cycleByte cycle)) s
  else s

/-- The QUEUED entries whose life has run out, in queue order (R118). -/
def SporadicQueue.due (q : SporadicQueue) : List SporadicEntry :=
  q.entries.filter fun e => !e.onAir && e.life == 0

/-- Every entry whose life has run out expires, in queue order; QUEUE_EMPTY follows the last (R118). -/
def expireDue (s : State) : State :=
  match s.spor.due.getLast? with
  | none => s
  | some last =>
    let t := s.spor.due.foldl (fun t e => expireEntry e t) s
    raiseQueueEmpty last.ticket 2 s.tb.cycle t

/-- The remaining life of each QUEUED entry decrements (R118). -/
def SporadicQueue.older (q : SporadicQueue) : SporadicQueue :=
  { q with entries := q.entries.map fun e => if e.onAir then e else { e with life := e.life - 1 } }

/-- The sporadic queue's reaction to a cycle-start event (R118). -/
def sporadicCycleStart (s : State) : State := expireDue { s with spor := s.spor.older }

end Sys2Proof.Machine
end

