-- ==== Sys2Proof/Machine/Windows.lean ====
section
/-! DEFINITION. Running the ACTIVE bank: what happens at window starts, breaches, window ends and launch ends
(Sections 3.5 to 3.9 and 6.3 to 6.4). -/
namespace Sys2Proof.Machine

/-! ### Opening a window (R55, R56) -/

/-- No window stands in the way of one that starts at offset m: none is open, or the open one ends there without a
judgement still to be made, and no launch is in progress (R32, R56; log 13). -/
def windowFree (s : State) (m : Nat) : Bool :=
  s.launch.isNone && (match s.sched.window with
    | none => true
    | some w => w.ends == m && !w.role.isExpect)

/-- The entry whose window-start event occurs at this position (R56): the position holds an entry of the role, active in
the current cycle, whose start offset the running cycle reaches, and no window begun before is still open (R32). -/
def opens (s : State) (role : EntryRole) (position : Nat) : Option Entry :=
  match s.sched.active.entryAt position with
  | some e =>
    if e.role = role ∧ e.activeIn s.tb.cycle = true ∧ reaches s e.start = true ∧ windowFree s e.start = true then some e
    else none
  | none => none

/-- A window opens with its context (R55). One that ends at the same offset has ended before (R56; log 13). -/
def openWindow (position : Nat) (e : Entry) (role : WindowRole) (s : State) : State :=
  let t := abandonWindow s
  { t with sched := { t.sched with
      window := some { position := position, entry := e, cycle := t.tb.cycle, role := role } } }

/-- A launch begins, and the receivers of its lanes abandon what they were hearing (R8, R15). -/
def beginLaunch (l : Launch) (s : State) : State :=
  receivers l.lanes (Receiver.abandon s.now) { s with launch := some l }

/-- A record of a window in which no message has facts to report. -/
def plainRecord (kind : RecordKind) (w : Window) (outcomes : PerLane Outcome) (detail : Byte × Byte) : Record :=
  { kind := kind, number := 0, cycle := w.cycle, slot := w.entry.slot, position := some w.position
    outcomes := outcomes, sender := none, words := none, arrival := none, endOffset := none, detail := detail
    disagree := false, probation := false }

/-- The record of a launch of this node (R59, R115, R128). -/
def launchRecord (kind : RecordKind) (w : Window) (l : Launch) (node : Nat) (outcomes : PerLane Outcome)
    (detail : Byte × Byte) : Record :=
  { plainRecord kind w outcomes detail with
    sender := some node, words := some l.payload.length, arrival := some (l.start + 4), endOffset := some l.ends }

/-! ### SEND windows (R58) -/

/-- A suppressed send (R58): SEND_SUPPRESSED, and a SUPPRESSED record when logged. -/
def suppressSend (position : Nat) (e : Entry) (s : State) : State :=
  let c := s.tb.cycle
  let t := raise .sendSuppressed ⟨byte position, byte e.slot, cycleByte c, e.lanes.code⟩ s
  if e.log then
    fileRecord (plainRecord .suppressed ⟨position, e, c, .send LaneSet.none .notLaunched⟩ ⟨.notUsed, .notUsed⟩
      (e.lanes.code, 0)) t
  else t

/-- The launch of a SEND entry with a snapshot (R7, R8, R58, R71). -/
def sendLaunch (e : Entry) (usable : LaneSet) (x : Snapshot) (s : State) : Launch :=
  { kind := .send, lanes := usable, cut := LaneSet.none, start := e.start, cycle := s.tb.cycle
    header1 := header1 (if x.data then kindData else kindNull) s.cfg.nodeId x.payload.length
    header2 := header2 e.slot s.tb.cycle x.sequence, payload := x.payload }

/-- A launch of the entry's buffer: snapshot, launch, and SEND_STALE (R58, R71, R83). -/
def launchSend (position : Nat) (e : Entry) (usable : LaneSet) (n : Nat) (x : Snapshot) (s : State) : State :=
  let t := beginLaunch (sendLaunch e usable x s) (setBuffer n x.after s)
  let t := openWindow position e (.send usable .inProgress) t
  if x.stale then raise .sendStale ⟨byte n, byte position, byte e.slot, cycleByte s.tb.cycle⟩ t else t

/-- The snapshot of the entry's buffer, with its number (R58, R71). -/
def entrySnapshot (e : Entry) (s : State) : Option (Nat × Snapshot) :=
  e.buffer.bind fun n => ((bufferAt s n).snapshot (e.maxWords.getD 0)).map fun x => (n, x)

/-- The window-start event of a SEND entry, at its offset (R58). A buffer that is not SEND launches nothing; validation
keeps it out (R41). -/
def openSend (position : Nat) (e : Entry) (s : State) : State :=
  let usable := e.lanes.inter (activeLanes s)
  if s.tb.sync = .acquire then openWindow position e (.send LaneSet.none .notLaunched) s
  else if usable.isEmpty then suppressSend position e (openWindow position e (.send LaneSet.none .notLaunched) s)
  else
    match entrySnapshot e s with
    | some (n, x) => launchSend position e usable n x s
    | none => openWindow position e (.send usable .notLaunched) s

/-! ### EXPECT and QUIET windows (R60, R63) -/

/-- The entry's lanes that are ACTIVE or PROBATION (R60, R63). -/
def listeners (e : Entry) (s : State) : LaneSet := e.lanes.inter ((activeLanes s).union (probationLanes s))

/-- The window-start event of an EXPECT entry (R60). -/
def openExpect (position : Nat) (e : Entry) (s : State) : State :=
  openWindow position e (.expect (listeners e s) ((listeners e s).inter (probationLanes s)) LaneSet.none) s

/-- The window-start event of a QUIET entry (R63). -/
def openQuiet (position : Nat) (e : Entry) (s : State) : State :=
  openWindow position e (.quiet (listeners e s) ((listeners e s).inter (probationLanes s)) LaneSet.none false) s

/-! ### OPEN windows (R62, R113) -/

/-- The launch of a sporadic entry in an OPEN window (R7, R74, R113). -/
def sporadicLaunch (o : Entry) (x : SporadicEntry) (s : State) : Launch :=
  let b := bufferAt s x.buffer
  { kind := .sporadic, lanes := (x.lanes.inter o.lanes).inter (activeLanes s), cut := LaneSet.none, start := o.start
    cycle := s.tb.cycle, header1 := header1 kindData s.cfg.nodeId b.words.length
    header2 := header2 o.slot s.tb.cycle b.sporadicLaunch.1, payload := b.words }

/-- The chosen entry becomes ON_AIR and is launched (R113). -/
def launchSporadic (position : Nat) (o : Entry) (x : SporadicEntry) (s : State) : State :=
  let l := sporadicLaunch o x s
  let t := setBuffer x.buffer (bufferAt s x.buffer).sporadicLaunch.2 { s with spor := s.spor.putOnAir x.ticket }
  openWindow position o (.openSlot l.lanes .inProgress) (beginLaunch l t)

/-- The window-start event of an OPEN entry, at its offset (R62). -/
def openOpen (position : Nat) (e : Entry) (s : State) : State :=
  if s.tb.sync = .acquire then openWindow position e (.openSlot LaneSet.none .notLaunched) s
  else
    match selectSporadic s e with
    | some x => launchSporadic position e x s
    | none => openWindow position e (.openSlot (e.lanes.inter (activeLanes s)) .notLaunched) s

/-! ### Breach (R63) -/

/-- The lanes that still watch an unbreached QUIET window (R10, R63). -/
def Window.watching (w : Window) : LaneSet :=
  match w.role with
  | .quiet t _ left false => t.minus left
  | _ => LaneSet.none

/-- A carrier start at offset m on lane l, on a lane that was quiet, is the breach of the open window (R2, R63). -/
def isBreach (s : State) (w : Window) (l : Lane) (m : Nat) : Bool :=
  w.watching.has l && reaches s m && decide (w.entry.start ≤ m) && decide (m < w.ends) &&
    decide ((s.rx.get l).busy ≤ s.now + (m - s.tb.offset))

/-- The lane was PROBATION at the window-start event. -/
def Window.onProbation (w : Window) (l : Lane) : Bool :=
  match w.role with
  | .expect _ p _ | .quiet _ p _ _ => p.has l
  | _ => false

/-- The QUIET_BREACH record (R63, R128). -/
def breachRecord (w : Window) (l : Lane) (m : Nat) : Record :=
  { plainRecord .quietBreach w ((⟨.notUsed, .notUsed⟩ : PerLane Outcome).set l .carrierSeen) (0, 0) with
    arrival := some m, probation := w.onProbation l }

/-- The context sets its breach mark (R63). -/
def WindowRole.breach (r : WindowRole) : WindowRole :=
  match r with
  | .quiet t p left _ => .quiet t p left true
  | r => r

/-- The breach at offset m: mark, QUIET_BREACH record, VIOLATION (R63). -/
def breachAt (w : Window) (l : Lane) (m : Nat) (s : State) : State :=
  let t := { s with
    sched := { s.sched with window := some { w with role := w.role.breach } }
    rx := s.rx.update l (Receiver.occupy s.now) }
  raise .violation ⟨byte w.position, l.code, lowByte (BitVec.ofNat 16 m), highByte (BitVec.ofNat 16 m)⟩
    (fileRecord (breachRecord w l m) t)

/-! ### Window ends (R59, R61, R90) -/

/-- The listening lanes of an EXPECT window at its window-start event. -/
def Window.listening (w : Window) : LaneSet :=
  match w.role with
  | .expect t _ _ => t
  | _ => LaneSet.none

/-- The listening lanes that have not abandoned the window. -/
def Window.delivering (w : Window) : LaneSet :=
  match w.role with
  | .expect t _ left => t.minus left
  | _ => LaneSet.none

/-- The carrier started in the window, on a lane that was quiet (R2, R12). A carrier that was present at the window-start
event belongs to the mode before. The state stands at the window end. -/
def startedIn (s : State) (w : Window) (r : Receiver) (h : Heard) : Bool :=
  decide (w.entry.start ≤ h.start) && decide (h.start < w.ends) && decide (r.busy + (w.ends - h.start) ≤ s.now)

/-- What a lane brings to the end of an EXPECT window: its outcome and facts when it delivers (R12 to R14), and whether it
is considered (R87). The state stands at the window end. -/
def laneView (s : State) (w : Window) (l : Lane) (heard : List Heard) : LaneView :=
  if w.delivering.has l then
    let j := judged w.ends (heard.filter (startedIn s w (s.rx.get l)))
    let o := judge w.entry s.cfg.tol w.cycle j
    { considered := (s.lanes.get l).state == .active, outcome := o, facts := factsOf o j }
  else { considered := false, outcome := .notUsed, facts := ⟨none, none, none, []⟩ }

/-- A PROBATION lane delivered a lane outcome in the window (R88). -/
def probationMark (s : State) (w : Window) : Bool := !(w.delivering.inter (probationLanes s)).isEmpty

/-- A SILENT lane is charged: its partner was considered and GOOD or NULL (R91). -/
def LaneView.provesMessage (v : LaneView) : Bool := v.gives .good || v.gives .null

/-- Step 3 of R90: each lane's outcome acts on its own lane. DESIGN CHOICE (log 30): lane A before lane B; the rule gives
no order. -/
def gradeWindow (w : Window) (v : PerLane LaneView) (s : State) : State :=
  gradeOutcome .B v.b.outcome v.a.provesMessage (some w.position) w.cycle
    (gradeOutcome .A v.a.outcome v.b.provesMessage (some w.position) w.cycle s)

/-- DISAGREE case codes: 1 DATA_DIFFERS, 2 DATA_AND_NULL (R107). -/
def disagreeCase (c : Combined) : Byte := if c.good = LaneSet.both then 1 else 2

/-- DISAGREE, when R89 calls for it. -/
def reportDisagree (w : Window) (c : Combined) (s : State) : State :=
  if c.kind = .received ∧ c.disagree = true then
    raise .disagree ⟨byte w.position, byte w.entry.slot, cycleByte w.cycle, disagreeCase c⟩ s
  else s

/-- What a RECEIVED outcome brings to the buffer (R76). -/
def receptionOf (w : Window) (c : Combined) (f : Facts) : Reception :=
  let h := f.header.getD (0, 0)
  { words := f.payload, sender := headerSender h.1, sequence := headerSequence h.2, lanes := c.good
    disagree := c.disagree, arrival := f.arrival, cycle := w.cycle }

/-- The facts of the source lane (R88). -/
def sourceFacts (c : Combined) (v : PerLane LaneView) : Facts :=
  match c.source with
  | some l => (v.get l).facts
  | none => ⟨none, none, none, []⟩

/-- The buffer pool applies the combined outcome to the entry's buffer (R76 to R78). -/
def applyToBuffer (w : Window) (c : Combined) (f : Facts) (s : State) : State :=
  match w.entry.buffer with
  | none => s
  | some n =>
    match c.kind with
    | .received =>
      let t := if (bufferAt s n).isNew then
          raise .receiveOverrun ⟨byte n, byte w.position, byte w.entry.slot, cycleByte w.cycle⟩ s
        else s
      setBuffer n ((bufferAt t n).store (receptionOf w c f)) t
    | .nullHeard => setBuffer n ((bufferAt s n).heardNull w.cycle) s
    | .missing | .faulty => s

/-- Facts of the reporting lane of a FAULTY window (R128). -/
def reportedFacts (preferred : Lane) (v : PerLane LaneView) : Facts :=
  match reportingLane preferred v with
  | some l => (v.get l).facts
  | none => ⟨none, none, none, []⟩

/-- A record with the facts of one message: sender and words from its header, arrival and end offset (R128). DESIGN CHOICE
(log 31): a FAULTY record carries the header's own fields, also where they lie outside the ranges of R125. -/
def Record.withFacts (r : Record) (f : Facts) : Record :=
  { r with
    sender := f.header.map fun h => headerSender h.1
    words := f.header.map fun h => headerLength h.1
    arrival := f.arrival
    endOffset := f.endOffset }

/-- The record of an EXPECT window (R61, R128). -/
def expectRecord (preferred : Lane) (w : Window) (c : Combined) (v : PerLane LaneView) (probation : Bool) : Record :=
  let outcomes : PerLane Outcome := ⟨v.a.outcome, v.b.outcome⟩
  let f := sourceFacts c v
  let sequence : Byte := (headerSequence (f.header.getD (0, 0)).2).setWidth 8
  let r := match c.kind with
    | .received => { (plainRecord .received w outcomes (sequence, 0)).withFacts f with disagree := c.disagree }
    | .nullHeard => (plainRecord .nullHeard w outcomes (sequence, 0)).withFacts f
    | .missing => plainRecord .missing w outcomes (0, 0)
    | .faulty => (plainRecord .faulty w outcomes (errorSet v, 0)).withFacts (reportedFacts preferred v)
  { r with probation := probation }

/-- MISSING or FAULTY, when the entry's alarm is yes (R61, R107). -/
def reportAlarm (w : Window) (c : Combined) (v : PerLane LaneView) (s : State) : State :=
  if w.entry.alarm then
    match c.kind with
    | .missing => raise .missing ⟨byte w.position, byte w.entry.slot, cycleByte w.cycle, w.listening.code⟩ s
    | .faulty => raise .faulty ⟨byte w.position, byte w.entry.slot, cycleByte w.cycle, errorSet v⟩ s
    | .received | .nullHeard => s
  else s

/-- A lane's receiver at the window end: where carriers started in the window, a later one starts no earlier than now
(R2, R12). -/
def heardReceiver (s : State) (w : Window) (l : Lane) (heard : List Heard) (r : Receiver) : Receiver :=
  if w.delivering.has l && heard.any (startedIn s w (s.rx.get l)) then r.occupy s.now else r

/-- The window closes at its end, and its receivers return to the mode that follows (R12, R61). -/
def closeHeard (w : Window) (heardA heardB : List Heard) (s : State) : State :=
  let t := abandonWindow s
  { t with rx := ⟨heardReceiver s w .A heardA t.rx.a, heardReceiver s w .B heardB t.rx.b⟩ }

/-- The end of an EXPECT window, in the order of R90 and R61. -/
def endExpect (w : Window) (heardA heardB : List Heard) (s : State) : State :=
  let v : PerLane LaneView := ⟨laneView s w .A heardA, laneView s w .B heardB⟩
  let c := combine s.cfg.preferredLane v
  let r := expectRecord s.cfg.preferredLane w c v (probationMark s w)
  let t := reportDisagree w c (gradeWindow w v (closeHeard w heardA heardB s))
  let t := applyToBuffer w c (sourceFacts c v) t
  let t := if w.entry.log then fileRecord r t else t
  reportAlarm w c v t

/-! ### Launch ends (R59, R115, R26) -/

/-- The echo outcomes act on their lanes (R91, R94). DESIGN CHOICE (log 30): lane A before lane B; the rules give no order. -/
def gradeEchoes (k : LaunchKind) (position : Option Nat) (cycle : BitVec 6) (o : PerLane Outcome) (s : State) : State :=
  gradeEcho .B o.b k position cycle (gradeEcho .A o.a k position cycle s)

/-- The launch ends: TXEN is released and its receivers leave ECHO mode (R8). -/
def releaseLaunch (l : Launch) (s : State) : State :=
  receivers l.onAir (Receiver.resume s.now) { s with launch := none }

/-- The launch of a window ends, and the context records it as ended (R59). -/
def endLaunch (l : Launch) (s : State) : State := releaseLaunch l (setLaunchState .ended s)

/-- The launch-end event of a SEND launch (R59). DESIGN CHOICE (log 30): the lanes are graded before the record is filed. -/
def endSend (l : Launch) (echoA echoB : Echo) (s : State) : State :=
  let o := echoOutcomes l echoA echoB
  let t := gradeEchoes .send (s.sched.window.map Window.position) l.cycle o (endLaunch l s)
  match s.sched.window with
  | some w =>
    if w.entry.log then
      fileRecord (launchRecord .sent w l s.cfg.nodeId o
        (byte (headerKind l.header1), (headerSequence l.header2).setWidth 8)) t
    else t
  | none => t

/-- The completion of the entry on the air, in the order of R115. -/
def completeSporadic (w : Window) (l : Launch) (x : SporadicEntry) (o : PerLane Outcome) (s : State) : State :=
  let t := fileRecord (launchRecord .sporadicSent w l s.cfg.nodeId o (ticketDetail x.ticket)) (removeTicket x.ticket s)
  let t := raise .sent (detailWord (BitVec.ofNat 16 x.ticket) (byte w.entry.slot) (cycleByte w.cycle)) t
  raiseQueueEmpty x.ticket 1 w.cycle t

/-- The launch-end event of a sporadic launch (R115). DESIGN CHOICE (log 30): the lanes are graded before the entry
completes; the rules give no order between the two. -/
def endSporadic (l : Launch) (echoA echoB : Echo) (s : State) : State :=
  let o := echoOutcomes l echoA echoB
  let t := gradeEchoes .sporadic (s.sched.window.map Window.position) l.cycle o (endLaunch l s)
  match s.sched.window, s.spor.entries.find? SporadicEntry.onAir with
  | some w, some x => completeSporadic w l x o t
  | _, _ => t

/-- The launch-end event of a beacon launch: its echo outcomes go to the lane units alone (R26). -/
def endBeacon (l : Launch) (echoA echoB : Echo) (s : State) : State :=
  gradeEchoes .beacon none l.cycle (echoOutcomes l echoA echoB) (releaseLaunch l s)

end Sys2Proof.Machine
end

