-- ==== Sys2Proof/Machine/Flags.lean ====
section
/-! DEFINITION. What the pins and the receivers show: views computed from the state (R1, R10, R167, R171). -/
namespace Sys2Proof.Machine

/-- ATTN is asserted (R171): the outbound queue holds a frame, and no reset is in force (R163). -/
def attn (s : State) : Bool := s.resetting.isNone && !s.link.outbound.isEmpty

/-- LANE_OFF of a lane is asserted (R1): the lane is not ACTIVE. -/
def laneOff (s : State) (l : Lane) : Bool := (s.lanes.get l).state != .active

/-- TXEN of a lane is asserted (R1): a launch is in progress on it. -/
def txen (s : State) (l : Lane) : Bool :=
  match s.launch with
  | some x => x.onAir.has l
  | none => false

/-- The words TXD of a lane carries while TXEN is asserted (R3). -/
def onAirWords (s : State) (l : Lane) : List Word :=
  match s.launch with
  | some x => if x.onAir.has l then x.words else []
  | none => []

/-- CYCLE_MARK is high (R18). -/
def cycleMark (s : State) : Bool :=
  match s.tb.markUntil with
  | some t => decide (s.now < t)
  | none => false

/-- The byte on MISO: the exchange's outbound byte, or none while CS is high and MISO is not driven (R169). -/
def miso (s : State) : Option Byte := s.link.exchange.map Exchange.byte

/-- Receiver modes (R10). -/
inductive RxMode where
  | off | echo | expect | quiet | free
deriving DecidableEq, Repr

/-- The receiver mode of a lane (R10). -/
def receiverMode (s : State) (l : Lane) : RxMode :=
  if s.tb.sync = .offline ∨ (s.lanes.get l).state = .faulted ∨ (s.lanes.get l).state = .disabled then .off
  else if txen s l then .echo
  else
    match s.sched.window with
    | some w => if w.role.holds.has l then (if w.role.isExpect then .expect else .quiet) else .free
    | none => .free

/-! ### What a receiver takes in FREE mode (R12, R15) -/

/-- The moment lies in the span. -/
def Span.has (x : Span) (m : Nat) : Bool := decide (x.opened ≤ m) && decide (m < x.closed)

/-- The EXPECT and QUIET spans of a lane, the open window's among them. -/
def spansOf (s : State) (l : Lane) : List Span :=
  match s.sched.window with
  | some w => if w.role.holds.has l then spanOf s w (s.now + 1) :: (s.rx.get l).spans else (s.rx.get l).spans
  | none => (s.rx.get l).spans

/-- A message belongs to a window's mode, and is no free message (R12): its carrier started inside an EXPECT window; or its
start delimiter was recognised in the QUIET window in which its carrier started, or in a window that followed that one at
once (log 32). A carrier already present when a window opens belongs to the mode before. -/
def windowTakes (spans : List Span) (carrier recognised : Nat) : Bool :=
  spans.any fun x => x.has carrier &&
    (x.judges || x.has recognised || spans.any fun y => y.opened == x.closed && y.has recognised)

/-- The lane's receiver takes a message in FREE mode whose start delimiter was recognised at this moment and that ends now
(R10, R15): the start delimiter was not lost to OFF mode or to a window, and the carrier started on a lane that was quiet,
with no launch on it since. A launch that begins at the very moment at which a beacon ends does not abandon the beacon
(R25); another message is abandoned then, and can do nothing to a lane that sends (R15, R95; log 32). -/
def takesFree (s : State) (l : Lane) (beacon : Bool) (recognised carrier : Nat) : Bool :=
  let r := s.rx.get l
  receiverMode s l != .off && decide (r.since ≤ recognised) && !windowTakes (spansOf s l) carrier recognised &&
    ((decide (r.busy ≤ carrier) && receiverMode s l != .echo) ||
      (beacon && r.busy == s.now && decide (r.floor ≤ carrier)))

/-- The lane's receiver handles a message that ends now as a free message (R15). -/
def hearsFree (s : State) (l : Lane) (lead : Nat) (m : Message) : Bool :=
  match m.age with
  | some age => m.recognised && decide (age ≤ s.now) &&
      takesFree s l (isBeacon m) (s.now - age + Config.delimiterTime) (s.now - age - lead)
  | none => false

end Sys2Proof.Machine
end

