-- ==== Sys2Proof/Machine/Timebase.lean ====
section
/-! DEFINITION. The timebase: cycle starts, beacons, hard alignment, correction, missed beacons, start and stop
(Chapter 2). -/
namespace Sys2Proof.Machine

/-- STATE_CHANGED of group SYNC (R37): the cycle number is 0 when no cycle runs after the change. -/
def raiseSyncChanged (old : Sync) (s : State) : State :=
  raise .syncChanged
    ⟨old.code, s.tb.sync.code, s.tb.role.code, if s.tb.sync.running then cycleByte s.tb.cycle else 0⟩ s

/-- New values of the timebase. -/
def setTimebase (tb : Timebase) (s : State) : State := { s with tb := tb }

/-! ### Cycle starts (R18) -/

/-- The beacon of the cycle that begins, on these lanes (R7, R26). -/
def beaconLaunch (lanes : LaneSet) (s : State) : Launch :=
  { kind := .beacon, lanes := lanes, cut := LaneSet.none, start := 0, cycle := s.tb.cycle
    header1 := header1 kindBeacon s.cfg.nodeId 0, header2 := header2 0 s.tb.cycle 0, payload := [] }

/-- A LOCKED master launches its beacon on these lanes, if any (R26). -/
def launchBeacon (lanes : LaneSet) (s : State) : State :=
  if s.tb.role = .master ∧ s.tb.sync = .locked ∧ lanes.isEmpty = false then beginLaunch (beaconLaunch lanes s) s
  else s

/-- The reactions of the other blocks to a cycle-start event: commit (R52), buffer ages (R79), lanes (R96, R98),
sporadic lives (R118). -/
def blockReactions (s : State) : State :=
  sporadicCycleStart (laneCycleStart .B (laneCycleStart .A (ageBuffers (settleCommit .cycleStart s))))

/-- The timebase's part of a cycle-start event at the end of a cycle (R18). -/
def beginCycle (s : State) : State :=
  let t := passTo s.tb.length s
  { t with tb := { t.tb with
      cycle := t.tb.cycle + 1, offset := 0, length := t.cfg.cycleLength, began := t.now, past := pastCycles t
      beaconMark := false, deadlinePassed := false, atCycleStart := true, markUntil := some (t.now + 2) } }

/-- The cycle-start event that ends a cycle at its length (R18). The beacon launch leaves the other reactions as they are,
so its place among them shows in its lanes alone: those ACTIVE before the event, and of the lanes promoted at it those
whose promotion comes first (R26, R98; log 7). -/
def cycleStartEvent (first : Promotions) (s : State) : State :=
  let t := beginCycle s
  let u := blockReactions t
  launchBeacon ((activeLanes t).union ((activeLanes u).inter ⟨first.a, first.b⟩)) u

/-- A cycle-start event can come: a cycle runs, reaches its length, and no window or launch is left in it (R17, R30). -/
def cycleEnds (s : State) : Bool := s.sched.window.isNone && s.launch.isNone && reaches s s.tb.length

/-! ### Beacons (R29 to R36) -/

/-- Hard alignment on a beacon (R31). It ends a running cycle with a cycle-start event, after the open window is
abandoned (R57); with no cycle running the new cycle simply begins. -/
def hardAlign (number : BitVec 6) (s : State) : State :=
  let tb := { s.tb with
    cycle := number, offset := 20, length := s.cfg.cycleLength, began := s.now, beaconMark := true, missed := 0
    deadlinePassed := false }
  if s.tb.sync.running then
    blockReactions (setTimebase
      { tb with past := pastCycles s, atCycleStart := true, markUntil := some (s.now + 2) }
      (abandonWindow (cutLaunch LaneSet.both s)))
  else setTimebase { tb with atCycleStart := false, markUntil := none } s

/-- The phase error of a beacon taken while a cycle runs (R30). An arrival stamped in no cycle lay 16 microseconds before
the handover (R29; log 22). -/
def phaseError (s : State) (arrival : Stamp) : Int :=
  match arrival with
  | .thisCycle a => if a < s.tb.length / 2 then (a : Int) - 4 else (a : Int) - s.tb.length - 4
  | .pastCycle a length => if a < length / 2 then (a : Int) - 4 else (a : Int) - length - 4
  | .noCycle => (s.tb.offset : Int) - 20

/-- The beacon is in window (R30). -/
def inWindow (p : Params) (e : Int) : Bool := decide (-(p.lockWindow : Int) ≤ e) && decide (e ≤ (p.lockWindow : Int))

/-- The phase error limited to the correction limit (R32). -/
def correction (p : Params) (e : Int) : Int := max (-(p.correctionLimit : Int)) (min (p.correctionLimit : Int) e)

/-- An in-window beacon corrects the running cycle and its number is adopted, with CYCLE_JUMP when it differs (R32). -/
def correct (e : Int) (number : BitVec 6) (l : Lane) (sender : Nat) (s : State) : State :=
  let old := s.tb.cycle
  let t := setTimebase { s.tb with
    length := ((s.cfg.cycleLength : Int) + correction s.cfg e).toNat, beaconMark := true, cycle := number } s
  if old = number then t
  else raise .cycleJump ⟨cycleByte old, cycleByte number, l.code, byte sender⟩ t

/-- The sync state changes, with STATE_CHANGED (R37). -/
def changeSync (new : Sync) (s : State) : State :=
  raiseSyncChanged s.tb.sync (setTimebase { s.tb with sync := new } s)

/-- MASTER_CONFLICT with its detail (R37). -/
def raiseMasterConflict (l : Lane) (number : BitVec 6) (sender : Nat) (s : State) : State :=
  raise .masterConflict ⟨byte sender, l.code, cycleByte number, 0⟩ s

/-- The effective role becomes FOLLOWER (R24, R27). -/
def demote (s : State) : State := setTimebase { s.tb with role := .follower } s

/-- Hard alignment, then ACQUIRE with STATE_CHANGED from the state before (R24, R27, R34, R36). -/
def alignAndAcquire (number : BitVec 6) (s : State) : State := changeSync .acquire (hardAlign number s)

/-- A beacon taken in the startup listen (R24). -/
def conflictInListen (l : Lane) (number : BitVec 6) (sender : Nat) (s : State) : State :=
  let t := demote (setTimebase { s.tb with startupListen := none } s)
  answerDeferred .start .masterConflict (alignAndAcquire number (raiseMasterConflict l number sender t))

/-- A beacon taken by a LOCKED master (R27). -/
def conflictInLocked (l : Lane) (number : BitVec 6) (sender : Nat) (s : State) : State :=
  alignAndAcquire number (raiseMasterConflict l number sender (demote (cutLaunch LaneSet.both s)))

/-- An out-of-window beacon in HOLDOVER (R36): ACQUIRE, launches cut, hard alignment, then STATE_CHANGED. -/
def realignFromHoldover (number : BitVec 6) (s : State) : State :=
  let t := cutLaunch LaneSet.both (setTimebase { s.tb with sync := .acquire } s)
  raiseSyncChanged .holdover (hardAlign number t)

/-- The timebase acts on a beacon it takes, by the sync state (R24, R27, R34 to R36). -/
def actOnBeacon (l : Lane) (arrival : Stamp) (number : BitVec 6) (sender : Nat) (s : State) : State :=
  let e := phaseError s arrival
  match s.tb.sync with
  | .offline => s
  | .listen =>
    if s.tb.startupListen.isSome then conflictInListen l number sender s else alignAndAcquire number s
  | .acquire =>
    if inWindow s.cfg e then changeSync .locked (correct e number l sender s) else hardAlign number s
  | .locked =>
    if s.tb.role = .master then conflictInLocked l number sender s
    else if inWindow s.cfg e then correct e number l sender s
    else raise .beaconOutOfWindow (detailWord (BitVec.ofInt 16 e) l.code (byte sender)) s
  | .holdover =>
    if inWindow s.cfg e then
      let t := correct e number l sender s
      changeSync .locked (setTimebase { t.tb with missed := 0 } t)
    else realignFromHoldover number s

/-- A beacon handed over within 20 microseconds after the last one taken is a twin (R29); exactly 20 counts (log 10). -/
def isTwin (s : State) : Bool :=
  match s.tb.lastTaken with
  | some t => decide (s.now ≤ t + 20)
  | none => false

/-- The timebase takes a beacon, unless it is a twin (R29). -/
def takeBeacon (l : Lane) (arrival : Stamp) (number : BitVec 6) (sender : Nat) (s : State) : State :=
  if isTwin s then s
  else actOnBeacon l arrival number sender (setTimebase { s.tb with lastTaken := some s.now } s)

/-- A beacon outcome reaches its lane unit; its event carries the running cycle's number, 0 where none runs (R15, R106). -/
def gradeBeacon (l : Lane) (o : Outcome) (s : State) : State :=
  gradeOutcome l o false none (if s.tb.sync.running then s.tb.cycle else 0) s

/-- A message heard in FREE mode has ended (R15): the lane unit receives its beacon outcome, and a beacon goes to the
timebase (log 21). -/
def freeMessage (l : Lane) (arrival : Stamp) (m : Message) (s : State) : State :=
  match beaconOutcome s arrival m with
  | some .good =>
    let h := m.header.getD (0, 0)
    takeBeacon l arrival (headerCycle h.2) (headerSender h.1) (gradeBeacon l .good s)
  | some o => gradeBeacon l o s
  | none => s

/-- A message ends now in a lane's FREE mode; its stamp is that of its arrival (R11), and the lane was busy up to now
(R2). -/
def endFree (l : Lane) (m : Message) (s : State) : State :=
  let arrival := stampOf s (s.now - m.age.getD 0)
  freeMessage l arrival m { s with rx := s.rx.update l (Receiver.occupy s.now) }

/-! ### Missed beacons (R33 to R36) -/

/-- Cycles stop on a fall to LISTEN: launches are cut, the open window is abandoned, the offset is held at 0, a
CYCLE_MARK pulse ends, and a pending commit takes effect (R17, R18, R21, R34, R36, R53, R57). DESIGN CHOICE (log 28):
STATE_CHANGED is raised before the commit is settled; the rules give that order for STOP alone (R159). -/
def fallToListen (s : State) : State :=
  let t := abandonWindow (cutLaunch LaneSet.both s)
  let t := setTimebase { t.tb with
    sync := .listen, offset := 0, missed := 0, past := pastCycles t, atCycleStart := false, markUntil := none } t
  settleCommit .cyclesStopped (raiseSyncChanged s.tb.sync t)

/-- BEACON_MISSED with its detail (R37). -/
def raiseBeaconMissed (s : State) : State :=
  raise .beaconMissed (detail2 (byte s.tb.missed) (cycleByte s.tb.cycle)) s

/-- The missed beacon acts by the sync state (R34 to R36). -/
def missedBeacon (s : State) : State :=
  match s.tb.sync with
  | .acquire => fallToListen s
  | .locked =>
    raiseSyncChanged .locked (raiseBeaconMissed (setTimebase { s.tb with sync := .holdover, missed := 1 } s))
  | .holdover =>
    let t := raiseBeaconMissed (setTimebase { s.tb with missed := s.tb.missed + 1 } s)
    if t.cfg.holdoverLimit ≤ t.tb.missed then fallToListen t else t
  | .offline | .listen => s

/-- Offset of the beacon deadline (R33). -/
def deadlineOffset (p : Params) : Nat := 21 + p.lockWindow

/-- The running cycle's beacon deadline is still to come, and comes next (R33). -/
def deadlineDue (s : State) : Bool :=
  s.tb.role == .follower && !s.tb.deadlinePassed && reaches s (deadlineOffset s.cfg)

/-- The beacon deadline (R33). -/
def meetDeadline (s : State) : State :=
  let t := passTo (deadlineOffset s.cfg) s
  let t := setTimebase { t.tb with deadlinePassed := true } t
  if t.tb.beaconMark then t else missedBeacon t

/-! ### Start and stop (R22, R23, R38, R159) -/

/-- The startup listen expires (R23). STATE_CHANGED is raised before the number becomes 0, in the order of the rule
(log 15), and before START is answered (log 34). -/
def expireListen (moment : Nat) (s : State) : State :=
  let t := changeSync .locked
    { s with now := max s.now moment, tb := { s.tb with startupListen := none } }
  let t := setTimebase { t.tb with
    cycle := 0, offset := 0, length := t.cfg.cycleLength, began := t.now, beaconMark := false, deadlinePassed := false
    atCycleStart := false, markUntil := some (t.now + 2) } t
  answerDeferred .start .ok (launchBeacon (activeLanes t) t)

/-- START passes its tests (R22, R28, R158): the effective role is the configured role, LISTEN, STATE_CHANGED; a
master's startup listen runs. -/
def startPart (s : State) : State :=
  let t := changeSync .listen (setTimebase { s.tb with role := s.cfg.role } (receivers LaneSet.both (Receiver.listen s.now) s))
  if s.cfg.role = .master then setTimebase { t.tb with startupListen := some (t.now + 2 * t.cfg.cycleLength) } t else t

/-- Steps 1 to 5 of STOP, taken outside OFFLINE (R38, R159). -/
def stopPart (s : State) : State :=
  let t := abandonWindow (cutLaunch LaneSet.both s)
  let t := setTimebase { t.tb with
    sync := .offline, role := t.cfg.role, offset := 0, length := t.cfg.cycleLength, missed := 0
    startupListen := none, beaconMark := false, lastTaken := none, atCycleStart := false, markUntil := none } t
  answerDeferred .start .cancelled (settleCommit .cyclesStopped (raiseSyncChanged s.tb.sync t))

end Sys2Proof.Machine
end

