-- ==== Sys2Proof/Machine/Operands.lean ====
section
/-! DEFINITION. The operand forms of the requests: their codes and lengths (R189, R204), the fields their payloads carry,
the first field out of range (R203), and the layouts of their answers (R190 to R201). -/
namespace Sys2Proof.Machine

/-! ### Request codes (R189, R204) -/

/-- The requests of R189. -/
inductive Code where
  | ident | config | cfgget | start | stop | stat | reset
  | eput | edel | eget | tclr | tload | tchk | tcommit | tcancel
  | bsetup | bwrite | bread | bstat
  | lset | lstat
  | spost | scancel | slist
  | rfetch | rdrop | rthresh
  | gset | nmask | nack | evread
deriving DecidableEq, Repr

/-- The code byte of a request. -/
def Code.byte : Code → Byte
  | .ident => 0x01
  | .config => 0x02
  | .cfgget => 0x03
  | .start => 0x04
  | .stop => 0x05
  | .stat => 0x06
  | .reset => 0x07
  | .eput => 0x10
  | .edel => 0x11
  | .eget => 0x12
  | .tclr => 0x13
  | .tload => 0x14
  | .tchk => 0x15
  | .tcommit => 0x16
  | .tcancel => 0x17
  | .bsetup => 0x20
  | .bwrite => 0x21
  | .bread => 0x22
  | .bstat => 0x23
  | .lset => 0x30
  | .lstat => 0x31
  | .spost => 0x40
  | .scancel => 0x41
  | .slist => 0x42
  | .rfetch => 0x50
  | .rdrop => 0x51
  | .rthresh => 0x52
  | .gset => 0x60
  | .nmask => 0x61
  | .nack => 0x62
  | .evread => 0x63

/-- Every request. -/
def Code.all : List Code :=
  [.ident, .config, .cfgget, .start, .stop, .stat, .reset, .eput, .edel, .eget, .tclr, .tload, .tchk, .tcommit,
   .tcancel, .bsetup, .bwrite, .bread, .bstat, .lset, .lstat, .spost, .scancel, .slist, .rfetch, .rdrop, .rthresh,
   .gset, .nmask, .nack, .evread]

/-- The request a code byte names, if any. -/
def Code.ofByte (b : Byte) : Option Code := Code.all.find? fun c => c.byte == b

/-- The payload length a request requires (R189). For BWRITE it follows from the second payload byte; a payload too
short to hold that byte is shorter than any length so required. -/
def Code.required (payload : List Byte) : Code → Nat
  | .ident | .cfgget | .start | .stop | .stat | .reset | .tclr | .tload | .tchk | .tcommit | .tcancel | .lstat
  | .slist => 0
  | .edel | .rfetch | .rdrop | .rthresh | .nmask | .evread => 1
  | .eget | .bread | .bstat | .lset | .scancel | .nack => 2
  | .bsetup => 3
  | .gset => 4
  | .spost => 5
  | .config => 13
  | .eput => 20
  | .bwrite => 2 + 2 * fieldAt payload 1

/-! ### Field tests (R203) -/

/-- The value lies in the range. -/
def within (low high n : Nat) : Bool := decide (low ≤ n) && decide (n ≤ high)

/-- The offset of the first field that fails, of fields given with their tests in offset order. -/
def firstBad : List (Nat × Bool) → Option Nat
  | [] => none
  | (offset, passes) :: rest => if passes then firstBad rest else some offset

/-- A field that admits 1 to 63 or 0xFF for ANY. -/
def idOrAny (n : Nat) : Bool := within 1 63 n || decide (n = 255)

/-! ### CONFIG (R154, R190) -/

/-- The first CONFIG field out of range (R155). -/
def configBad (p : List Byte) : Option Nat :=
  firstBad
    [(0, within 1 63 (fieldAt p 0)), (1, (Role.ofCode (fieldAt p 1)).isSome), (2, within 200 65000 (wordAt p 2).toNat),
     (4, within 1 8 (fieldAt p 4)), (5, within 1 16 (fieldAt p 5)), (6, within 1 10 (fieldAt p 6)),
     (7, within 1 15 (fieldAt p 7)), (8, (Lane.ofCode (fieldAt p 8)).isSome), (9, within 4 60 (fieldAt p 9)),
     (10, within 1 255 (fieldAt p 10)), (11, within 1 255 (fieldAt p 11)), (12, within 0 1 (fieldAt p 12))]

/-- The parameters a CONFIG payload carries (R190). -/
def configOf (p : List Byte) : Params :=
  { nodeId := fieldAt p 0, role := (Role.ofCode (fieldAt p 1)).getD .follower, cycleLength := (wordAt p 2).toNat
    tol := fieldAt p 4, lockWindow := fieldAt p 5, correctionLimit := fieldAt p 6, holdoverLimit := fieldAt p 7
    preferredLane := (Lane.ofCode (fieldAt p 8)).getD .A, debitLimit := fieldAt p 9, holdTime := fieldAt p 10
    probationCount := fieldAt p 11, autoReadmission := decide (fieldAt p 12 = 1) }

/-- The CFGGET answer (R157, R190). -/
def configBytes (c : Params) : List Byte :=
  [byte c.nodeId, c.role.code] ++ number16 c.cycleLength ++
    [byte c.tol, byte c.lockWindow, byte c.correctionLimit, byte c.holdoverLimit, c.preferredLane.code,
     byte c.debitLimit, byte c.holdTime, byte c.probationCount, flagByte c.autoReadmission]

/-- The IDENT answer (R162, R190). -/
def identBytes : List Byte := bytes16 Config.vendorCode ++ bytes16 Config.partCode ++ startupPayload

/-- The STAT answer (R161, R190). -/
def statBytes (s : State) : List Byte :=
  [s.tb.sync.code, s.tb.role.code, cycleByte s.tb.cycle, flagByte s.sched.commitPending,
   s.lanes.a.state.code, byte s.lanes.a.debit, s.lanes.b.state.code, byte s.lanes.b.debit,
   byte s.spor.entries.length, byte s.recs.records.length] ++ number16 s.recs.lost ++
    [byte s.link.outbound.length, byte s.notif.mask]

/-! ### The slot entry (R197, R198) -/

/-- A set of cycle numbers from its bytes, cycle 0 first (R188). -/
def cyclesOf : List Byte → BitVec 64
  | [] => 0
  | b :: bs => b.setWidth 64 ||| (cyclesOf bs <<< 8)

/-- A set of cycle numbers as n bytes, cycle 0 first (R188). -/
def cyclesBytes : Nat → BitVec 64 → List Byte
  | 0, _ => []
  | n + 1, c => c.setWidth 8 :: cyclesBytes n (c >>> 8)

/-- The role code is one whose entries name a buffer and max words (R40). -/
def roleUsesBuffer (role : Nat) : Bool := decide (role = 1) || decide (role = 2)

/-- The first EPUT field out of range (R198). -/
def entryBad (p : List Byte) : Option Nat :=
  let role := fieldAt p 2
  firstBad
    [(0, within 0 63 (fieldAt p 0)), (1, within 1 63 (fieldAt p 1)), (2, (EntryRole.ofCode role).isSome),
     (3, (LaneSet.ofCode (fieldAt p 3)).isSome), (6, decide (wordAt p 6 ≠ 0)),
     (8, !roleUsesBuffer role || within 0 47 (fieldAt p 8)), (9, !decide (role = 2) || idOrAny (fieldAt p 9)),
     (10, !roleUsesBuffer role || within 0 32 (fieldAt p 10))]

/-- An expected sender from its code (R188). -/
def Expected.ofCode (n : Nat) : Expected := if n = 255 then .any else .node n

/-- The entry an EPUT payload carries (R198): a field the role does not use is stored as absent. -/
def entryOf (p : List Byte) : Entry :=
  let role := fieldAt p 2
  { slot := fieldAt p 1, role := (EntryRole.ofCode role).getD .quiet, start := (wordAt p 4).toNat
    length := (wordAt p 6).toNat, lanes := (LaneSet.ofCode (fieldAt p 3)).getD LaneSet.none
    buffer := if roleUsesBuffer role then some (fieldAt p 8) else none
    sender := if role = 2 then some (Expected.ofCode (fieldAt p 9)) else none
    maxWords := if roleUsesBuffer role then some (fieldAt p 10) else none
    cycles := cyclesOf (p.drop 12), log := (byteAt p 11).getLsbD 0, alarm := (byteAt p 11).getLsbD 1 }

/-- An expected sender as a byte: ANY and absence are 0xFF (R188). -/
def senderByte : Option Expected → Byte
  | some (.node n) => byte n
  | some .any | none => 0xFF

/-- The EGET answer for a non-empty position (R197, R198). -/
def entryBytes (position : Nat) (e : Entry) : List Byte :=
  [byte position, byte e.slot, e.role.code, e.lanes.code] ++ number16 e.start ++ number16 e.length ++
    [optByte e.buffer, senderByte e.sender, optByte e.maxWords, flagByte e.log ||| (flagByte e.alarm <<< 1)] ++
    cyclesBytes 8 e.cycles

/-- The EGET answer: an empty position has every byte but the position 0 (R198). -/
def positionBytes (position : Nat) : Option Entry → List Byte
  | some e => entryBytes position e
  | none => byte position :: List.replicate 19 0

/-! ### Lanes, sporadic queue (R193, R194) -/

/-- One lane's part of the LSTAT answer (R105, R193). -/
def laneBytes (u : LaneUnit) : List Byte := [u.state.code, byte u.debit, byte u.hold, byte u.clean]

/-- The first SPOST field out of range (R111). -/
def postBad (p : List Byte) : Option Nat :=
  firstBad
    [(0, within 0 47 (fieldAt p 0)), (1, (LaneSet.ofCode (fieldAt p 1)).isSome), (2, within 0 3 (fieldAt p 2)),
     (3, idOrAny (fieldAt p 3)), (4, within 1 255 (fieldAt p 4))]

/-- The entry an SPOST appends (R111). -/
def postedEntry (p : List Byte) (ticket : Nat) : SporadicEntry :=
  { ticket := ticket, buffer := fieldAt p 0, lanes := (LaneSet.ofCode (fieldAt p 1)).getD LaneSet.none
    priority := fieldAt p 2, slot := if fieldAt p 3 = 255 then none else some (fieldAt p 3), life := fieldAt p 4
    onAir := false }

/-- One item of the SLIST answer (R194). -/
def listItem (s : State) (e : SporadicEntry) : List Byte :=
  number16 e.ticket ++
    [byte e.buffer, byte (entryLength s e), e.lanes.code, byte e.priority, optByte e.slot, byte e.life,
     if e.onAir then 2 else 1]

/-- The SLIST answer (R121, R194). -/
def listBytes (s : State) : List Byte :=
  byte s.spor.entries.length :: s.spor.entries.flatMap (listItem s)

/-! ### Records (R195, R201) -/

/-- The sixteen bytes of a record (R201, R202). -/
def recordBytes (r : Record) : List Byte :=
  [r.kind.code] ++ bytes16 r.number ++
    [cycleByte r.cycle, byte r.slot, optByte r.position, r.outcomes.a.code ||| (r.outcomes.b.code <<< 4),
     optByte r.sender, optByte r.words] ++ optBytes16 r.arrival ++ optBytes16 r.endOffset ++
    [r.detail.1, r.detail.2, flagByte r.disagree ||| (flagByte r.probation <<< 1)]

/-- The RFETCH answer (R130, R195). -/
def fetchBytes (q : RecordQueue) (n : Nat) : List Byte :=
  byte q.records.length :: number16 q.lost ++ [byte (min n q.records.length)] ++
    (q.records.take n).flatMap recordBytes

/-- The GAP record of a lost count (R128, R132); its number is given at insertion. -/
def gapRecord (lost : Nat) (cycle : BitVec 6) : Record :=
  { kind := .gap, number := 0, cycle := cycle, slot := 0, position := none, outcomes := ⟨.notUsed, .notUsed⟩
    sender := none, words := none, arrival := none, endOffset := none
    detail := (lowByte (BitVec.ofNat 16 lost), highByte (BitVec.ofNat 16 lost)), disagree := false, probation := false }

/-! ### Notification groups (R196) -/

/-- The first GSET field out of range (R149, R203). -/
def groupBad (p : List Byte) : Option Nat :=
  firstBad
    [(0, within 0 9 (fieldAt p 0)), (1, within 0 7 (fieldAt p 1)),
     (2, decide (wordAt p 2 &&& ~~~definedKinds (fieldAt p 0) = 0))]

/-- Occurrence count of an accumulation, 0 when it is empty. -/
def Group.occurrences (g : Group) : Nat :=
  match g.acc with
  | some a => a.count
  | none => 0

/-- The EVREAD answer (R151, R196). -/
def seenBytes (g : Group) : List Byte :=
  bytes16 g.seen ++ [byte g.level] ++ bytes16 g.enable ++ [g.delivery.code, g.sequence, byte g.occurrences]

end Sys2Proof.Machine
end

