-- ==== Sys2Proof/Machine/Requests.lean ====
section
/-! DEFINITION. What each request does in its owning block once it has passed the checks of R181, and how it is answered.
Each takes the tag, the payload and the state in which the reservation has been made. -/
namespace Sys2Proof.Machine

/-- Refused BAD_FIELD with the offset of the field (R182, R187). -/
def badField (tag : Byte) (offset : Nat) (s : State) : State := answer tag .badField [byte offset] s

/-- Refused with a code that carries no payload (R187). -/
def refuse (tag : Byte) (r : Result) (s : State) : State := answer tag r [] s

/-! ### Configuration and status (R155 to R164) -/

/-- The lanes after CONFIG: a debit above the limit is set to it (R100, R156). -/
def clampDebits (limit : Nat) (p : PerLane LaneUnit) : PerLane LaneUnit :=
  { a := { p.a with debit := min p.a.debit limit }, b := { p.b with debit := min p.b.debit limit } }

/-- A CONFIG that passes its tests stores its parameters (R156). The current length is the nominal one (R20; log 14). -/
def storeConfig (c : Params) (s : State) : State :=
  { s with cfg := c, tb := { s.tb with role := c.role, length := c.cycleLength }
           lanes := clampDebits c.debitLimit s.lanes }

/-- CONFIG (R155, R156). -/
def doConfig (tag : Byte) (p : List Byte) (s : State) : State :=
  if s.tb.sync ≠ .offline then refuse tag .wrongState s
  else
    match configBad p with
    | some offset => badField tag offset s
    | none =>
      match validate (configOf p) s.bufs s.sched.active with
      | some f => answer tag .tableInvalid f.payload s
      | none => answer tag .ok [] (storeConfig (configOf p) s)

/-- START (R158, R22, R28): a master's START is deferred, a follower's is answered at once, after
STATE_CHANGED is raised (log 34). -/
def doStart (tag : Byte) (s : State) : State :=
  if s.tb.sync ≠ .offline then refuse tag .wrongState s
  else if s.cfg.nodeId = 0 then refuse tag .notConfigured s
  else
    let t := startPart s
    if s.cfg.role = .master then { t with link := { t.link with deferred := some ⟨.start, tag⟩ } }
    else answer tag .ok [] t

/-- STOP (R159). -/
def doStop (tag : Byte) (s : State) : State :=
  if s.tb.sync = .offline then answer tag .ok [s.tb.sync.code] s
  else answer tag .ok [s.tb.sync.code] (stopPart s)

/-! ### Resets (R163 to R166) -/

/-- The exchange in progress, if any, when a reset comes: its byte belongs to no frame any longer (R186). -/
def orphanExchange (k : Link) : Option Exchange := k.exchange.map fun x => { x with source := .orphan }

/-- Every block at its reset values, with what a reset does not reach: CS and the exchange are the host's, the commands
waiting and the count of free choices are the model's (R165; log 12). -/
def resetBlocks (link : Link) (s : State) : State :=
  { State.held with
    link := { link with transaction := s.link.transaction }, races := s.races, pending := s.pending }

/-- RESET taken: a reset of cause COMMAND that begins and ends at once (R163 to R166). -/
def commandReset (tag : Byte) (s : State) : State :=
  resetBlocks { Link.reset with outbound := [startupFrame 3 tag], exchange := orphanExchange s.link } s

/-! ### Schedule (R44 to R54) -/

/-- A new EDIT bank. -/
def setEdit (b : Bank) (s : State) : State := { s with sched := { s.sched with edit := b } }

/-- EPUT (R44, R198). -/
def doEput (tag : Byte) (p : List Byte) (s : State) : State :=
  if s.sched.commitPending then refuse tag .busy s
  else
    match entryBad p with
    | some offset => badField tag offset s
    | none => answer tag .ok [] (setEdit (s.sched.edit.set (fieldAt p 0) (some (entryOf p))) s)

/-- EDEL (R45, R51). DESIGN CHOICE (log 29): BUSY is tested before the position; the rules give no order. -/
def doEdel (tag : Byte) (p : List Byte) (s : State) : State :=
  if s.sched.commitPending then refuse tag .busy s
  else if 63 < fieldAt p 0 then badField tag 0 s
  else answer tag .ok [] (setEdit (s.sched.edit.set (fieldAt p 0) none) s)

/-- The bank of a bank code: 1 ACTIVE, 2 EDIT (R191). -/
def bankOf (s : State) (code : Nat) : Option Bank :=
  if code = 1 then some s.sched.active else if code = 2 then some s.sched.edit else none

/-- EGET (R46, R198). -/
def doEget (tag : Byte) (p : List Byte) (s : State) : State :=
  match bankOf s (fieldAt p 0) with
  | none => badField tag 0 s
  | some bank =>
    if 63 < fieldAt p 1 then badField tag 1 s
    else answer tag .ok (positionBytes (fieldAt p 1) (bank.entryAt (fieldAt p 1))) s

/-- TCLR (R47). -/
def doTclr (tag : Byte) (s : State) : State :=
  if s.sched.commitPending then refuse tag .busy s else answer tag .ok [] (setEdit Bank.empty s)

/-- TLOAD (R48). -/
def doTload (tag : Byte) (s : State) : State :=
  if s.sched.commitPending then refuse tag .busy s else answer tag .ok [] (setEdit s.sched.active s)

/-- TCHK (R49). -/
def doTchk (tag : Byte) (s : State) : State :=
  match validate s.cfg s.bufs s.sched.edit with
  | some f => answer tag .tableInvalid f.payload s
  | none => answer tag .ok [] s

/-- TCOMMIT (R50, R51): at once while no cycle runs, else pending and deferred. Done at once, its
answer enters before COMMIT_DONE is raised (log 16). -/
def doTcommit (tag : Byte) (s : State) : State :=
  if s.sched.commitPending then refuse tag .busy s
  else
    match validate s.cfg s.bufs s.sched.edit with
    | some f => answer tag .tableInvalid f.payload s
    | none =>
      if s.tb.sync.running then
        { s with sched := { s.sched with commitPending := true }
                 link := { s.link with deferred := some ⟨.tcommit, tag⟩ } }
      else raiseCommitDone .immediate (answer tag .ok [] (copyEdit s))

/-- TCANCEL (R54, R64). The answers enter before the event is raised (log 16). -/
def doTcancel (tag : Byte) (s : State) : State :=
  if s.sched.commitPending then
    let t := answerDeferred .tcommit .cancelled { s with sched := { s.sched with commitPending := false } }
    raise .commitCancelled (detail2 (cycleByte s.tb.cycle) (byte s.sched.edit.occupied)) (answer tag .ok [] t)
  else refuse tag .tooLate s

/-! ### Buffers (R67 to R82) -/

/-- BSETUP (R67). -/
def doBsetup (tag : Byte) (p : List Byte) (s : State) : State :=
  let n := fieldAt p 0
  let kind := fieldAt p 1
  if 47 < n then badField tag 0 s
  else if 3 < kind then badField tag 1 s
  else if kind = 1 ∧ Policy.ofCode (fieldAt p 2) = none then badField tag 2 s
  else if referenced s n then refuse tag .inUse s
  else if isHeld s n then refuse tag .held s
  else
    let policy := (Policy.ofCode (fieldAt p 2)).getD .repeat
    answer tag .ok [] (setBuffer n { words := [], status := BufferStatus.setup kind policy } s)

/-- BWRITE (R70). -/
def doBwrite (tag : Byte) (p : List Byte) (s : State) : State :=
  let n := fieldAt p 0
  let b := bufferAt s n
  if 47 < n then badField tag 0 s
  else if 32 < fieldAt p 1 then badField tag 1 s
  else if !(b.isSend || b.isSporadic) then refuse tag .wrongKind s
  else if isHeld s n then refuse tag .held s
  else answer tag .ok [] (setBuffer n (b.write (wordsOf (p.drop 2))) s)

/-- BREAD (R80, R81): the answer shows the buffer before the read; peek is bit 0 of the options. -/
def doBread (tag : Byte) (p : List Byte) (s : State) : State :=
  let n := fieldAt p 0
  let b := bufferAt s n
  if 47 < n then badField tag 0 s
  else if b.status = .unused then refuse tag .wrongKind s
  else
    let t := if (byteAt p 1).getLsbD 0 then s else setBuffer n b.markRead s
    answer tag .ok (statusOf s n ++ bytesOf b.words) t

/-- BSTAT (R82). -/
def doBstat (tag : Byte) (p : List Byte) (s : State) : State :=
  let first := fieldAt p 0
  let count := fieldAt p 1
  if 47 < first then badField tag 0 s
  else if count = 0 ∨ 8 < count ∨ 48 < first + count then badField tag 1 s
  else answer tag .ok ((List.range count).flatMap fun i => statusOf s (first + i)) s

/-! ### Lanes (R100 to R105) -/

/-- The OK answer of LSET: the lane's state and debit after the request (R100). -/
def answerLane (tag : Byte) (u : LaneUnit) (s : State) : State := answer tag .ok [u.state.code, byte u.debit] s

/-- LSET DISABLE (R101). The answer enters before the event is raised (log 16). -/
def laneDisable (tag : Byte) (l : Lane) (s : State) : State :=
  let u := s.lanes.get l
  if u.state = .disabled then answerLane tag u s
  else
    let v : LaneUnit := { state := .disabled, debit := u.debit, hold := 0, clean := 0, good := false }
    changeLane l .lsetDisable v (answerLane tag v (laneLeaves l s))

/-- LSET ENABLE (R102). The answer enters before the event is raised (log 16). -/
def laneEnable (tag : Byte) (l : Lane) (s : State) : State :=
  let u := s.lanes.get l
  if u.state = .disabled ∨ u.state = .faulted then
    enterProbation l .lsetEnable (answer tag .ok [LaneState.probation.code, 0] s)
  else answerLane tag u s

/-- LSET CLEAR (R103). -/
def laneClear (tag : Byte) (l : Lane) (s : State) : State :=
  if (s.lanes.get l).state = .active then answer tag .ok [LaneState.active.code, 0] (setDebit l 0 s)
  else refuse tag .wrongState s

/-- LSET (R100): the lane is tested first, then the action: 1 DISABLE, 2 ENABLE, 3 CLEAR (R193). -/
def doLset (tag : Byte) (p : List Byte) (s : State) : State :=
  match Lane.ofCode (fieldAt p 0) with
  | none => badField tag 0 s
  | some l =>
    if fieldAt p 1 = 1 then laneDisable tag l s
    else if fieldAt p 1 = 2 then laneEnable tag l s
    else if fieldAt p 1 = 3 then laneClear tag l s
    else badField tag 1 s

/-! ### Sporadic queue (R110 to R121) -/

/-- The queue after a post (R110, R111). -/
def SporadicQueue.post (q : SporadicQueue) (e : SporadicEntry) : SporadicQueue :=
  { entries := q.entries ++ [e], counter := e.ticket }

/-- SPOST (R111). -/
def doSpost (tag : Byte) (p : List Byte) (s : State) : State :=
  match postBad p with
  | some offset => badField tag offset s
  | none =>
    if Config.sporadicEntries ≤ s.spor.entries.length then refuse tag .full s
    else if !(bufferAt s (fieldAt p 0)).isSporadic then refuse tag .wrongKind s
    else if isHeld s (fieldAt p 0) then refuse tag .held s
    else
      let ticket := s.spor.newTicket
      answer tag .ok (number16 ticket) { s with spor := s.spor.post (postedEntry p ticket) }

/-- SCANCEL (R119). -/
def doScancel (tag : Byte) (p : List Byte) (s : State) : State :=
  let ticket := (wordAt p 0).toNat
  match s.spor.find ticket with
  | none => refuse tag .notFound s
  | some e => if e.onAir then refuse tag .tooLate s else answer tag .ok [] (removeTicket ticket s)

/-! ### Slot record queue (R130 to R134) -/

/-- RFETCH (R130). -/
def doRfetch (tag : Byte) (p : List Byte) (s : State) : State :=
  if within 1 12 (fieldAt p 0) then answer tag .ok (fetchBytes s.recs (fieldAt p 0)) s else badField tag 0 s

/-- The k oldest records are removed (R131). -/
def dropRecords (k : Nat) (s : State) : State :=
  { s with recs := { s.recs with records := s.recs.records.drop k } }

/-- The GAP record is inserted and the lost count becomes 0 (R132). -/
def closeGap (lost : Nat) (s : State) : State :=
  insertRecord (gapRecord lost s.tb.cycle) { s with recs := { s.recs with lost := 0 } }

/-- RDROP (R131, R132, R195). -/
def doRdrop (tag : Byte) (p : List Byte) (s : State) : State :=
  let k := fieldAt p 0
  if within 1 128 k && decide (k ≤ s.recs.records.length) then
    let t := dropRecords k s
    if s.recs.lost = 0 then answer tag .ok [byte t.recs.records.length, 0, 0, 0, 0, 0] t
    else
      let u := closeGap s.recs.lost t
      answer tag .ok
        ([byte u.recs.records.length, 1] ++ bytes16 s.recs.next ++ number16 s.recs.lost) u
  else badField tag 0 s

/-- RTHRESH (R134). -/
def doRthresh (tag : Byte) (p : List Byte) (s : State) : State :=
  if within 1 128 (fieldAt p 0) then
    answer tag .ok [byte s.recs.records.length] { s with recs := { s.recs with threshold := fieldAt p 0 } }
  else badField tag 0 s

/-! ### Notification unit (R147 to R151) -/

/-- Group i of the unit; a number that names none reads as a group after reset. -/
def groupAt (s : State) (i : Nat) : Group := (s.notif.groups[i]?).getD Group.reset

/-- A new value for group i. -/
def setGroup (i : Nat) (g : Group) (s : State) : State :=
  { s with notif := { s.notif with groups := s.notif.groups.set i g } }

/-- GSET (R149). DESIGN CHOICE (log 36): its answer, with the delivery state as GSET found it, enters the outbound queue before
a NOTIFY frame that it makes possible; R147 says so of NACK alone. -/
def doGset (tag : Byte) (p : List Byte) (s : State) : State :=
  match groupBad p with
  | some offset => badField tag offset s
  | none =>
    let g := groupAt s (fieldAt p 0)
    answer tag .ok [g.delivery.code, g.sequence]
      (setGroup (fieldAt p 0) { g with level := fieldAt p 1, enable := wordAt p 2 } s)

/-- NMASK (R150). DESIGN CHOICE (log 36): its answer enters the outbound queue before a NOTIFY frame that it makes possible. -/
def doNmask (tag : Byte) (p : List Byte) (s : State) : State :=
  if 7 < fieldAt p 0 then badField tag 0 s
  else answer tag .ok [] { s with notif := { s.notif with mask := fieldAt p 0 } }

/-- A group after a NACK that matches its sequence (R147); none where the NACK finds no frame outstanding. -/
def Group.acknowledged (g : Group) : Option Group :=
  match g.delivery with
  | .awaiting => some { g with sequence := g.sequence + 1, delivery := .idle }
  | .awaitingMore => some { g with sequence := g.sequence + 1, delivery := .pending }
  | .idle | .pending => none

/-- NACK (R147). -/
def doNack (tag : Byte) (p : List Byte) (s : State) : State :=
  let g := groupAt s (fieldAt p 0)
  if 9 < fieldAt p 0 then badField tag 0 s
  else if g.sequence = byteAt p 1 then
    match g.acknowledged with
    | some h => answer tag .ok [] (setGroup (fieldAt p 0) h s)
    | none => refuse tag .notFound s
  else refuse tag .notFound s

/-- EVREAD (R151): the seen marks are answered and cleared. -/
def doEvread (tag : Byte) (p : List Byte) (s : State) : State :=
  if 9 < fieldAt p 0 then badField tag 0 s
  else
    let g := groupAt s (fieldAt p 0)
    answer tag .ok (seenBytes g) (setGroup (fieldAt p 0) { g with seen := 0 } s)

/-! ### The owning block of each request (R182) -/

/-- A request that passed the checks of R181 is carried out by its owning block (R182). -/
def carryOut (c : Code) (tag : Byte) (p : List Byte) (s : State) : State :=
  match c with
  | .ident => answer tag .ok identBytes s
  | .config => doConfig tag p s
  | .cfgget => answer tag .ok (configBytes s.cfg) s
  | .start => doStart tag s
  | .stop => doStop tag s
  | .stat => answer tag .ok (statBytes s) s
  | .reset => commandReset tag s
  | .eput => doEput tag p s
  | .edel => doEdel tag p s
  | .eget => doEget tag p s
  | .tclr => doTclr tag s
  | .tload => doTload tag s
  | .tchk => doTchk tag s
  | .tcommit => doTcommit tag s
  | .tcancel => doTcancel tag s
  | .bsetup => doBsetup tag p s
  | .bwrite => doBwrite tag p s
  | .bread => doBread tag p s
  | .bstat => doBstat tag p s
  | .lset => doLset tag p s
  | .lstat => answer tag .ok (laneBytes s.lanes.a ++ laneBytes s.lanes.b) s
  | .spost => doSpost tag p s
  | .scancel => doScancel tag p s
  | .slist => answer tag .ok (listBytes s) s
  | .rfetch => doRfetch tag p s
  | .rdrop => doRdrop tag p s
  | .rthresh => doRthresh tag p s
  | .gset => doGset tag p s
  | .nmask => doNmask tag p s
  | .nack => doNack tag p s
  | .evread => doEvread tag p s

end Sys2Proof.Machine
end

