-- ==== Sys2Proof/Machine/Link.lean ====
section
/-! DEFINITION. The request handler (R180, R181), the parser (R175 to R178), and the bytes that go out (R169 to R173). -/
namespace Sys2Proof.Machine

/-! ### The request handler (R180 to R182) -/

/-- The handler can take the head request (R180); nothing is taken while a reset is in force (R163). -/
def handlerReady (s : State) : Bool := s.resetting.isNone && !s.link.intake.isEmpty && s.link.hasPlace

/-- The tag is held by a request of the list or by the deferred request (R181). -/
def tagInUse (tag : Byte) (rest : List Request) (d : Option Deferred) : Bool :=
  rest.any (fun r => r.tag == tag) || d.any (fun x => x.tag == tag)

/-- The checks of R181 in order, then the owning block (R182). `rest` are the requests behind it. -/
def checkRequest (r : Request) (rest : List Request) (s : State) : State :=
  if tagInUse r.tag rest s.link.deferred then refuse r.tag .duplicateTag s
  else
    match Code.ofByte r.code with
    | none => refuse r.tag .unknownRequest s
    | some c =>
      if r.payload.length = c.required r.payload then carryOut c r.tag r.payload s else refuse r.tag .badLength s

/-- The head request leaves the intake queue and a reservation is made for its answer (R180). -/
def reserveFor (rest : List Request) (s : State) : State :=
  { s with link := { s.link with intake := rest, reservations := s.link.reservations + 1 } }

/-- The handler takes the head request (R180). -/
def takeRequest (s : State) : State :=
  match s.link.intake with
  | [] => s
  | r :: rest => checkRequest r rest (reserveFor rest s)

/-- The handler or the arbiter moves once, when either can; where both can, a free value chooses (R145; log 5). -/
def serve (s : State) : State :=
  if handlerReady s then
    if arbiterReady s then
      if Config.arbiterFirst s.races then compose (countRace s) else takeRequest (countRace s)
    else takeRequest s
  else if arbiterReady s then compose s
  else s

/-- n moves of the handler and the arbiter. -/
def serveTimes : Nat → State → State
  | 0, s => s
  | n + 1, s => serveTimes n (serve s)

/-- The handler and the arbiter move while they can (R144, R180). A move of the one shortens the intake queue, a move of
the other fills one of two notification places, so this many moves are enough. -/
def settle (s : State) : State := serveTimes (s.link.intake.length + Config.notifyPlaces) s

/-! ### Completed frames (R176, R178, R179) -/

/-- The frame is discarded with INTAKE_OVERFLOW (R176, R178). -/
def overflow (r : Request) (s : State) : State :=
  raise .intakeOverflow ⟨r.tag, r.code, byte s.link.outbound.length, byte s.link.reservations⟩ s

/-- Test 3 of R176: a request frame enters the tail of the intake queue, or is discarded when that is full. -/
def enterIntake (r : Request) (s : State) : State :=
  if s.link.intake.length < Config.intakePlaces then
    { s with link := { s.link with intake := s.link.intake ++ [r] } }
  else overflow r s

/-- Tests 2 and 3 of R176 on a frame whose check is right. -/
def acceptFrame (kind : Byte) (r : Request) (s : State) : State :=
  if kind ≠ requestKind ∨ r.tag = 0 then
    raise .frameKind ⟨kind, r.tag, r.code, byte (r.payload.length + 3)⟩ s
  else enterIntake r s

/-- The second check byte completes a frame (R176): L, the body and the check received. -/
def completeFrame (len : Nat) (body : List Byte) (check : Word) (s : State) : State :=
  if check ≠ linkCheck (byte len :: body) then
    raise .frameCheck ⟨byte len, byteAt body 0, byteAt body 1, byteAt body 2⟩ s
  else acceptFrame (byteAt body 0) ⟨byteAt body 1, byteAt body 2, body.drop 3⟩ s

/-! ### The parser (R175, R177) -/

/-- A new parser state. -/
def setParser (p : Parser) (s : State) : State := { s with link := { s.link with parser := p } }

/-- A length byte that R175 accepts. -/
def goodLength (b : Byte) : Bool := within 3 243 b.toNat

/-- The parser takes one inbound byte (R175). -/
def parseByte (b : Byte) (s : State) : State :=
  match s.link.parser with
  | .sync => if b = Config.syncByte then setParser .length s else s
  | .length =>
    if goodLength b then setParser (.body b.toNat []) s
    else raise .frameLength ⟨b, 0, 0, 0⟩ (setParser .sync s)
  | .body len bytes =>
    let body := bytes ++ [b]
    setParser (if body.length < len then .body len body else .check len body none) s
  | .check len body none => setParser (.check len body (some b)) s
  | .check len body (some high) => completeFrame len body (high ++ b) (setParser .sync s)

/-- FRAME_CUT's detail, none where no frame is in progress (R177, R178). The count is of bytes after the sync byte. -/
def Parser.cutDetail : Parser → Option Detail
  | .sync => none
  | .length => some ⟨0, 0, 0, 0⟩
  | .body len bytes => some ⟨byte (1 + bytes.length), byte len, byteAt bytes 0, byteAt bytes 1⟩
  | .check len bytes high =>
    some ⟨byte (1 + bytes.length + (if high.isSome then 1 else 0)), byte len, byteAt bytes 0, byteAt bytes 1⟩

/-- CS rises inside a frame: the frame is cut (R177). -/
def cutFrame (s : State) : State :=
  match s.link.parser.cutDetail with
  | some d => raise .frameCut d (setParser .sync s)
  | none => s

/-! ### Outbound bytes (R170, R173, R174, R187) -/

/-- L of an outbound frame (R187). -/
def OutFrame.lengthByte (f : OutFrame) : Byte := byte (f.payload.length + 4)

/-- The body of an outbound frame with its room byte (R187). -/
def OutFrame.body (f : OutFrame) (room : Byte) : List Byte := [f.kind.code, f.tag, f.code, room] ++ f.payload

/-- Number of bytes of an outbound frame on the link: L + 4. -/
def OutFrame.size (f : OutFrame) : Nat := f.payload.length + 8

/-- The bytes of an outbound frame on the link (R174, R187). Before its sync byte is clocked out, only that byte is
chosen from them. -/
def OutFrame.wire (f : OutFrame) : List Byte :=
  let fill := f.fill.getD (0, 0)
  [Config.syncByte, f.lengthByte] ++ f.body fill.1 ++ [highByte fill.2, lowByte fill.2]

/-- The room byte and check are filled in (R173). -/
def OutFrame.filled (f : OutFrame) (room : Byte) : OutFrame :=
  { f with fill := some (room, linkCheck (f.lengthByte :: f.body room)) }

/-- The outbound byte of the exchange that begins (R170). -/
def nextByte (k : Link) : Exchange :=
  match k.outbound with
  | [] => ⟨Config.fillerByte, .filler⟩
  | f :: _ => ⟨(f.wire[k.delivered]?).getD 0, .frame⟩

/-- An exchange begins (R170). While a reset is in force it carries 0x00 and its inbound byte is not parsed (R163;
log 17). -/
def beginExchange (s : State) : State :=
  let x : Exchange := if s.resetting.isSome then ⟨Config.fillerByte, .orphan⟩ else nextByte s.link
  { s with link := { s.link with exchange := some x } }

/-- The free intake places (R173). -/
def roomByte (k : Link) : Byte := byte (Config.intakePlaces - k.intake.length)

/-- The next byte of the oldest frame counts as clocked out: the sync byte fills in room and check (R173), the last byte
takes the frame out of the queue (R170). -/
def clockOut (s : State) : State :=
  match s.link.outbound with
  | [] => s
  | f :: rest =>
    if s.link.delivered + 1 = f.size then
      { s with link := { s.link with outbound := rest, delivered := 0 } }
    else
      let g := if s.link.delivered = 0 then f.filled (roomByte s.link) else f
      { s with link := { s.link with outbound := g :: rest, delivered := s.link.delivered + 1 } }

/-- The exchange in progress sends a byte of the oldest frame. -/
def sendsFrame (s : State) : Bool :=
  match s.link.exchange with
  | some x => x.source == .frame
  | none => false

/-- The inbound byte of the exchange in progress goes to the parser: no reset came during it (R163, R186). -/
def hears (s : State) : Bool :=
  match s.link.exchange with
  | some x => s.resetting.isNone && x.source != .orphan
  | none => false

/-- Where the byte just clocked out freed a place for a party that waits, that party may move before the inbound byte
completes a frame or after it (R179); a free value chooses (log 5). -/
def moveFirst (s : State) : State :=
  if handlerReady s || arbiterReady s then
    if Config.arbiterFirst s.races then settle (countRace s) else countRace s
  else s

/-- The exchange in progress is complete (R169, R170): its outbound byte counts as clocked out, its inbound byte goes to
the parser, what follows follows, and the next exchange begins. -/
def exchange (b : Byte) (s : State) : State :=
  let t := if sendsFrame s && s.resetting.isNone then moveFirst (clockOut s) else s
  let u := if hears t then parseByte b t else t
  beginExchange (settle u)

end Sys2Proof.Machine
end

