-- ==== Sys2Proof/Machine/RequestRows.lean ====
section
/-! DEFINITION. The request rows: a request frame of the row's code, its check right, has come in whole. It is tested and
enters the intake queue (R176), and the handler takes what it can (R180; log 1). -/
namespace Sys2Proof.Machine

/-- What a command answers: its effect on the state, after which the handler and the arbiter have moved (log 5). -/
def finish (s : State) : Host.Outcome State Fault Refusal := .next (settle s)

/-- A request frame has come in whole with its check right (R176). While a reset is in force no inbound byte is parsed
(R163), so no frame comes in. -/
def requestArrives (code tag : Byte) (payload : List Byte) (s : State) : State :=
  if s.resetting.isSome then s else acceptFrame requestKind ⟨tag, code, payload⟩ s

/-- IDENT (R162): vendor, part, revision and capacities are answered. -/
def execIdent (tag : Byte) (payload : List Byte) (s : State) : Host.Outcome State Fault Refusal :=
  finish (requestArrives Code.ident.byte tag payload s)

/-- CONFIG (R155, R156). -/
def execConfig (tag : Byte) (payload : List Byte) (s : State) : Host.Outcome State Fault Refusal :=
  finish (requestArrives Code.config.byte tag payload s)

/-- CFGGET (R157): the stored parameters are answered. -/
def execCfgget (tag : Byte) (payload : List Byte) (s : State) : Host.Outcome State Fault Refusal :=
  finish (requestArrives Code.cfgget.byte tag payload s)

/-- START (R158, R22, R28). -/
def execStart (tag : Byte) (payload : List Byte) (s : State) : Host.Outcome State Fault Refusal :=
  finish (requestArrives Code.start.byte tag payload s)

/-- STOP (R159). -/
def execStop (tag : Byte) (payload : List Byte) (s : State) : Host.Outcome State Fault Refusal :=
  finish (requestArrives Code.stop.byte tag payload s)

/-- STAT (R161). -/
def execStat (tag : Byte) (payload : List Byte) (s : State) : Host.Outcome State Fault Refusal :=
  finish (requestArrives Code.stat.byte tag payload s)

/-- RESET (R164): a reset of cause COMMAND. -/
def execReset (tag : Byte) (payload : List Byte) (s : State) : Host.Outcome State Fault Refusal :=
  finish (requestArrives Code.reset.byte tag payload s)

/-- EPUT (R44, R198). -/
def execEput (tag : Byte) (payload : List Byte) (s : State) : Host.Outcome State Fault Refusal :=
  finish (requestArrives Code.eput.byte tag payload s)

/-- EDEL (R45). -/
def execEdel (tag : Byte) (payload : List Byte) (s : State) : Host.Outcome State Fault Refusal :=
  finish (requestArrives Code.edel.byte tag payload s)

/-- EGET (R46, R198). -/
def execEget (tag : Byte) (payload : List Byte) (s : State) : Host.Outcome State Fault Refusal :=
  finish (requestArrives Code.eget.byte tag payload s)

/-- TCLR (R47). -/
def execTclr (tag : Byte) (payload : List Byte) (s : State) : Host.Outcome State Fault Refusal :=
  finish (requestArrives Code.tclr.byte tag payload s)

/-- TLOAD (R48). -/
def execTload (tag : Byte) (payload : List Byte) (s : State) : Host.Outcome State Fault Refusal :=
  finish (requestArrives Code.tload.byte tag payload s)

/-- TCHK (R49). -/
def execTchk (tag : Byte) (payload : List Byte) (s : State) : Host.Outcome State Fault Refusal :=
  finish (requestArrives Code.tchk.byte tag payload s)

/-- TCOMMIT (R50, R51). -/
def execTcommit (tag : Byte) (payload : List Byte) (s : State) : Host.Outcome State Fault Refusal :=
  finish (requestArrives Code.tcommit.byte tag payload s)

/-- TCANCEL (R54). -/
def execTcancel (tag : Byte) (payload : List Byte) (s : State) : Host.Outcome State Fault Refusal :=
  finish (requestArrives Code.tcancel.byte tag payload s)

/-- BSETUP (R67). -/
def execBsetup (tag : Byte) (payload : List Byte) (s : State) : Host.Outcome State Fault Refusal :=
  finish (requestArrives Code.bsetup.byte tag payload s)

/-- BWRITE (R70). -/
def execBwrite (tag : Byte) (payload : List Byte) (s : State) : Host.Outcome State Fault Refusal :=
  finish (requestArrives Code.bwrite.byte tag payload s)

/-- BREAD (R80). -/
def execBread (tag : Byte) (payload : List Byte) (s : State) : Host.Outcome State Fault Refusal :=
  finish (requestArrives Code.bread.byte tag payload s)

/-- BSTAT (R82). -/
def execBstat (tag : Byte) (payload : List Byte) (s : State) : Host.Outcome State Fault Refusal :=
  finish (requestArrives Code.bstat.byte tag payload s)

/-- LSTAT (R105). -/
def execLstat (tag : Byte) (payload : List Byte) (s : State) : Host.Outcome State Fault Refusal :=
  finish (requestArrives Code.lstat.byte tag payload s)

/-- SPOST (R111). -/
def execSpost (tag : Byte) (payload : List Byte) (s : State) : Host.Outcome State Fault Refusal :=
  finish (requestArrives Code.spost.byte tag payload s)

/-- SCANCEL (R119). -/
def execScancel (tag : Byte) (payload : List Byte) (s : State) : Host.Outcome State Fault Refusal :=
  finish (requestArrives Code.scancel.byte tag payload s)

/-- SLIST (R121). -/
def execSlist (tag : Byte) (payload : List Byte) (s : State) : Host.Outcome State Fault Refusal :=
  finish (requestArrives Code.slist.byte tag payload s)

/-- RFETCH (R130). -/
def execRfetch (tag : Byte) (payload : List Byte) (s : State) : Host.Outcome State Fault Refusal :=
  finish (requestArrives Code.rfetch.byte tag payload s)

/-- RDROP (R131, R132). -/
def execRdrop (tag : Byte) (payload : List Byte) (s : State) : Host.Outcome State Fault Refusal :=
  finish (requestArrives Code.rdrop.byte tag payload s)

/-- RTHRESH (R134). -/
def execRthresh (tag : Byte) (payload : List Byte) (s : State) : Host.Outcome State Fault Refusal :=
  finish (requestArrives Code.rthresh.byte tag payload s)

/-- GSET (R149). -/
def execGset (tag : Byte) (payload : List Byte) (s : State) : Host.Outcome State Fault Refusal :=
  finish (requestArrives Code.gset.byte tag payload s)

/-- NMASK (R150). -/
def execNmask (tag : Byte) (payload : List Byte) (s : State) : Host.Outcome State Fault Refusal :=
  finish (requestArrives Code.nmask.byte tag payload s)

/-- NACK (R147). -/
def execNack (tag : Byte) (payload : List Byte) (s : State) : Host.Outcome State Fault Refusal :=
  finish (requestArrives Code.nack.byte tag payload s)

/-- EVREAD (R151). -/
def execEvread (tag : Byte) (payload : List Byte) (s : State) : Host.Outcome State Fault Refusal :=
  finish (requestArrives Code.evread.byte tag payload s)

/-- LSET with action DISABLE (R101). -/
def execLsetDisable (tag lane : Byte) (s : State) : Host.Outcome State Fault Refusal :=
  finish (requestArrives Code.lset.byte tag [lane, 1] s)

/-- LSET with action ENABLE (R102). -/
def execLsetEnable (tag lane : Byte) (s : State) : Host.Outcome State Fault Refusal :=
  finish (requestArrives Code.lset.byte tag [lane, 2] s)

/-- LSET with action CLEAR (R103). -/
def execLsetClear (tag lane : Byte) (s : State) : Host.Outcome State Fault Refusal :=
  finish (requestArrives Code.lset.byte tag [lane, 3] s)

/-- A request whose code names no request (R181). A code that names one is another row's (log 2). -/
def execUnknownRequest (tag code : Byte) (payload : List Byte) (s : State) : Host.Outcome State Fault Refusal :=
  finish (if (Code.ofByte code).isNone then requestArrives code tag payload s else s)

end Sys2Proof.Machine
end

