-- ==== Sys2Proof/Machine/LinkRows.lean ====
section
/-! DEFINITION. The rows of the host link, of the notification arbiter and of the resets from outside. A row whose
occurrence the state does not allow does not occur (log 2). -/
namespace Sys2Proof.Machine

/-! ### Transactions (R169, R177) -/

/-- CS falls: a transaction begins and its first outbound byte is chosen (R169, R170). -/
def fallCS (s : State) : State :=
  if s.link.transaction then s else beginExchange { s with link := { s.link with transaction := true } }

/-- CS rises: the transaction ends, the exchange in progress is discarded, its outbound byte offered again, and a frame in
progress is cut (R169, R177). -/
def riseCS (s : State) : State :=
  if s.link.transaction then cutFrame { s with link := { s.link with transaction := false, exchange := none } } else s

/-- TRANSACTION_START: CS falls (R169). -/
def execTransactionStart (s : State) : Host.Outcome State Fault Refusal := finish (fallCS s)

/-- TRANSACTION_END: CS rises (R177). -/
def execTransactionEnd (s : State) : Host.Outcome State Fault Refusal := finish (riseCS s)

/-! ### Exchanges (R169, R170). The last four rows are exchanges in which one thing more is known (log 8). -/

/-- An exchange is in progress: CS is low (R169). -/
def exchanging (s : State) : Bool := s.link.transaction && s.link.exchange.isSome

/-- EXCHANGE_COMPLETE: the eighth bit has passed (R169). -/
def execExchangeComplete (b : Byte) (s : State) : Host.Outcome State Fault Refusal :=
  finish (if exchanging s then exchange b s else s)

/-- The parser awaits the second check byte. -/
def Parser.lastByteNext : Parser → Bool
  | .check _ _ (some _) => true
  | _ => false

/-- INBOUND_FRAME_COMPLETE: the exchange that brings the second check byte (R176). -/
def execInboundFrameComplete (b : Byte) (s : State) : Host.Outcome State Fault Refusal :=
  finish (if exchanging s && hears s && s.link.parser.lastByteNext then exchange b s else s)

/-- FRAME_LENGTH: the exchange that brings a length byte outside 3 to 243 (R175). -/
def execFrameLength (b : Byte) (s : State) : Host.Outcome State Fault Refusal :=
  finish (if exchanging s && hears s && s.link.parser == .length && !goodLength b then exchange b s else s)

/-- SYNC_BYTE_CLOCKED_OUT: the exchange that sends the first byte of an outbound frame (R173). -/
def execSyncByteClockedOut (b : Byte) (s : State) : Host.Outcome State Fault Refusal :=
  finish (if exchanging s && sendsFrame s && s.link.delivered == 0 then exchange b s else s)

/-- The oldest frame's last byte is the one being sent. -/
def lastByteOut (k : Link) : Bool :=
  match k.outbound with
  | [] => false
  | f :: _ => k.delivered + 1 == f.size

/-- FRAME_CLOCKED_OUT: the exchange that sends the last byte of an outbound frame (R170). -/
def execFrameClockedOut (b : Byte) (s : State) : Host.Outcome State Fault Refusal :=
  finish (if exchanging s && sendsFrame s && lastByteOut s.link then exchange b s else s)

/-! ### The notification arbiter (R144 to R146) -/

/-- NOTIFICATION_FRAME_COMPOSED: the arbiter composes one frame, when its conditions hold (R146). -/
def execNotificationFrameComposed (s : State) : Host.Outcome State Fault Refusal :=
  finish (if arbiterReady s then compose s else s)

/-! ### Resets from outside (R163, R165, R166) -/

/-- The cause a reset reports that merges with the one in force: POWER when it took part (R163). -/
def mergedCause (cause : ResetCause) : Option ResetCause → ResetCause
  | some .power => .power
  | _ => cause

/-- A reset from outside begins: every block is held at its reset values (R163, R165). An exchange in progress goes on
with the filler byte, and its inbound byte is not parsed (log 17). -/
def holdReset (cause : ResetCause) (s : State) : State :=
  let x := s.link.exchange.map fun _ => (⟨Config.fillerByte, .orphan⟩ : Exchange)
  { resetBlocks { Link.reset with exchange := x } s with resetting := some (mergedCause cause s.resetting) }

/-- The reset in force ends: the STARTUP frame enters the empty outbound queue (R165, R166). -/
def releaseReset (cause : ResetCause) (s : State) : State :=
  { s with link := { s.link with outbound := [startupFrame cause.code 0] }, resetting := none }

/-- POWER_RESET: the supply rises from below its operating range (R163). -/
def execPowerReset (s : State) : Host.Outcome State Fault Refusal := finish (holdReset .power s)

/-- PIN_RESET: RESET_N is driven low (R163). -/
def execPinReset (s : State) : Host.Outcome State Fault Refusal := finish (holdReset .pin s)

/-- RESET_END: the last cause of the reset in force ends (R163, R166; log 20). -/
def execResetEnd (s : State) : Host.Outcome State Fault Refusal :=
  finish (match s.resetting with
    | some cause => releaseReset cause s
    | none => s)

end Sys2Proof.Machine
end

