-- ==== Sys2Proof/Machine/TimeRows.lean ====
section
/-! DEFINITION. The rows of the timebase: cycle starts and what follows them, the startup listen, beacon deadlines, and
messages heard in FREE mode. A timed row moves time forward to its moment (log 3). -/
namespace Sys2Proof.Machine

/-! ### Cycle starts (R18) -/

/-- CYCLE_START: the offset reaches the current length (R18). The operand settles the orders R98 leaves open (log 7). -/
def execCycleStart (first : Promotions) (s : State) : Host.Outcome State Fault Refusal :=
  finish (if cycleEnds s then cycleStartEvent first s else s)

/-- The CYCLE_MARK pulse is over (R18). -/
def clearMark (s : State) : State := setTimebase { s.tb with markUntil := none } s

/-- The CYCLE_MARK pulse ends at moment t, which time passes to if it is still to come (R18). -/
def endPulse (t : Nat) (s : State) : State :=
  let m := s.tb.offset + (t - s.now)
  if s.now < t then (if reaches s m then clearMark (passTo m s) else s) else clearMark s

/-- CYCLE_MARK_PULSE_END (R18). -/
def execCycleMarkPulseEnd (s : State) : Host.Outcome State Fault Refusal :=
  finish (match s.tb.markUntil with
    | some t => endPulse t s
    | none => s)

/-! ### Reactions to a cycle-start event that are rows of their own. CYCLE_START, and a hard alignment that ends a cycle,
bring them about themselves; the rows bring about what is still due at that moment (log 6). -/

/-- EXPIRY: the entries whose life has run out expire (R118). -/
def execExpiry (s : State) : Host.Outcome State Fault Refusal :=
  finish (if s.tb.atCycleStart then expireDue s else s)

/-- HOLD_EXPIRED: a lane that has served its hold becomes PROBATION (R96). -/
def execHoldExpired (l : Lane) (s : State) : Host.Outcome State Fault Refusal :=
  finish (if s.tb.atCycleStart && holdServed s l then enterProbation l .holdExpired s else s)

/-- PROBATION_PASSED: a lane that has passed its probation becomes ACTIVE (R98). -/
def execProbationPassed (l : Lane) (s : State) : Host.Outcome State Fault Refusal :=
  finish (if s.tb.atCycleStart && probationServed s l then promoteLane l s else s)

/-! ### The startup listen and the beacon deadline (R23, R33 to R36) -/

/-- STARTUP_LISTEN_EXPIRY (R23). -/
def execStartupListenExpiry (s : State) : Host.Outcome State Fault Refusal :=
  finish (match s.tb.startupListen with
    | some t => expireListen t s
    | none => s)

/-- BEACON_DEADLINE: offset 21 + lock window of a follower's cycle (R33). -/
def execBeaconDeadline (s : State) : Host.Outcome State Fault Refusal :=
  finish (if deadlineDue s then meetDeadline s else s)

/-- The coming deadline is the one at which the missed count reaches the holdover limit (R36). -/
def limitComes (s : State) : Bool :=
  deadlineDue s && s.tb.sync == .holdover && !s.tb.beaconMark && decide (s.cfg.holdoverLimit ≤ s.tb.missed + 1)

/-- HOLDOVER_LIMIT_REACHED: the deadline in HOLDOVER at which cycles stop (R36; log 6). -/
def execHoldoverLimitReached (s : State) : Host.Outcome State Fault Refusal :=
  finish (if limitComes s then meetDeadline s else s)

/-! ### Messages heard in FREE mode (R10, R15) -/

/-- So much time can pass with no end of a window, a launch, the cycle or the startup listen coming first (log 3). -/
def canPass (elapsed : Nat) (s : State) : Bool :=
  if s.tb.sync.running then reaches s (s.tb.offset + elapsed)
  else
    match s.tb.startupListen with
    | some t => decide (s.now + elapsed ≤ t)
    | none => true

/-- Time passes (R17). -/
def pass (elapsed : Nat) (s : State) : State :=
  if s.tb.sync.running then passTo (s.tb.offset + elapsed) s else { s with now := s.now + elapsed }

/-- FREE_MESSAGE_END: a message heard in FREE mode ends or is cut (R15). A message that the receiver does not take in FREE
mode is not heard. -/
def execFreeMessageEnd (l : Lane) (elapsed : Nat) (m : FreeMessage) (s : State) : Host.Outcome State Fault Refusal :=
  let t := pass elapsed s
  finish (if canPass elapsed s && hearsFree t l m.lead m.body then endFree l m.body t else s)

end Sys2Proof.Machine
end

