-- ==== Sys2Proof/Machine/WindowRows.lean ====
section
/-! DEFINITION. The rows of the schedule executor and of the launches: window starts, breaches, window ends and launch
ends. Each moves time forward to its offset (log 3). -/
namespace Sys2Proof.Machine

/-! ### Window starts (R56) -/

/-- The window-start event of the entry at a position, of one role, comes at its offset; `start` is what the role does. -/
def windowStart (role : EntryRole) (start : Nat → Entry → State → State) (position : Nat) (s : State) : State :=
  match opens s role position with
  | some e => start position e (passTo e.start s)
  | none => s

/-- SEND_WINDOW_START (R58). -/
def execSendWindowStart (position : Nat) (s : State) : Host.Outcome State Fault Refusal :=
  finish (windowStart .send openSend position s)

/-- EXPECT_WINDOW_START (R60). -/
def execExpectWindowStart (position : Nat) (s : State) : Host.Outcome State Fault Refusal :=
  finish (windowStart .expect openExpect position s)

/-- OPEN_WINDOW_START (R62, R113). -/
def execOpenWindowStart (position : Nat) (s : State) : Host.Outcome State Fault Refusal :=
  finish (windowStart .openSlot openOpen position s)

/-- QUIET_WINDOW_START (R63). -/
def execQuietWindowStart (position : Nat) (s : State) : Host.Outcome State Fault Refusal :=
  finish (windowStart .quiet openQuiet position s)

/-! ### Breaches and window ends (R59 to R63) -/

/-- A carrier start on a lane at an offset of the open window (R63). -/
def carrierStart (l : Lane) (offset : Nat) (s : State) : State :=
  match s.sched.window with
  | some w => if isBreach s w l offset then breachAt w l offset (passTo offset s) else s
  | none => s

/-- BREACH: the first carrier start on a watching lane in a QUIET window (R63). -/
def execBreach (l : Lane) (offset : Nat) (s : State) : Host.Outcome State Fault Refusal :=
  finish (carrierStart l offset s)

/-- An EXPECT window ends and its outcomes are formed, combined, graded and applied (R61, R90). -/
def closeExpect (heardA heardB : List Heard) (s : State) : State :=
  match s.sched.window with
  | some w =>
    if w.role.isExpect && reaches s w.ends then endExpect w heardA heardB (passTo w.ends s) else s
  | none => s

/-- EXPECT_WINDOW_END (R61). -/
def execExpectWindowEnd (heardA heardB : List Heard) (s : State) : Host.Outcome State Fault Refusal :=
  finish (closeExpect heardA heardB s)

/-- A SEND, OPEN or QUIET window ends: its context closes (R59, R62, R63). A launch in it ends before it (R41). -/
def closeWindow (s : State) : State :=
  match s.sched.window with
  | some w =>
    if !w.role.isExpect && s.launch.isNone && reaches s w.ends then abandonWindow (passTo w.ends s) else s
  | none => s

/-- WINDOW_END (R59, R62, R63). -/
def execWindowEnd (s : State) : Host.Outcome State Fault Refusal := finish (closeWindow s)

/-! ### Launch ends (R8) -/

/-- The launch-end event of a launch of one kind comes at its offset; `stop` is what the kind does. -/
def launchEnd (kind : LaunchKind) (stop : Launch → State → State) (s : State) : State :=
  match s.launch with
  | some l => if l.kind == kind && reaches s l.ends then stop l (passTo l.ends s) else s
  | none => s

/-- SEND_LAUNCH_END (R59). -/
def execSendLaunchEnd (echoA echoB : Echo) (s : State) : Host.Outcome State Fault Refusal :=
  finish (launchEnd .send (fun l => endSend l echoA echoB) s)

/-- SPORADIC_LAUNCH_END (R115). -/
def execSporadicLaunchEnd (echoA echoB : Echo) (s : State) : Host.Outcome State Fault Refusal :=
  finish (launchEnd .sporadic (fun l => endSporadic l echoA echoB) s)

/-- BEACON_LAUNCH_END (R26). -/
def execBeaconLaunchEnd (echoA echoB : Echo) (s : State) : Host.Outcome State Fault Refusal :=
  finish (launchEnd .beacon (fun l => endBeacon l echoA echoB) s)

end Sys2Proof.Machine
end

