-- ==== Sys2Proof/Machine/Tick.lean ====
section
/-! DEFINITION. What the part does with no command waiting: the next event of its own, or one microtick (R17; log 4). -/
namespace Sys2Proof.Machine

/-- The window-start row of a role. -/
def EntryRole.startRow (position : Nat) : EntryRole → Instr
  | .send => .sendWindowStart position
  | .expect => .expectWindowStart position
  | .openSlot => .openWindowStart position
  | .quiet => .quietWindowStart position

/-- The first position, from i on, whose window starts at this offset (R56). -/
def windowDue (s : State) : Bank → Nat → Option Instr
  | [], _ => none
  | none :: b, i => windowDue s b (i + 1)
  | some e :: b, i =>
    if e.start = s.tb.offset ∧ (opens s e.role i).isSome = true then some (e.role.startRow i)
    else windowDue s b (i + 1)

/-- The open window ends here with nothing to judge and no launch in it. -/
def windowEndDue (s : State) : Bool :=
  match s.sched.window with
  | some w => !w.role.isExpect && s.launch.isNone && w.ends == s.tb.offset
  | none => false

/-- The startup listen has run its time (R22). -/
def listenOver (s : State) : Bool :=
  match s.tb.startupListen with
  | some t => decide (t ≤ s.now)
  | none => false

/-- The CYCLE_MARK pulse has run its time (R18). -/
def pulseOver (s : State) : Bool :=
  match s.tb.markUntil with
  | some t => decide (t ≤ s.now)
  | none => false

/-- The event of its own that comes at this moment, if any: one that needs nothing from outside. Which promotions come before
the beacon launch is a free value (R98; log 7). -/
def selfTimed (s : State) : Option Instr :=
  if s.resetting.isSome then none
  else if listenOver s then some .startupListenExpiry
  else if pulseOver s then some .cycleMarkPulseEnd
  else if s.tb.sync.running then
    if windowEndDue s then some .windowEnd
    else if deadlineDue s && s.tb.offset == deadlineOffset s.cfg then some .beaconDeadline
    else if cycleEnds s && s.tb.offset == s.tb.length then
      some (.cycleStart ⟨(Config.promotedFirst s.races).1, (Config.promotedFirst s.races).2⟩)
    else windowDue s s.sched.active 0
  else none

/-- One microtick passes (R17). Time waits, in a reset and where what comes next needs the outside: the end of a launch or
of an EXPECT window (log 4). -/
def microtick (s : State) : State :=
  if s.resetting.isSome then s
  else if s.tb.sync.running then
    if reaches s (s.tb.offset + 1) then passTo (s.tb.offset + 1) s else s
  else { s with now := s.now + 1 }

end Sys2Proof.Machine
end

