-- ==== Sys2Proof/Machine/Dispatch.lean ====
section
/-! DEFINITION. What each command does: one arm for each row of the table. -/
namespace Sys2Proof.Machine

def exec (i : Instr) (s : State) : Host.Outcome State Fault Refusal :=
  match i with
  | .ident tag payload => Sys2Proof.Machine.execIdent tag payload s
  | .config tag payload => Sys2Proof.Machine.execConfig tag payload s
  | .cfgget tag payload => Sys2Proof.Machine.execCfgget tag payload s
  | .start tag payload => Sys2Proof.Machine.execStart tag payload s
  | .stop tag payload => Sys2Proof.Machine.execStop tag payload s
  | .stat tag payload => Sys2Proof.Machine.execStat tag payload s
  | .reset tag payload => Sys2Proof.Machine.execReset tag payload s
  | .eput tag payload => Sys2Proof.Machine.execEput tag payload s
  | .edel tag payload => Sys2Proof.Machine.execEdel tag payload s
  | .eget tag payload => Sys2Proof.Machine.execEget tag payload s
  | .tclr tag payload => Sys2Proof.Machine.execTclr tag payload s
  | .tload tag payload => Sys2Proof.Machine.execTload tag payload s
  | .tchk tag payload => Sys2Proof.Machine.execTchk tag payload s
  | .tcommit tag payload => Sys2Proof.Machine.execTcommit tag payload s
  | .tcancel tag payload => Sys2Proof.Machine.execTcancel tag payload s
  | .bsetup tag payload => Sys2Proof.Machine.execBsetup tag payload s
  | .bwrite tag payload => Sys2Proof.Machine.execBwrite tag payload s
  | .bread tag payload => Sys2Proof.Machine.execBread tag payload s
  | .bstat tag payload => Sys2Proof.Machine.execBstat tag payload s
  | .lsetDisable tag lane => Sys2Proof.Machine.execLsetDisable tag lane s
  | .lsetEnable tag lane => Sys2Proof.Machine.execLsetEnable tag lane s
  | .lsetClear tag lane => Sys2Proof.Machine.execLsetClear tag lane s
  | .lstat tag payload => Sys2Proof.Machine.execLstat tag payload s
  | .spost tag payload => Sys2Proof.Machine.execSpost tag payload s
  | .scancel tag payload => Sys2Proof.Machine.execScancel tag payload s
  | .slist tag payload => Sys2Proof.Machine.execSlist tag payload s
  | .rfetch tag payload => Sys2Proof.Machine.execRfetch tag payload s
  | .rdrop tag payload => Sys2Proof.Machine.execRdrop tag payload s
  | .rthresh tag payload => Sys2Proof.Machine.execRthresh tag payload s
  | .gset tag payload => Sys2Proof.Machine.execGset tag payload s
  | .nmask tag payload => Sys2Proof.Machine.execNmask tag payload s
  | .nack tag payload => Sys2Proof.Machine.execNack tag payload s
  | .evread tag payload => Sys2Proof.Machine.execEvread tag payload s
  | .unknownRequest tag code payload => Sys2Proof.Machine.execUnknownRequest tag code payload s
  | .inboundFrameComplete byte => Sys2Proof.Machine.execInboundFrameComplete byte s
  | .frameLength byte => Sys2Proof.Machine.execFrameLength byte s
  | .transactionEnd => Sys2Proof.Machine.execTransactionEnd s
  | .syncByteClockedOut byte => Sys2Proof.Machine.execSyncByteClockedOut byte s
  | .frameClockedOut byte => Sys2Proof.Machine.execFrameClockedOut byte s
  | .notificationFrameComposed => Sys2Proof.Machine.execNotificationFrameComposed s
  | .powerReset => Sys2Proof.Machine.execPowerReset s
  | .pinReset => Sys2Proof.Machine.execPinReset s
  | .resetEnd => Sys2Proof.Machine.execResetEnd s
  | .cycleStart first => Sys2Proof.Machine.execCycleStart first s
  | .cycleMarkPulseEnd => Sys2Proof.Machine.execCycleMarkPulseEnd s
  | .startupListenExpiry => Sys2Proof.Machine.execStartupListenExpiry s
  | .beaconDeadline => Sys2Proof.Machine.execBeaconDeadline s
  | .holdoverLimitReached => Sys2Proof.Machine.execHoldoverLimitReached s
  | .freeMessageEnd lane elapsed message => Sys2Proof.Machine.execFreeMessageEnd lane elapsed message s
  | .sendWindowStart position => Sys2Proof.Machine.execSendWindowStart position s
  | .expectWindowStart position => Sys2Proof.Machine.execExpectWindowStart position s
  | .openWindowStart position => Sys2Proof.Machine.execOpenWindowStart position s
  | .quietWindowStart position => Sys2Proof.Machine.execQuietWindowStart position s
  | .breach lane offset => Sys2Proof.Machine.execBreach lane offset s
  | .expectWindowEnd heardA heardB => Sys2Proof.Machine.execExpectWindowEnd heardA heardB s
  | .windowEnd => Sys2Proof.Machine.execWindowEnd s
  | .sendLaunchEnd echoA echoB => Sys2Proof.Machine.execSendLaunchEnd echoA echoB s
  | .sporadicLaunchEnd echoA echoB => Sys2Proof.Machine.execSporadicLaunchEnd echoA echoB s
  | .beaconLaunchEnd echoA echoB => Sys2Proof.Machine.execBeaconLaunchEnd echoA echoB s
  | .expiry => Sys2Proof.Machine.execExpiry s
  | .holdExpired lane => Sys2Proof.Machine.execHoldExpired lane s
  | .probationPassed lane => Sys2Proof.Machine.execProbationPassed lane s
  | .exchangeComplete byte => Sys2Proof.Machine.execExchangeComplete byte s
  | .transactionStart => Sys2Proof.Machine.execTransactionStart s

end Sys2Proof.Machine
end

