-- ==== Sys2Proof/Safety.lean ====
section
/-! DEFINITION. What the manual says of every reachable state, block by block: the invariants that claims use. -/
namespace Sys2Proof.Machine

/-! ### Configuration store -/

/-- Every parameter lies in its range; node id 0 is unset (R154). -/
abbrev ParamsSound (p : Params) : Prop :=
  p.nodeId ≤ 63 ∧ (200 ≤ p.cycleLength ∧ p.cycleLength ≤ 65000) ∧ (1 ≤ p.tol ∧ p.tol ≤ 8) ∧
  (1 ≤ p.lockWindow ∧ p.lockWindow ≤ 16) ∧ (1 ≤ p.correctionLimit ∧ p.correctionLimit ≤ 10) ∧
  (1 ≤ p.holdoverLimit ∧ p.holdoverLimit ≤ 15) ∧ (4 ≤ p.debitLimit ∧ p.debitLimit ≤ 60) ∧
  (1 ≤ p.holdTime ∧ p.holdTime ≤ 255) ∧ (1 ≤ p.probationCount ∧ p.probationCount ≤ 255)

/-! ### Host link (R168, R172, R179) -/

/-- The outbound queue and its reservations hold at most 8 places, at most 2 of them NOTIFY or STARTUP frames, the intake
queue at most 4 requests, and the one reservation that outlasts a step is the deferred request's (R172, R179, R183). -/
abbrev LinkSound (k : Link) : Prop :=
  k.used ≤ 8 ∧ k.notifications ≤ 2 ∧ k.intake.length ≤ 4 ∧ k.reservations = (if k.deferred.isSome then 1 else 0)

/-- The oldest frame is the one being delivered: its room and check are filled once its sync byte is out, no other frame's
are (R170, R173), and an exchange is in progress exactly while CS is low (R169). -/
abbrev DeliverySound (k : Link) : Prop :=
  (match k.outbound with
    | [] => k.delivered = 0
    | f :: rest => k.delivered < f.size ∧ f.fill.isSome = decide (0 < k.delivered) ∧ ∀ g ∈ rest, g.fill = none) ∧
  k.exchange.isSome = k.transaction ∧
  (∀ x ∈ k.exchange, x.source = .frame → k.outbound ≠ [])

/-- Every frame on its way out fits its length byte (R187). -/
abbrev FramesSound (k : Link) : Prop := ∀ f ∈ k.outbound, f.payload.length ≤ 240

/-- A partial inbound frame has fewer body bytes than its L, or just as many (R175). -/
abbrev ParserSound : Parser → Prop
  | .sync | .length => True
  | .body len bytes => 3 ≤ len ∧ len ≤ 243 ∧ bytes.length < len
  | .check len bytes _ => 3 ≤ len ∧ len ≤ 243 ∧ bytes.length = len

/-- A deferred START is held exactly while the startup listen runs, in LISTEN as MASTER; a deferred TCOMMIT exactly while a
commit is pending, while cycles run (R22, R51, R183). -/
abbrev DeferredSound (s : State) : Prop :=
  match s.link.deferred with
  | none => s.sched.commitPending = false ∧ s.tb.startupListen = none
  | some d =>
    match d.kind with
    | .start =>
      s.sched.commitPending = false ∧ s.tb.startupListen.isSome = true ∧ s.tb.sync = .listen ∧ s.tb.role = .master
    | .tcommit => s.sched.commitPending = true ∧ s.tb.startupListen = none ∧ s.tb.sync.running = true

/-! ### Timebase (R17, R20, R21) -/

/-- With no cycle running the offset stands at 0 and nothing that belongs to a cycle is in progress (R17, R21). -/
abbrev StillSound (s : State) : Prop :=
  s.tb.sync.running = false →
    s.tb.offset = 0 ∧ s.tb.markUntil = none ∧ s.tb.atCycleStart = false ∧ s.sched.window = none ∧ s.launch = none

/-- While a cycle runs its offset is within its length, and the length is the nominal one within the correction limit
(R17, R20). -/
abbrev CycleSound (s : State) : Prop :=
  s.tb.sync.running = true →
    s.tb.offset ≤ s.tb.length ∧ s.cfg.cycleLength ≤ s.tb.length + s.cfg.correctionLimit ∧
      s.tb.length ≤ s.cfg.cycleLength + s.cfg.correctionLimit

/-- The moments of the clock agree: a running cycle began as long ago as its offset says, or after a hard alignment 20
microseconds less (R11, R31); a remembered cycle ended before the running one began, and had the offset its own moments give. -/
abbrev ClockSound (s : State) : Prop :=
  s.tb.began ≤ s.now ∧
  (s.tb.sync.running = true → s.tb.began + s.tb.offset = s.now ∨ s.tb.began + s.tb.offset = s.now + 20) ∧
  (∀ c ∈ s.tb.past, c.began ≤ c.ended ∧ c.ended ≤ s.now ∧
    (c.began + c.offset = c.ended ∨ c.began + c.offset = c.ended + 20) ∧
    (s.tb.sync.running = true → c.ended ≤ s.tb.began))

/-- Roles and counts by sync state (R20, R21, R26, R36, R38, R158). -/
abbrev SyncSound (s : State) : Prop :=
  match s.tb.sync with
  | .offline => s.tb.role = s.cfg.role ∧ s.tb.length = s.cfg.cycleLength ∧ s.tb.missed = 0 ∧ s.tb.lastTaken = none
  | .listen => (s.tb.role = .master → s.tb.startupListen.isSome = true) ∧ s.tb.missed = 0 ∧ s.cfg.nodeId ≠ 0
  | .acquire => s.tb.role = .follower ∧ s.tb.missed = 0 ∧ s.cfg.nodeId ≠ 0
  | .locked => s.tb.missed = 0 ∧ s.cfg.nodeId ≠ 0
  | .holdover =>
    s.tb.role = .follower ∧ 1 ≤ s.tb.missed ∧ (s.tb.missed = 1 ∨ s.tb.missed < s.cfg.holdoverLimit) ∧ s.cfg.nodeId ≠ 0

/-! ### Schedule (R39, R40, R43) -/

/-- An entry's fields lie in their ranges, and a field is present exactly for the roles that use it (R40). -/
abbrev EntrySound (e : Entry) : Prop :=
  (1 ≤ e.slot ∧ e.slot ≤ 63) ∧ e.start ≤ 65535 ∧ (1 ≤ e.length ∧ e.length ≤ 65535) ∧ e.lanes.isEmpty = false ∧
  (match e.role with
    | .send => (∃ n ∈ e.buffer, n ≤ 47) ∧ e.sender = none ∧ (∃ n ∈ e.maxWords, n ≤ 32)
    | .expect => (∃ n ∈ e.buffer, n ≤ 47) ∧ e.sender.isSome = true ∧ (∃ n ∈ e.maxWords, n ≤ 32)
    | .openSlot | .quiet => e.buffer = none ∧ e.sender = none ∧ e.maxWords = none)

/-- A bank has 64 positions, and every entry in it is sound (R39, R40). -/
abbrev BankSound (b : Bank) : Prop := b.length = 64 ∧ ∀ p ∈ b, ∀ e ∈ p, EntrySound e

/-- The ACTIVE table is valid, and while a commit is pending so is the EDIT bank (R43, R51). -/
abbrev TableSound (s : State) : Prop :=
  validate s.cfg s.bufs s.sched.active = none ∧
    (s.sched.commitPending = true → validate s.cfg s.bufs s.sched.edit = none)

/-- The lanes of an open EXPECT or QUIET window that have not left it are ACTIVE or PROBATION (R10). -/
abbrev HeldLanesSound (s : State) (w : Window) : Prop :=
  ∀ l ∈ [Lane.A, Lane.B], w.role.holds.has l = true →
    (s.lanes.get l).state = .active ∨ (s.lanes.get l).state = .probation

/-- The open window holds an entry of the ACTIVE bank active in its cycle, of the context's role, and the offset lies
within it (R55, R56). -/
abbrev WindowSound (s : State) : Prop :=
  ∀ w ∈ s.sched.window,
    s.sched.active.entryAt w.position = some w.entry ∧ w.entry.activeIn w.cycle = true ∧
    w.entry.start ≤ s.tb.offset ∧ s.tb.offset ≤ w.ends ∧
    (match w.role, w.entry.role with
      | .send .., .send | .openSlot .., .openSlot | .expect .., .expect | .quiet .., .quiet => True
      | _, _ => False) ∧
    HeldLanesSound s w

/-! ### Launches (R8, R21, R86) -/

/-- A window's launch in progress, if its role has one. -/
def WindowRole.launching : WindowRole → Option LaunchKind
  | .send _ .inProgress => some .send
  | .openSlot _ .inProgress => some .sporadic
  | _ => none

/-- A launch is in progress only in LOCKED or HOLDOVER, on lanes that are ACTIVE and at least one, within its time (R8, R9,
R21, R86). -/
abbrev LaunchSound (s : State) : Prop :=
  ∀ l ∈ s.launch,
    (s.tb.sync = .locked ∨ s.tb.sync = .holdover) ∧ l.onAir.isEmpty = false ∧
    (∀ x ∈ [Lane.A, Lane.B], l.onAir.has x = true → (s.lanes.get x).state = .active) ∧
    l.start ≤ s.tb.offset ∧ s.tb.offset ≤ l.ends ∧
    (l.kind = .beacon → s.sched.window = none ∧ s.tb.role = .master ∧ s.tb.sync = .locked)

/-- The window context, the launch and the sporadic queue agree on what is on the air (R55, R109, R113). -/
abbrev OnAirSound (s : State) : Prop :=
  (match s.launch with
    | some l => s.sched.window.bind (fun w => w.role.launching) = (if l.kind = .beacon then none else some l.kind)
    | none => s.sched.window.bind (fun w => w.role.launching) = none) ∧
  s.spor.entries.countP SporadicEntry.onAir = (if s.launch.map Launch.kind = some .sporadic then 1 else 0)

/-! ### Receivers (R10, R12, R15) -/

/-- What a receiver remembers lies in the past, each span in its order (R10). -/
abbrev ReceiverSound (now : Nat) (r : Receiver) : Prop :=
  r.since ≤ now ∧ r.floor ≤ r.busy ∧ r.busy ≤ now ∧ ∀ x ∈ r.spans, x.opened ≤ x.closed ∧ x.closed ≤ now

/-! ### Lane units (R84) -/

/-- One lane unit: counts in their ranges, and 0 or clear outside the state they belong to (R84, R97). -/
abbrev LaneSound (limit : Nat) (u : LaneUnit) : Prop :=
  u.debit ≤ limit ∧ u.hold ≤ 255 ∧ u.clean ≤ 255 ∧ (u.state ≠ .faulted → u.hold = 0) ∧
    (u.state ≠ .probation → u.clean = 0 ∧ u.good = false) ∧ (u.state = .probation → u.debit = 0)

/-! ### Buffer pool (R65, R69, R75) -/

/-- A buffer's contents and status lie in their ranges (R65, R69, R75). -/
abbrev BufferSound (b : Buffer) : Prop :=
  b.words.length ≤ 32 ∧
  (match b.status with
    | .unused => b.words = []
    | .send _ _ _ count => count ≤ 255
    | .receive r =>
      r.age ≤ 255 ∧ (r.state = .empty → b.words = [] ∧ r.sender = none ∧ r.lastData = none) ∧
        (r.state ≠ .empty → r.sender.isSome = true ∧ r.lastData.isSome = true ∧ r.lanes.isEmpty = false)
    | .sporadic _ => True)

/-- The pool has 48 buffers, each sound (R65). -/
abbrev BuffersSound (s : State) : Prop := s.bufs.length = 48 ∧ ∀ b ∈ s.bufs, BufferSound b

/-! ### Sporadic queue (R108, R109) -/

/-- One entry's fields lie in their ranges, and its buffer is SPORADIC (R66, R109). -/
abbrev SporadicEntrySound (s : State) (e : SporadicEntry) : Prop :=
  (1 ≤ e.ticket ∧ e.ticket ≤ 65535) ∧ e.buffer ≤ 47 ∧ (bufferAt s e.buffer).isSporadic = true ∧
    e.lanes.isEmpty = false ∧ e.priority ≤ 3 ∧ (∀ k ∈ e.slot, 1 ≤ k ∧ k ≤ 63) ∧ (1 ≤ e.life ∧ e.life ≤ 255)

/-- At most 16 entries, no two with one ticket or one buffer (R108, R109). -/
abbrev SporadicSound (s : State) : Prop :=
  s.spor.entries.length ≤ 16 ∧ s.spor.counter ≤ 65535 ∧ (∀ e ∈ s.spor.entries, SporadicEntrySound s e) ∧
    (s.spor.entries.map SporadicEntry.ticket).Nodup ∧ (s.spor.entries.map SporadicEntry.buffer).Nodup

/-! ### Slot record queue (R124, R126, R129) -/

/-- At most 128 records, full while any is lost, numbered without a break up to the next number (R124, R126, R129). -/
abbrev RecordsSound (q : RecordQueue) : Prop :=
  q.records.length ≤ 128 ∧ q.lost ≤ 65535 ∧ (0 < q.lost → q.records.length = 128) ∧
    (1 ≤ q.threshold ∧ q.threshold ≤ 128) ∧
    q.records.map Record.number =
      (List.range q.records.length).map fun i => q.next - BitVec.ofNat 16 (q.records.length - i)

/-! ### Notification unit (R138) -/

/-- One group: its sets name defined kinds, and it has an accumulation exactly in PENDING and AWAITING_MORE (R138). -/
abbrev GroupSound (number : Nat) (g : Group) : Prop :=
  g.level ≤ 7 ∧ g.enable &&& ~~~definedKinds number = 0 ∧ g.seen &&& ~~~definedKinds number = 0 ∧
    g.acc.isSome = (g.delivery == .pending || g.delivery == .awaitingMore) ∧
    (∀ a ∈ g.acc, a.kinds ≠ 0 ∧ a.kinds &&& ~~~definedKinds number = 0 ∧ 1 ≤ a.count ∧ a.count ≤ 255)

/-- Ten groups, each sound, and a mask level in range (R137, R138). -/
abbrev GroupsSound (n : Notifier) : Prop :=
  n.groups.length = 10 ∧ n.mask ≤ 7 ∧ ∀ i < 10, GroupSound i ((n.groups[i]?).getD Group.reset)

/-! ### The whole part -/

/-- While a reset is in force every block is held at its reset values (R163, R165). -/
abbrev ResetSound (s : State) : Prop :=
  s.resetting.isSome = true →
    s = { State.held with
      link := { Link.reset with transaction := s.link.transaction, exchange := s.link.exchange }
      resetting := s.resetting, races := s.races, pending := s.pending }

/-- Neither the handler nor the arbiter has anything it can do now (R144, R180). -/
abbrev Settled (s : State) : Prop := handlerReady s = false ∧ arbiterReady s = false

/-- The invariant: every block sound. -/
structure Inv (s : State) : Prop where
  params : ParamsSound s.cfg
  link : LinkSound s.link
  delivery : DeliverySound s.link
  frames : FramesSound s.link
  parser : ParserSound s.link.parser
  deferred : DeferredSound s
  still : StillSound s
  cycle : CycleSound s
  clock : ClockSound s
  sync : SyncSound s
  active : BankSound s.sched.active
  edit : BankSound s.sched.edit
  table : TableSound s
  window : WindowSound s
  launch : LaunchSound s
  onAir : OnAirSound s
  receiverA : ReceiverSound s.now s.rx.a
  receiverB : ReceiverSound s.now s.rx.b
  laneA : LaneSound s.cfg.debitLimit s.lanes.a
  laneB : LaneSound s.cfg.debitLimit s.lanes.b
  buffers : BuffersSound s
  sporadic : SporadicSound s
  records : RecordsSound s.recs
  groups : GroupsSound s.notif
  held : ResetSound s
  settled : Settled s

/-! ### What statements say of a command -/

/-- The state with one response more at the tail of the outbound queue, and everything else as it was (R182). -/
def replied (tag : Byte) (r : Result) (payload : List Byte) (s : State) : State :=
  { s with link := { s.link with outbound := s.link.outbound ++ [responseFrame tag r payload] } }

/-- The handler is free: no reset is in force, no request waits, a place is free for an answer, and no notification can
be composed (R144, R180). A request that comes in is then taken at once. -/
abbrev Idle (s : State) : Prop :=
  s.resetting = none ∧ s.link.intake = [] ∧ s.link.hasPlace = true ∧ arbiterReady s = false

/-- The handler is free, and the tag may be used: it is not 0 and no deferred request holds it (R174, R181). -/
abbrev Ready (tag : Byte) (s : State) : Prop :=
  Idle s ∧ tag ≠ 0 ∧ tagInUse tag [] s.link.deferred = false

/-- t is x but for the notification unit, the count of free choices, and the frames that joined the outbound queue since s:
these responses in this order, and NOTIFY frames among them (R142, R184). -/
abbrev Answers (responses : List OutFrame) (x s t : State) : Prop :=
  t = { x with notif := t.notif, races := t.races, link := { x.link with outbound := t.link.outbound } } ∧
    ∃ new, t.link.outbound = s.link.outbound ++ new ∧ new.filter (fun f => f.kind == .response) = responses ∧
      ∀ f ∈ new, f.kind = .response ∨ f.kind = .notify

/-- t is x but for what raising events changes, and no request is answered. -/
abbrev Effect (x t : State) : Prop := Answers [] x x t

/-- An event that was raised: its kind, its cycle stamp and its detail (R137, R141). -/
structure Notice where
  event : Event
  cycle : BitVec 6
  detail : Detail
deriving DecidableEq, Repr

/-- The unit after these events, one after the other, with no frame composed between them (R139). -/
def Notifier.acceptAll (n : Notifier) (notices : List Notice) : Notifier :=
  notices.foldl (fun n e => n.accept e.event e.cycle e.detail) n

/-- These events and no others were raised between s and t: each has its seen mark in its group (R139). While no group's
level lies above the mask level, so that the arbiter composes nothing (R143), the unit has accepted just these events, each
with its cycle stamp and its detail, those of one group in this order (R140 to R142). -/
abbrev Raised (notices : List Notice) (s t : State) : Prop :=
  (∀ i, i < 10 → (groupAt t i).seen =
    notices.foldl (fun m e => if e.event.group = i then m ||| BitVec.twoPow 16 e.event.number else m) (groupAt s i).seen) ∧
  ((∀ g ∈ s.notif.groups, g.level ≤ s.notif.mask) → t.notif = s.notif.acceptAll notices)

/-- The unit holds its ten groups (R137). -/
abbrev TenGroups (s : State) : Prop := s.notif.groups.length = 10

/-! ### What the rules of a lane and of the record queue give -/

/-- A lane unit that has entered FAULTED (R95). -/
def LaneUnit.faultedAt (limit : Nat) : LaneUnit := { state := .faulted, debit := limit, hold := 0, clean := 0, good := false }

/-- An ACTIVE lane unit after an increase of its debit (R91, R92). -/
def LaneUnit.charged (limit amount : Nat) (u : LaneUnit) : LaneUnit :=
  if limit ≤ u.debit + amount then LaneUnit.faultedAt limit else { u with debit := u.debit + amount }

/-- A lane unit after a lane outcome or beacon outcome (R91, R97); `proved`: the other lane was considered and GOOD or
NULL. -/
def LaneUnit.after (limit : Nat) (o : Outcome) (proved : Bool) (u : LaneUnit) : LaneUnit :=
  match u.state, o with
  | .active, .good | .active, .null => { u with debit := u.debit - 1 }
  | .active, .timing | .active, .check | .active, .format => u.charged limit 2
  | .active, .silent => if proved then u.charged limit 2 else u
  | .probation, .good | .probation, .null => { u with good := true }
  | .probation, .timing | .probation, .check | .probation, .format => LaneUnit.faultedAt limit
  | _, _ => u

/-- A lane unit after an echo outcome (R91, R94). -/
def LaneUnit.afterEcho (limit : Nat) (o : Outcome) (u : LaneUnit) : LaneUnit :=
  match u.state, o with
  | .active, .echoOk => { u with debit := u.debit - 1 }
  | .active, .echoFault => u.charged limit 4
  | _, _ => u

/-- A lane unit after a cycle-start event (R96, R98). -/
def LaneUnit.afterCycle (p : Params) (u : LaneUnit) : LaneUnit :=
  match u.state with
  | .faulted =>
    let h := min 255 (u.hold + 1)
    if p.autoReadmission = true ∧ p.holdTime ≤ h then
      { state := .probation, debit := 0, hold := 0, clean := 0, good := false }
    else { u with hold := h }
  | .probation =>
    let c := if u.good then min 255 (u.clean + 1) else u.clean
    if p.probationCount ≤ c then { state := .active, debit := 0, hold := 0, clean := 0, good := false }
    else { u with clean := c, good := false }
  | .active | .disabled => u

/-- The record queue after a record has been handed to it (R126, R127, R129). -/
def RecordQueue.filed (q : RecordQueue) (r : Record) : RecordQueue :=
  if q.records.length < 128 then
    { q with records := q.records ++ [{ r with number := q.next }], next := q.next + 1 }
  else { q with lost := min 65535 (q.lost + 1) }

/-- The events that handing a record to the queue raises, with the cycle stamp c (R129, R135, R136). -/
def RecordQueue.filingNotices (c : BitVec 6) (r : Record) (q : RecordQueue) : List Notice :=
  if q.records.length < 128 then
    (if q.records.length + 1 = q.threshold then
      [⟨.threshold, c, ⟨byte q.threshold, byte (q.records.length + 1), lowByte q.next, highByte q.next⟩⟩] else [])
  else (if q.lost = 0 then [⟨.gap, c, ⟨lowByte q.next, highByte q.next, r.kind.code, cycleByte r.cycle⟩⟩] else [])

/-- The events that handing these records to the queue, one after the other, raises. -/
def RecordQueue.filingNoticesAll (c : BitVec 6) : List Record → RecordQueue → List Notice
  | [], _ => []
  | r :: rs, q => q.filingNotices c r ++ filingNoticesAll c rs (q.filed r)

/-- A lane outcome or beacon outcome makes the lane FAULTED (R92, R95, R97). -/
def LaneUnit.faults (limit : Nat) (o : Outcome) (proved : Bool) (u : LaneUnit) : Bool :=
  u.state != .faulted && (u.after limit o proved).state == .faulted

/-- The debit an ACTIVE lane's event carries after an increase (R92, R106). -/
def LaneUnit.raisedDebit (limit amount : Nat) (u : LaneUnit) : Nat := min limit (u.debit + amount)

/-- The events a lane outcome or beacon outcome raises in its lane's group (R106): `stamp` is the number held when they are
raised, `cycle` and `position` those of the window, or of the beacon outcome. -/
def LaneUnit.outcomeNotices (l : Lane) (limit : Nat) (o : Outcome) (proved : Bool) (position : Option Nat)
    (stamp cycle : BitVec 6) (u : LaneUnit) : List Notice :=
  let debit := if u.state = .active then u.raisedDebit limit 2 else limit
  let cause := if u.state = .active then LaneCause.debitLimit else .probationError
  (if (u.state = .active ∨ u.state = .probation) ∧ (o = .timing ∨ o = .check ∨ o = .format) then
      [⟨.receiveError l, stamp, ⟨o.code, (position.map byte).getD 0xFF, cycleByte cycle, byte debit⟩⟩] else []) ++
    (if u.faults limit o proved then
      [⟨.laneChanged l, stamp, ⟨u.state.code, LaneState.faulted.code, cause.code, byte limit⟩⟩] else [])

/-- The events an echo outcome raises in its lane's group (R106). -/
def LaneUnit.echoNotices (l : Lane) (limit : Nat) (o : Outcome) (k : LaunchKind) (position : Option Nat)
    (stamp cycle : BitVec 6) (u : LaneUnit) : List Notice :=
  if u.state = .active ∧ o = .echoFault then
    ⟨.transmitFault l, stamp,
        ⟨k.code, (position.map byte).getD 0xFF, cycleByte cycle, byte (u.raisedDebit limit 4)⟩⟩ ::
      (if limit ≤ u.debit + 4 then
        [⟨.laneChanged l, stamp,
          ⟨LaneState.active.code, LaneState.faulted.code, LaneCause.debitLimit.code, byte limit⟩⟩] else [])
  else []

/-- The event a cycle-start event raises in a lane's group: hold expired or probation passed (R96, R98, R106). -/
def LaneUnit.cycleNotices (l : Lane) (p : Params) (stamp : BitVec 6) (u : LaneUnit) : List Notice :=
  if (u.afterCycle p).state = u.state then []
  else if u.state = .faulted then
    [⟨.laneChanged l, stamp, ⟨LaneState.faulted.code, LaneState.probation.code, LaneCause.holdExpired.code, 0⟩⟩]
  else [⟨.laneChanged l, stamp, ⟨LaneState.probation.code, LaneState.active.code, LaneCause.probationPassed.code, 0⟩⟩]

/-- The lanes that a cycle-start event takes from FAULTED to PROBATION (R96). -/
def readmitted (p : Params) (lanes : PerLane LaneUnit) : LaneSet :=
  LaneSet.filter fun l => (lanes.get l).state == .faulted && ((lanes.get l).afterCycle p).state == .probation

/-- COMMIT_DONE of a pending commit that takes effect with this number held (R64). -/
def commitNotices (cause : CommitCause) (number : BitVec 6) (s : State) : List Notice :=
  if s.sched.commitPending then
    [⟨.commitDone, number, ⟨cause.code, cycleByte number, byte s.sched.edit.occupied, 0⟩⟩] else []

/-- STATE_CHANGED of group SYNC (R37). -/
def syncNotice (stamp : BitVec 6) (old new : Sync) (role : Role) (cycle : Byte) : Notice :=
  ⟨.syncChanged, stamp, ⟨old.code, new.code, role.code, cycle⟩⟩

/-- The answer to a deferred request of this kind, if one is held (R183). -/
def Link.deferredAnswer (kind : DeferredKind) (r : Result) (k : Link) : List OutFrame :=
  match k.deferred with
  | some d => if d.kind = kind then [responseFrame d.tag r []] else []
  | none => []

/-- The link without the deferred request of this kind, if one is held, and its reservation (R183). -/
def Link.withoutDeferred (kind : DeferredKind) (k : Link) : Link :=
  match k.deferred with
  | some d => if d.kind = kind then { k with deferred := none, reservations := k.reservations - 1 } else k
  | none => k

/-- The sporadic queue when the launch in progress is cut on all its lanes: an entry on the air is QUEUED again (R116). -/
def cutQueue (s : State) : SporadicQueue :=
  if s.launch.map Launch.kind = some .sporadic then
    { s.spor with entries := s.spor.entries.map fun e => { e with onAir := false } }
  else s.spor

/-- The banks when cycles stop: a pending commit takes effect, and no window is open (R53, R57). -/
def stoppedSchedule (d : Schedule) : Schedule :=
  { d with active := if d.commitPending then d.edit else d.active, commitPending := false, window := none }

/-- The QUEUED entries whose life runs out at a cycle-start event, in queue order (R118). -/
def SporadicQueue.expiring (q : SporadicQueue) : List SporadicEntry :=
  (q.entries.map fun e => if e.onAir then e else { e with life := e.life - 1 }).filter fun e => !e.onAir && e.life == 0

/-- The events of these entries' expiry with this number held, which leaves the entries `left` (R118, R122). -/
def expiryNotices (gone left : List SporadicEntry) (c : BitVec 6) : List Notice :=
  (gone.map fun e => ⟨.expired, c, ⟨lowByte (BitVec.ofNat 16 e.ticket), highByte (BitVec.ofNat 16 e.ticket), byte e.buffer,
    cycleByte c⟩⟩) ++
  (match gone.getLast?, left with
    | some e, [] => [⟨.queueEmpty, c,
        ⟨lowByte (BitVec.ofNat 16 e.ticket), highByte (BitVec.ofNat 16 e.ticket), 2, cycleByte c⟩⟩]
    | _, _ => [])

/-- The sporadic entries that stay at a cycle-start event, a cycle older unless on the air (R118). -/
def SporadicQueue.surviving (q : SporadicQueue) : List SporadicEntry :=
  (q.entries.map fun e => if e.onAir then e else { e with life := e.life - 1 }).filter fun e => e.onAir || e.life != 0

/-- The receivers when a launch in progress is cut and the open window is abandoned at this moment (R10, R57). -/
def stoppedReceivers (s : State) : PerLane Receiver := (abandonWindow (cutLaunch LaneSet.both s)).rx

/-- The arrival of a message, k microseconds before the moment at which s stands, was stamped with offset a of a cycle whose
current length was `length`: the cycle that runs, or one that ran before it (R11, R30). No arrival in no cycle has a stamp. -/
abbrev ArrivalIs (s : State) (k a length : Nat) : Prop :=
  (s.tb.began + k ≤ s.now ∧ a = s.tb.offset - k ∧ length = s.tb.length) ∨
  (s.now < s.tb.began + k ∧ ∃ before c after, s.tb.past = before ++ c :: after ∧
    c.began + k ≤ s.now ∧ s.now < c.ended + k ∧
    (∀ d ∈ before, s.now < d.began + k ∨ d.ended + k ≤ s.now) ∧
    a = c.offset - (c.ended + k - s.now) ∧ length = c.length)

/-- e is the phase error of a beacon handed over at the moment at which s stands, 16 microseconds after its arrival (R29,
R30). -/
def PhaseErrorIs (s : State) (e : Int) : Prop :=
  ∃ a length, ArrivalIs s 16 a length ∧ e = if a < length / 2 then (a : Int) - 4 else (a : Int) - length - 4

/-! ### What an exchange does on the link -/

/-- The parser takes the byte b from p to q, and no inbound frame ends with it (R175). -/
abbrev TakesByte (b : Byte) (p q : Parser) : Prop :=
  (p = .sync ∧ q = (if b = 0xC3 then .length else .sync)) ∨
  (p = .length ∧ 3 ≤ b.toNat ∧ b.toNat ≤ 243 ∧ q = .body b.toNat []) ∨
  (∃ len bytes, p = .body len bytes ∧
    q = (if bytes.length + 1 < len then .body len (bytes ++ [b]) else .check len (bytes ++ [b]) none)) ∨
  (∃ len bytes, p = .check len bytes none ∧ q = .check len bytes (some b))

/-- The oldest frame with its room and check filled in (R173, R187). -/
def Link.filledHead (k : Link) (f : OutFrame) : OutFrame :=
  let room := byte (4 - k.intake.length)
  { f with fill := some (room, linkCheck ([byte (f.payload.length + 4), f.kind.code, f.tag, f.code, room] ++ f.payload)) }

/-- The outbound byte of the exchange in progress counts as clocked out and leaves the link at k, with nothing that waits
for a place: it is filler, the sync byte of the oldest frame, a later byte of it, or its last byte (R170, R173). -/
abbrev ByteSent (s : State) (k : Link) : Prop :=
  (∃ x, s.link.exchange = some ⟨x, .filler⟩ ∧ k = s.link) ∨
  (∃ x f rest, s.link.exchange = some ⟨x, .frame⟩ ∧ s.link.outbound = f :: rest ∧
    ((s.link.delivered = 0 ∧ k = { s.link with outbound := s.link.filledHead f :: rest, delivered := 1 }) ∨
    (0 < s.link.delivered ∧ s.link.delivered + 1 < f.payload.length + 8 ∧
      k = { s.link with delivered := s.link.delivered + 1 }) ∨
    (s.link.delivered + 1 = f.payload.length + 8 ∧ s.link.intake = [] ∧ s.notif.chosen = none ∧
      k = { s.link with outbound := rest, delivered := 0 })))

end Sys2Proof.Machine
end

