-- ==== Sys2Proof/WellFormed.lean ====
section
/-! DEFINITION. Which commands can come: the checks on their operands that do not depend on the state. -/
namespace Sys2Proof

open Machine

/-- A request frame carries a tag that is not 0 and at most 240 payload bytes (R174). -/
def requestOk (tag : Byte) (payload : List Byte) : Bool := tag != 0 && decide (payload.length ≤ 240)

/-- The words and the end of a message agree with the pace of R3 and its length: a whole message has its two header words,
n payload words and check word; a cut one has its start delimiter, and the words that its time had room for. -/
def messageOk (m : Message) : Bool :=
  let k := m.words.length
  match m.ending with
  | .inProgress => decide (k ≤ m.size)
  | .delimiter => k == m.size
  | .cut age =>
    m.recognised && decide (k ≤ m.size) && (k == 0 || decide (2 + 4 * k ≤ age)) && decide (age ≤ 6 + 4 * k) && decide (age ≤ m.airAfter)

/-- A message heard in FREE mode has ended, and its carrier started no more than a preamble before its arrival (R3). -/
def freeMessageOk (m : FreeMessage) : Bool := messageOk m.body && m.body.ending != .inProgress && decide (m.lead ≤ 4)

/-- One carrier: a start delimiter comes within a preamble after the carrier start (R3). -/
def heardOk : Heard → Bool
  | .noise start lost => decide (start ≤ lost)
  | .message start arrival m => decide (start ≤ arrival) && decide (arrival ≤ start + 4) && messageOk m

/-- The carriers of one lane come one after the other: each starts on a lane that is quiet again (R2). -/
def heardAllOk : List Heard → Bool
  | [] => true
  | [h] => heardOk h
  | h :: g :: hs => heardOk h && h.lost.any (fun o => decide (o ≤ g.start)) && heardAllOk (g :: hs)

/-- Nothing is heard of a launch whose start delimiter was not heard (R16). -/
def echoOk (e : Echo) : Bool := e.startDelimiter || (e.words.isEmpty && !e.endDelimiter)

/-- A position of a bank (R39). -/
def positionOk (position : Nat) : Bool := decide (position < Config.positions)

/-- The operands of the command are ones that can come. -/
def Instr.wellFormed : Instr → Bool
  | .ident tag payload => requestOk tag payload
  | .config tag payload => requestOk tag payload
  | .cfgget tag payload => requestOk tag payload
  | .start tag payload => requestOk tag payload
  | .stop tag payload => requestOk tag payload
  | .stat tag payload => requestOk tag payload
  | .reset tag payload => requestOk tag payload
  | .eput tag payload => requestOk tag payload
  | .edel tag payload => requestOk tag payload
  | .eget tag payload => requestOk tag payload
  | .tclr tag payload => requestOk tag payload
  | .tload tag payload => requestOk tag payload
  | .tchk tag payload => requestOk tag payload
  | .tcommit tag payload => requestOk tag payload
  | .tcancel tag payload => requestOk tag payload
  | .bsetup tag payload => requestOk tag payload
  | .bwrite tag payload => requestOk tag payload
  | .bread tag payload => requestOk tag payload
  | .bstat tag payload => requestOk tag payload
  | .lsetDisable tag _ => tag != 0
  | .lsetEnable tag _ => tag != 0
  | .lsetClear tag _ => tag != 0
  | .lstat tag payload => requestOk tag payload
  | .spost tag payload => requestOk tag payload
  | .scancel tag payload => requestOk tag payload
  | .slist tag payload => requestOk tag payload
  | .rfetch tag payload => requestOk tag payload
  | .rdrop tag payload => requestOk tag payload
  | .rthresh tag payload => requestOk tag payload
  | .gset tag payload => requestOk tag payload
  | .nmask tag payload => requestOk tag payload
  | .nack tag payload => requestOk tag payload
  | .evread tag payload => requestOk tag payload
  | .unknownRequest tag code payload => requestOk tag payload && (Code.ofByte code).isNone
  | .inboundFrameComplete _ => true
  | .frameLength byte => !goodLength byte
  | .transactionEnd => true
  | .syncByteClockedOut _ => true
  | .frameClockedOut _ => true
  | .notificationFrameComposed => true
  | .powerReset => true
  | .pinReset => true
  | .resetEnd => true
  | .cycleStart _ => true
  | .cycleMarkPulseEnd => true
  | .startupListenExpiry => true
  | .beaconDeadline => true
  | .holdoverLimitReached => true
  | .freeMessageEnd _ _ message => freeMessageOk message
  | .sendWindowStart position => positionOk position
  | .expectWindowStart position => positionOk position
  | .openWindowStart position => positionOk position
  | .quietWindowStart position => positionOk position
  | .breach _ offset => decide (offset < 65536)
  | .expectWindowEnd heardA heardB => heardAllOk heardA && heardAllOk heardB
  | .windowEnd => true
  | .sendLaunchEnd echoA echoB => echoOk echoA && echoOk echoB
  | .sporadicLaunchEnd echoA echoB => echoOk echoA && echoOk echoB
  | .beaconLaunchEnd echoA echoB => echoOk echoA && echoOk echoB
  | .expiry => true
  | .holdExpired _ => true
  | .probationPassed _ => true
  | .exchangeComplete _ => true
  | .transactionStart => true

end Sys2Proof
end

