-- ==== Sys2Proof/Certificates/Slice0/Obligations.lean ====
section
/-! DEFINITION. The statements for the provers. -/

open Sys2Proof Sys2Proof.Machine

/-! ### The step and the reset -/

/-- A command at the front of the queue is taken by a step, and runs on the state with the rest of the queue. With none
waiting, the part's own clock runs (R17): the first of its events that is due at this moment comes about, and else a microtick
passes. That a step with no command is this, and the order of the events, is the model's choice: log 4. -/
def Obligations.StepRunsACommandOrTheClock : Prop :=
  (∀ (c : Instr) (rest : List Instr) (s : State),
    step { s with pending := c :: rest } = exec c { s with pending := rest }) ∧
  (∀ s : State, s.pending = [] →
    let due := fun (c : Instr) => step s = exec c { s with races := s.races + 1 }
    let windowOver := ∃ w, s.sched.window = some w ∧ w.role.isExpect = false ∧ s.launch = none ∧ w.ends = s.tb.offset
    let deadline := deadlineDue s = true ∧ s.tb.offset = 21 + s.cfg.lockWindow
    let cycleOver := cycleEnds s = true ∧ s.tb.offset = s.tb.length
    let starts := fun position e => s.sched.active.entryAt position = some e ∧ e.start = s.tb.offset ∧
      opens s e.role position = some e
    (s.resetting ≠ none → step s = .next s) ∧
    (s.resetting = none →
      (∀ m, s.tb.startupListen = some m → m ≤ s.now → due .startupListenExpiry) ∧
      ((∀ m, s.tb.startupListen = some m → s.now < m) →
        (∀ m, s.tb.markUntil = some m → m ≤ s.now → due .cycleMarkPulseEnd) ∧
        ((∀ m, s.tb.markUntil = some m → s.now < m) →
          (s.tb.sync.running = false → step s = .next { s with now := s.now + 1 }) ∧
          (s.tb.sync.running = true →
            (windowOver → due .windowEnd) ∧
            (¬windowOver → deadline → due .beaconDeadline) ∧
            (¬windowOver → ¬deadline → cycleOver → ∃ first, due (.cycleStart first)) ∧
            (¬windowOver → ¬deadline → ¬cycleOver →
              (∀ position e, starts position e → (∀ i f, i < position → ¬starts i f) →
                match e.role with
                | .send => due (.sendWindowStart position)
                | .expect => due (.expectWindowStart position)
                | .openSlot => due (.openWindowStart position)
                | .quiet => due (.quietWindowStart position)) ∧
              ((∀ i f, ¬starts i f) →
                (reaches s (s.tb.offset + 1) = true → step s = .next { s with
                  now := s.now + 1, tb := { s.tb with offset := s.tb.offset + 1, atCycleStart := false } }) ∧
                (reaches s (s.tb.offset + 1) = false → step s = .next s))))))))

/-- No command touches the queue of commands that wait: that is the step's alone (the model's own: log 1). -/
def Obligations.CommandsLeaveTheQueue : Prop :=
  ∀ (c : Instr) (s t : State), exec c s = .next t → t.pending = s.pending

/-- R165, R166: after reset every block holds the values of the table, and the STARTUP frame alone waits. -/
def Obligations.ResetValues : Prop :=
  State.reset.cfg = ⟨0, .follower, 10000, 2, 10, 4, 4, .A, 24, 16, 8, true⟩ ∧
  State.reset.tb.sync = .offline ∧ State.reset.tb.role = .follower ∧ State.reset.tb.cycle = 0 ∧
  State.reset.tb.startupListen = none ∧
  State.reset.sched = ⟨List.replicate 64 none, List.replicate 64 none, false, none⟩ ∧
  State.reset.bufs = List.replicate 48 ⟨[], .unused⟩ ∧
  State.reset.lanes = ⟨⟨.active, 0, 0, 0, false⟩, ⟨.active, 0, 0, 0, false⟩⟩ ∧
  State.reset.spor = ⟨[], 0⟩ ∧ State.reset.recs = ⟨[], 0, 0, 64⟩ ∧
  State.reset.notif = ⟨List.replicate 10 ⟨0, 0, 0, none, .idle, 0⟩, 0⟩ ∧
  State.reset.link.intake = [] ∧ State.reset.link.reservations = 0 ∧ State.reset.link.deferred = none ∧
  State.reset.link.parser = .sync ∧
  State.reset.link.outbound = [⟨.startup, 0, 1, [1, 64, 48, 32, 16, 128, 10], none⟩] ∧ attn State.reset = true

/-- The invariant holds after reset. -/
def Obligations.ResetIsSound : Prop := Inv State.reset

/-! ### Configuration and status -/

/-- R162, R161, R121, R46, R49, R198: IDENT, STAT and SLIST are answered from the state, EGET answers the position's entry or the
position and zeros, and TCHK whether the EDIT bank is valid; none changes anything. -/
def Obligations.QueriesAnswered : Prop :=
  (∀ (tag : Byte) (s : State), Ready tag s →
    exec (.ident tag []) s = .next (replied tag .ok [0x52, 0x5A, 0x80, 0x04, 1, 64, 48, 32, 16, 128, 10] s) ∧
    exec (.stat tag []) s = .next (replied tag .ok (statBytes s) s) ∧
    exec (.slist tag []) s = .next (replied tag .ok (listBytes s) s)) ∧
  (∀ (tag : Byte) (s : State), Ready tag s →
    (∀ b q : Byte, b = 1 ∨ b = 2 → q.toNat ≤ 63 →
      exec (.eget tag [b, q]) s = .next (replied tag .ok
        (match (if b = 1 then s.sched.active else s.sched.edit).entryAt q.toNat with
          | some e => entryBytes q.toNat e
          | none => q :: List.replicate 19 0) s)) ∧
    (∀ b q : Byte, b ≠ 1 → b ≠ 2 → exec (.eget tag [b, q]) s = .next (replied tag .badField [0] s)) ∧
    (∀ b q : Byte, b = 1 ∨ b = 2 → 63 < q.toNat → exec (.eget tag [b, q]) s = .next (replied tag .badField [1] s)) ∧
    (validate s.cfg s.bufs s.sched.edit = none → exec (.tchk tag []) s = .next (replied tag .ok [] s)) ∧
    (∀ f, validate s.cfg s.bufs s.sched.edit = some f → exec (.tchk tag []) s =
      .next (replied tag .tableInvalid [f.reason.code, byte f.i, (f.j.map byte).getD 0xFF] s)))

/-- R157: CFGGET is answered with the twelve stored parameters, an unset node id as 0, in every sync state, and changes
nothing. The answer carries the parameters: read as a CONFIG payload it gives them back, and passes the field tests when
the node id is set (R190). -/
def Obligations.CfggetAnswersTheStore : Prop :=
  ∀ (tag : Byte) (s : State), Ready tag s → ParamsSound s.cfg →
    ∃ p, p.length = 13 ∧ exec (.cfgget tag []) s = .next (replied tag .ok p s) ∧
      p.head? = some (BitVec.ofNat 8 s.cfg.nodeId) ∧ configOf p = s.cfg ∧ (s.cfg.nodeId ≠ 0 → configBad p = none)

/-- R105: LSTAT is answered with lane A's state, debit, hold count and clean count, then lane B's, and changes nothing. -/
def Obligations.LstatAnswersTheLanes : Prop :=
  ∀ (tag : Byte) (s : State), Ready tag s →
    exec (.lstat tag []) s = .next (replied tag .ok
      [s.lanes.a.state.code, byte s.lanes.a.debit, byte s.lanes.a.hold, byte s.lanes.a.clean,
       s.lanes.b.state.code, byte s.lanes.b.debit, byte s.lanes.b.hold, byte s.lanes.b.clean] s)

/-- R181: the handler refuses an unknown code, a wrong length and a tag in use, and changes nothing but its own queue. -/
def Obligations.HandlerRefusals : Prop :=
  ∀ (tag : Byte) (payload : List Byte) (s : State), Idle s → tag ≠ 0 →
    (tagInUse tag [] s.link.deferred = false →
      (∀ code, Code.ofByte code = none →
        exec (.unknownRequest tag code payload) s = .next (replied tag .unknownRequest [] s)) ∧
      (∀ c : Code, payload.length ≠ c.required payload →
        finish (requestArrives c.byte tag payload s) = .next (replied tag .badLength [] s))) ∧
    (tagInUse tag [] s.link.deferred = true →
      ∀ code, finish (requestArrives code tag payload s) = .next (replied tag .duplicateTag [] s))

/-- R155, R156: a CONFIG that passes its tests stores the carried values, sets the effective role and the nominal length,
clamps the debits, and changes nothing else; a CONFIG that fails one is refused and changes nothing. -/
def Obligations.ConfigStoresOrRefuses : Prop :=
  ∀ (tag : Byte) (p : List Byte) (s : State), Ready tag s → p.length = 13 →
    (s.tb.sync ≠ .offline → exec (.config tag p) s = .next (replied tag .wrongState [] s)) ∧
    (s.tb.sync = .offline →
      (∀ o, configBad p = some o → exec (.config tag p) s = .next (replied tag .badField [byte o] s)) ∧
      (configBad p = none →
        (∀ f, validate (configOf p) s.bufs s.sched.active = some f →
          exec (.config tag p) s =
            .next (replied tag .tableInvalid [f.reason.code, byte f.i, (f.j.map byte).getD 0xFF] s)) ∧
        (validate (configOf p) s.bufs s.sched.active = none →
          exec (.config tag p) s = .next (replied tag .ok []
            { s with
              cfg := configOf p
              tb := { s.tb with role := (configOf p).role, length := (configOf p).cycleLength }
              lanes := ⟨{ s.lanes.a with debit := min s.lanes.a.debit (configOf p).debitLimit },
                        { s.lanes.b with debit := min s.lanes.b.debit (configOf p).debitLimit }⟩ }))))

/-- R158, R22, R28: START outside OFFLINE, and with the node id unset, is refused and changes nothing. In OFFLINE with the
node id set a follower enters LISTEN and is answered OK; a master enters LISTEN, its startup listen runs for twice the
nominal length, and its answer is deferred. Both receivers listen from that moment on. -/
def Obligations.StartEntersListen : Prop :=
  ∀ (tag : Byte) (s : State), Ready tag s → TenGroups s →
    (s.tb.sync ≠ .offline → exec (.start tag []) s = .next (replied tag .wrongState [] s)) ∧
    (s.tb.sync = .offline → s.cfg.nodeId = 0 →
      exec (.start tag []) s = .next (replied tag .notConfigured [] s)) ∧
    (s.tb.sync = .offline → s.cfg.nodeId ≠ 0 →
    let notices := [syncNotice s.tb.cycle .offline .listen s.cfg.role 0]
    let rx : PerLane Receiver := ⟨{ s.rx.a with since := s.now }, { s.rx.b with since := s.now }⟩
    (s.cfg.role = .follower → ∃ t, exec (.start tag []) s = .next t ∧ Raised notices s t ∧
      Answers [responseFrame tag .ok []]
        { s with tb := { s.tb with sync := .listen, role := .follower }, rx := rx } s t) ∧
    (s.cfg.role = .master → ∃ t, exec (.start tag []) s = .next t ∧ Raised notices s t ∧
      Answers []
        { s with
          rx := rx
          tb := { s.tb with
            sync := .listen, role := .master, startupListen := some (s.now + 2 * s.cfg.cycleLength) }
          link := { s.link with
            deferred := some ⟨.start, tag⟩, reservations := s.link.reservations + 1 } } s t))

/-- R159, R38: STOP cuts launches, abandons the window, goes OFFLINE, lets a pending commit take effect, answers the
deferred request first and then itself with the old sync state; in OFFLINE it changes nothing. -/
def Obligations.StopEndsOffline : Prop :=
  ∀ (tag : Byte) (s : State), Ready tag s → TenGroups s → DeferredSound s → LinkSound s.link →
    (s.tb.sync = .offline → exec (.stop tag []) s = .next (replied tag .ok [0] s)) ∧
    (s.tb.sync ≠ .offline → ∃ t, exec (.stop tag []) s = .next t ∧
      Raised (syncNotice s.tb.cycle s.tb.sync .offline s.cfg.role 0 :: commitNotices .cyclesStopped s.tb.cycle s) s t ∧
      Answers
        ((match s.link.deferred with
          | some ⟨.start, d⟩ => [responseFrame d .cancelled []]
          | some ⟨.tcommit, d⟩ => [responseFrame d .ok []]
          | none => []) ++ [responseFrame tag .ok [s.tb.sync.code]])
        { s with
          tb := { s.tb with
            sync := .offline, role := s.cfg.role, offset := 0, length := s.cfg.cycleLength, missed := 0
            startupListen := none, beaconMark := false, lastTaken := none, atCycleStart := false, markUntil := none }
          sched := stoppedSchedule s.sched, launch := none, spor := cutQueue s, rx := stoppedReceivers s
          link := { s.link with deferred := none, reservations := 0 } } s t)

/-! ### Resets -/

/-- R163 to R166, R186: a RESET taken puts every block at its reset values and leaves the STARTUP frame with its tag alone
in the outbound queue; what stays is the SPI pin and the exchange in progress, whose byte now belongs to no frame. -/
def Obligations.ResetRequestResets : Prop :=
  ∀ (tag : Byte) (s : State), Ready tag s →
    exec (.reset tag []) s = .next { State.held with
      link := { Link.reset with
        outbound := [⟨.startup, tag, 3, [1, 64, 48, 32, 16, 128, 10], none⟩]
        transaction := s.link.transaction
        exchange := s.link.exchange.map fun x => ⟨x.byte, .orphan⟩ }
      races := s.races, pending := s.pending }

/-- R163, R165, R166: a reset from outside holds every block at its reset values, with ATTN released; POWER wins over PIN;
its end queues the STARTUP frame with the cause and tag 0. -/
def Obligations.OutsideResets : Prop :=
  (∀ s : State, ∃ t, exec .powerReset s = .next t ∧ t.resetting = some .power ∧ attn t = false ∧ ResetSound t) ∧
  (∀ s : State, ∃ t, exec .pinReset s = .next t ∧ attn t = false ∧ ResetSound t ∧
    t.resetting = (if s.resetting = some .power then some .power else some .pin)) ∧
  (∀ (s : State) (cause : ResetCause), s.resetting = some cause → ResetSound s →
    exec .resetEnd s = .next { s with
      link := { s.link with outbound := [⟨.startup, 0, cause.code, [1, 64, 48, 32, 16, 128, 10], none⟩] }
      resetting := none })

/-- R163: while a reset is in force, nothing but a reset's begin and end moves any block off its reset values. -/
def Obligations.ResetHoldsThePart : Prop :=
  ∀ (c : Instr) (s t : State), ResetSound s → s.resetting.isSome = true → c ≠ .resetEnd → exec c s = .next t →
    ResetSound t ∧ t.resetting.isSome = true ∧ t.link.outbound = []

/-! ### Schedule tables -/

/-- R44 to R48: EPUT, EDEL, TCLR and TLOAD change the EDIT bank alone, and are refused BUSY while a commit is pending. That
EDEL with a position above 63 is then refused BUSY too, and not BAD_FIELD, is the model's choice: log 29. -/
def Obligations.EditRequests : Prop :=
  ∀ (tag : Byte) (s : State), Ready tag s →
    (s.sched.commitPending = true →
      (∀ p, p.length = 20 → exec (.eput tag p) s = .next (replied tag .busy [] s)) ∧
      (∀ b, exec (.edel tag [b]) s = .next (replied tag .busy [] s)) ∧
      exec (.tclr tag []) s = .next (replied tag .busy [] s) ∧
      exec (.tload tag []) s = .next (replied tag .busy [] s)) ∧
    (s.sched.commitPending = false →
      (∀ p, p.length = 20 → entryBad p = none → exec (.eput tag p) s = .next (replied tag .ok []
        { s with sched := { s.sched with edit := s.sched.edit.set (fieldAt p 0) (some (entryOf p)) } })) ∧
      (∀ p o, p.length = 20 → entryBad p = some o →
        exec (.eput tag p) s = .next (replied tag .badField [byte o] s)) ∧
      (∀ b : Byte, b.toNat ≤ 63 → exec (.edel tag [b]) s = .next (replied tag .ok []
        { s with sched := { s.sched with edit := s.sched.edit.set b.toNat none } })) ∧
      (∀ b : Byte, 63 < b.toNat → exec (.edel tag [b]) s = .next (replied tag .badField [0] s)) ∧
      exec (.tclr tag []) s = .next (replied tag .ok []
        { s with sched := { s.sched with edit := List.replicate 64 none } }) ∧
      exec (.tload tag []) s = .next (replied tag .ok []
        { s with sched := { s.sched with edit := s.sched.active } }))

/-- R197, R198: the EGET answer of an entry in its ranges passes the EPUT tests and carries that entry back. -/
def Obligations.EntryRoundTrip : Prop :=
  ∀ (position : Nat) (e : Entry), position ≤ 63 → EntrySound e → (∀ n, e.sender = some (.node n) → 1 ≤ n ∧ n ≤ 63) →
    (entryBytes position e).length = 20 ∧ entryBad (entryBytes position e) = none ∧
      fieldAt (entryBytes position e) 0 = position ∧ entryOf (entryBytes position e) = e

/-- R41, R42, R43: validation fails with the first reason that holds for the first entry for which one holds, and with no
such entry for the first pair that overlaps or shares a slot id in one cycle. So in a valid bank every window begins at or
after the beacon window end, ends before the cycle tail and is no shorter than its role needs; every buffer is of the kind its
role needs, and no expected sender is the node itself; and two entries active in one cycle have disjoint windows and distinct
slot ids. -/
def Obligations.ValidationFollowsTheTests : Prop :=
  ∀ (p : Params) (bufs : List Buffer) (b : Bank),
    let holds := fun (e : Entry) (r : Reason) => match r with
      | .cyclesEmpty => e.cycles = 0
      | .lanesNone => e.lanes = LaneSet.none
      | .beforeBeacon => e.start < 20 + 2 * p.tol
      | .pastTail => p.cycleLength < e.start + e.length + 20
      | .windowShort => e.length < (match e.role with
          | .send | .expect => 20 + 4 * e.maxWords.getD 0 + 2 * p.tol
          | .openSlot => 20 + 2 * p.tol
          | .quiet => 1)
      | .bufferKind =>
        (e.role = .send ∧ ¬∃ n x f q c k, e.buffer = some n ∧ bufs[n]? = some x ∧ x.status = .send f q c k) ∨
        (e.role = .expect ∧ ¬∃ n x st, e.buffer = some n ∧ bufs[n]? = some x ∧ x.status = .receive st)
      | .senderSelf => e.role = .expect ∧ e.sender = some (.node p.nodeId)
      | .overlap | .dupSlot => False
    let order : List Reason :=
      [.cyclesEmpty, .lanesNone, .beforeBeacon, .pastTail, .windowShort, .bufferKind, .senderSelf]
    let passes := fun (e : Entry) => ∀ r, ¬holds e r
    let meet := fun (e f : Entry) => e.cycles &&& f.cycles ≠ 0
    let overlap := fun (e f : Entry) => meet e f ∧ e.start < f.start + f.length ∧ f.start < e.start + e.length
    let twice := fun (e f : Entry) => meet e f ∧ e.slot = f.slot
    (∀ r i, validate p bufs b = some ⟨r, i, none⟩ ↔ ∃ e before after, b.entryAt i = some e ∧
      order = before ++ r :: after ∧ holds e r ∧ (∀ q ∈ before, ¬holds e q) ∧
      ∀ k f, k < i → b.entryAt k = some f → passes f) ∧
    (∀ r i j, validate p bufs b = some ⟨r, i, some j⟩ ↔ (∀ k f, b.entryAt k = some f → passes f) ∧
      ∃ e f, i < j ∧ b.entryAt i = some e ∧ b.entryAt j = some f ∧
        ((r = .overlap ∧ overlap e f) ∨ (r = .dupSlot ∧ ¬overlap e f ∧ twice e f)) ∧
        ∀ k l g h, k < l → k < i ∨ (k = i ∧ l < j) → b.entryAt k = some g → b.entryAt l = some h →
          ¬overlap g h ∧ ¬twice g h) ∧
    (validate p bufs b = none →
      (∀ i e, b.entryAt i = some e → passes e ∧ 20 + 2 * p.tol ≤ e.start ∧ e.start + e.length + 20 ≤ p.cycleLength) ∧
      (∀ i j e f (c : BitVec 6), i ≠ j → b.entryAt i = some e → b.entryAt j = some f →
        e.activeIn c = true → f.activeIn c = true →
        (e.start + e.length ≤ f.start ∨ f.start + f.length ≤ e.start) ∧ e.slot ≠ f.slot))

/-- R50, R51: TCOMMIT of a valid EDIT bank copies it at once while no cycle runs, and else becomes pending and deferred;
of an invalid one, or with a commit pending, it is refused and changes nothing. -/
def Obligations.CommitAtOnceOrPending : Prop :=
  ∀ (tag : Byte) (s : State), Ready tag s → TenGroups s →
    (s.sched.commitPending = true → exec (.tcommit tag []) s = .next (replied tag .busy [] s)) ∧
    (s.sched.commitPending = false →
      (∀ f, validate s.cfg s.bufs s.sched.edit = some f → exec (.tcommit tag []) s =
        .next (replied tag .tableInvalid [f.reason.code, byte f.i, (f.j.map byte).getD 0xFF] s)) ∧
      (validate s.cfg s.bufs s.sched.edit = none →
        (s.tb.sync.running = true → exec (.tcommit tag []) s = .next
          { s with
            sched := { s.sched with commitPending := true }
            link := { s.link with deferred := some ⟨.tcommit, tag⟩, reservations := s.link.reservations + 1 } }) ∧
        (s.tb.sync.running = false → ∃ t, exec (.tcommit tag []) s = .next t ∧
          Raised [⟨.commitDone, s.tb.cycle, ⟨1, cycleByte s.tb.cycle, byte s.sched.edit.occupied, 0⟩⟩] s t ∧
          Answers [responseFrame tag .ok []]
            { s with sched := { s.sched with active := s.sched.edit } } s t)))

/-- R54: TCANCEL of a pending commit answers the deferred TCOMMIT CANCELLED, then itself OK, and raises COMMIT_CANCELLED;
with none pending it is answered TOO_LATE. -/
def Obligations.CancelEndsTheCommit : Prop :=
  ∀ (tag : Byte) (s : State), Ready tag s → TenGroups s → LinkSound s.link →
    (s.sched.commitPending = false → exec (.tcancel tag []) s = .next (replied tag .tooLate [] s)) ∧
    (∀ d, s.sched.commitPending = true → s.link.deferred = some ⟨.tcommit, d⟩ →
      ∃ t, exec (.tcancel tag []) s = .next t ∧
        Raised [⟨.commitCancelled, s.tb.cycle, ⟨cycleByte s.tb.cycle, byte s.sched.edit.occupied, 0, 0⟩⟩] s t ∧
        Answers [responseFrame d .cancelled [], responseFrame tag .ok []]
          { s with
            sched := { s.sched with commitPending := false }
            link := { s.link with deferred := none, reservations := 0 } } s t)

/-! ### Buffers -/

/-- R67, R70: BSETUP gives an unreferenced buffer that is not held its kind, empty, and changes nothing else; its tests, and
the refusals of BWRITE, come in the order of the rules and change nothing. -/
def Obligations.BufferSetupAndRefusals : Prop :=
  (∀ (tag : Byte) (n kind policy : Byte) (s : State), Ready tag s →
    let run := exec (.bsetup tag [n, kind, policy]) s
    (47 < n.toNat → run = .next (replied tag .badField [0] s)) ∧
    (n.toNat ≤ 47 → 3 < kind.toNat → run = .next (replied tag .badField [1] s)) ∧
    (n.toNat ≤ 47 → kind = 1 → policy ≠ 1 → policy ≠ 2 → run = .next (replied tag .badField [2] s)) ∧
    (n.toNat ≤ 47 → kind.toNat ≤ 3 → (kind = 1 → policy = 1 ∨ policy = 2) →
      (referenced s n.toNat = true → run = .next (replied tag .inUse [] s)) ∧
      (referenced s n.toNat = false → isHeld s n.toNat = true → run = .next (replied tag .held [] s)) ∧
      (referenced s n.toNat = false → isHeld s n.toNat = false →
        ∃ status, run = .next (replied tag .ok [] { s with bufs := s.bufs.set n.toNat ⟨[], status⟩ }) ∧
          (kind = 0 → status = .unused) ∧
          (kind = 1 → status = .send .empty (if policy = 1 then .repeat else .once) 0 0) ∧
          (kind = 2 → status = .receive ⟨.empty, none, LaneSet.none, false, none, none, none, false, 0, 255⟩) ∧
          (kind = 3 → status = .sporadic 0)))) ∧
  (∀ (tag n k : Byte) (data : List Byte) (s : State), Ready tag s → data.length = 2 * k.toNat →
    let run := exec (.bwrite tag (n :: k :: data)) s
    (47 < n.toNat → run = .next (replied tag .badField [0] s)) ∧
    (n.toNat ≤ 47 → 32 < k.toNat → run = .next (replied tag .badField [1] s)) ∧
    (n.toNat ≤ 47 → k.toNat ≤ 32 →
      ((bufferAt s n.toNat).status = .unused ∨ (∃ r, (bufferAt s n.toNat).status = .receive r) →
        run = .next (replied tag .wrongKind [] s)) ∧
      ((∃ q, (bufferAt s n.toNat).status = .sporadic q) → isHeld s n.toNat = true →
        run = .next (replied tag .held [] s))))

/-- R70, R80: BWRITE stores the carried words in a SEND or SPORADIC buffer that is not held, and a BREAD then answers those
words; neither touches another buffer. -/
def Obligations.WriteThenRead : Prop :=
  ∀ (tag tag' n options : Byte) (words : List Word) (s : State), Ready tag s → Ready tag' s →
    s.link.outbound.length + s.link.reservations < 7 → n.toNat < s.bufs.length → n.toNat ≤ 47 → words.length ≤ 32 →
    isHeld s n.toNat = false →
    ((∃ f p q c, (bufferAt s n.toNat).status = .send f p q c) ∨
      (∃ q, (bufferAt s n.toNat).status = .sporadic q)) →
    ∃ b t u,
      exec (.bwrite tag (n :: byte words.length :: bytesOf words)) s = .next t ∧
      t = replied tag .ok [] { s with bufs := s.bufs.set n.toNat b } ∧ b.words = words ∧
      (∀ f p q c, (bufferAt s n.toNat).status = .send f p q c → b.status = .send .fresh p q 0) ∧
      (∀ q, (bufferAt s n.toNat).status = .sporadic q → b.status = .sporadic q) ∧
      exec (.bread tag' [n, options]) t = .next u ∧
      u = replied tag' .ok (statusRecord n.toNat b false ++ bytesOf words) t

/-- R80, R82: BREAD answers the status record and words as they stand; without peek it leaves a NEW buffer READ, and else
it changes nothing. BSTAT answers the records of consecutive buffers and changes nothing. The tests come in order. -/
def Obligations.ReadMarksRead : Prop :=
  ∀ (tag n x : Byte) (s : State), Ready tag s →
    let b := bufferAt s n.toNat
    (47 < n.toNat → exec (.bread tag [n, x]) s = .next (replied tag .badField [0] s) ∧
      exec (.bstat tag [n, x]) s = .next (replied tag .badField [0] s)) ∧
    (n.toNat ≤ 47 →
      (b.status = .unused → exec (.bread tag [n, x]) s = .next (replied tag .wrongKind [] s)) ∧
      (∀ r, b.status = .receive r → r.state = .new → x.getLsbD 0 = false → (statusOf s n.toNat)[3]? = some 1 ∧
        exec (.bread tag [n, x]) s = .next (replied tag .ok (statusOf s n.toNat ++ bytesOf b.words)
          { s with bufs := s.bufs.set n.toNat ⟨b.words, .receive { r with state := .read }⟩ })) ∧
      (b.status ≠ .unused → (∀ r, b.status = .receive r → r.state = .new → x.getLsbD 0 = true) →
        exec (.bread tag [n, x]) s = .next (replied tag .ok (statusOf s n.toNat ++ bytesOf b.words) s)) ∧
      (x = 0 ∨ 8 < x.toNat ∨ 48 < n.toNat + x.toNat →
        exec (.bstat tag [n, x]) s = .next (replied tag .badField [1] s)) ∧
      (1 ≤ x.toNat → x.toNat ≤ 8 → n.toNat + x.toNat ≤ 48 → exec (.bstat tag [n, x]) s =
        .next (replied tag .ok ((List.range x.toNat).flatMap fun i => statusOf s (n.toNat + i)) s)))

/-! ### Lanes -/

/-- R101: LSET DISABLE of a lane that is not DISABLED makes it so, keeps its debit, cuts its launch and abandons its window
there, answers the new state and debit and raises STATE_CHANGED; of a DISABLED lane it changes nothing. R102, R97: LSET
ENABLE of a DISABLED or FAULTED lane makes it PROBATION with debit 0 and its counts cleared; of another, nothing. The
answer carries the state and debit after the request. -/
def Obligations.LaneDisableAndEnable : Prop :=
  (∀ (tag : Byte) (l : Lane) (s : State), Ready tag s → TenGroups s →
    ((s.lanes.get l).state = .disabled → exec (.lsetDisable tag l.code) s =
      .next (replied tag .ok [4, byte (s.lanes.get l).debit] s)) ∧
    ((s.lanes.get l).state ≠ .disabled → ∃ t, exec (.lsetDisable tag l.code) s = .next t ∧
      Raised [⟨.laneChanged l, s.tb.cycle, ⟨(s.lanes.get l).state.code, 4, 5, byte (s.lanes.get l).debit⟩⟩] s t ∧
      laneOff t l = true ∧ txen t l = false ∧
      (∀ w ∈ t.sched.window, w.role.holds.has l = false) ∧
      Answers [responseFrame tag .ok [4, byte (s.lanes.get l).debit]]
        { laneLeaves l s with lanes := s.lanes.set l ⟨.disabled, (s.lanes.get l).debit, 0, 0, false⟩ } s t)) ∧
  (∀ (tag : Byte) (l : Lane) (s : State), Ready tag s → TenGroups s →
    ((s.lanes.get l).state = .active ∨ (s.lanes.get l).state = .probation →
      exec (.lsetEnable tag l.code) s =
        .next (replied tag .ok [(s.lanes.get l).state.code, byte (s.lanes.get l).debit] s)) ∧
    ((s.lanes.get l).state = .disabled ∨ (s.lanes.get l).state = .faulted →
      ∃ t, exec (.lsetEnable tag l.code) s = .next t ∧
        Raised [⟨.laneChanged l, s.tb.cycle, ⟨(s.lanes.get l).state.code, 2, 6, 0⟩⟩] s t ∧
        Answers [responseFrame tag .ok [2, 0]]
          { s with
            lanes := s.lanes.set l ⟨.probation, 0, 0, 0, false⟩
            rx := s.rx.set l { s.rx.get l with since := s.now } } s t))

/-- R103: LSET CLEAR sets the debit of an ACTIVE lane to 0; on a PROBATION, FAULTED or DISABLED lane it is refused
WRONG_STATE. It raises no event. -/
def Obligations.LaneClear : Prop :=
  ∀ (tag : Byte) (l : Lane) (s : State), Ready tag s →
    ((s.lanes.get l).state = .active → exec (.lsetClear tag l.code) s =
      .next (replied tag .ok [1, 0] { s with lanes := s.lanes.set l { s.lanes.get l with debit := 0 } })) ∧
    ((s.lanes.get l).state ≠ .active → exec (.lsetClear tag l.code) s = .next (replied tag .wrongState [] s))

/-- R91, R92, R95, R97, R106: what a lane outcome or beacon outcome does to the lane it is delivered on and the events it
raises; a lane that it faults leaves its launch and window; nothing else changes. -/
def Obligations.OutcomeGradesItsLane : Prop :=
  ∀ (l : Lane) (o : Outcome) (proved : Bool) (position : Option Nat) (c : BitVec 6) (s : State), TenGroups s →
    let u := s.lanes.get l
    Raised (u.outcomeNotices l s.cfg.debitLimit o proved position s.tb.cycle c) s (gradeOutcome l o proved position c s) ∧
    Effect { (if u.faults s.cfg.debitLimit o proved then laneLeaves l s else s) with
        lanes := s.lanes.set l (u.after s.cfg.debitLimit o proved) }
      (gradeOutcome l o proved position c s)

/-! ### Sporadic queue -/

/-- R110, R111: an SPOST that passes its tests appends an entry and changes nothing else; its ticket is the first candidate
after the ticket counter that no entry carries, where 65,535 is followed by 1; FULL, WRONG_KIND and HELD are tested in that
order after the fields. -/
def Obligations.PostAppends : Prop :=
  ∀ (tag : Byte) (p : List Byte) (s : State), Ready tag s → p.length = 5 → SporadicSound s →
    (∀ o, postBad p = some o → exec (.spost tag p) s = .next (replied tag .badField [byte o] s)) ∧
    (postBad p = none →
      (s.spor.entries.length = 16 → exec (.spost tag p) s = .next (replied tag .full [] s)) ∧
      (s.spor.entries.length < 16 →
        ((bufferAt s (fieldAt p 0)).isSporadic = false →
          exec (.spost tag p) s = .next (replied tag .wrongKind [] s)) ∧
        ((bufferAt s (fieldAt p 0)).isSporadic = true →
          (isHeld s (fieldAt p 0) = true → exec (.spost tag p) s = .next (replied tag .held [] s)) ∧
          (isHeld s (fieldAt p 0) = false → ∃ passed ticket lanes,
            let candidate := fun (k : Nat) => (s.spor.counter + k) % 65535 + 1
            ticket = candidate passed ∧ passed ≤ 15 ∧ (∀ k < passed, ∃ e ∈ s.spor.entries, e.ticket = candidate k) ∧
            (∀ e ∈ s.spor.entries, e.ticket ≠ ticket) ∧
            LaneSet.ofCode (fieldAt p 1) = some lanes ∧
            exec (.spost tag p) s = .next (replied tag .ok (number16 ticket)
              { s with spor := ⟨s.spor.entries ++
                [⟨ticket, fieldAt p 0, lanes, fieldAt p 2, if fieldAt p 3 = 255 then none else some (fieldAt p 3),
                  fieldAt p 4, false⟩], ticket⟩ })))))

/-- R119: SCANCEL removes a QUEUED entry, leaves an ON_AIR one (TOO_LATE), and answers NOT_FOUND for a ticket that no entry
carries. -/
def Obligations.CancelByTicket : Prop :=
  ∀ (tag low high : Byte) (s : State), Ready tag s → SporadicSound s →
    ((∀ e ∈ s.spor.entries, e.ticket ≠ (high ++ low).toNat) →
      exec (.scancel tag [low, high]) s = .next (replied tag .notFound [] s)) ∧
    (∀ before after e, s.spor.entries = before ++ e :: after → e.ticket = (high ++ low).toNat →
      (e.onAir = true → exec (.scancel tag [low, high]) s = .next (replied tag .tooLate [] s)) ∧
      (e.onAir = false → exec (.scancel tag [low, high]) s = .next (replied tag .ok []
        { s with spor := { s.spor with entries := before ++ after } })))

/-! ### Slot record queue -/

/-- R130, R134: RFETCH answers the oldest records, at most n, and changes nothing; RTHRESH sets the threshold alone. -/
def Obligations.FetchAndThreshold : Prop :=
  ∀ (tag n : Byte) (s : State), Ready tag s →
    (1 ≤ n.toNat → n.toNat ≤ 12 → exec (.rfetch tag [n]) s = .next (replied tag .ok
      ([byte s.recs.records.length] ++ number16 s.recs.lost ++ [byte (min n.toNat s.recs.records.length)] ++
        (s.recs.records.take n.toNat).flatMap recordBytes) s)) ∧
    (n = 0 ∨ 12 < n.toNat → exec (.rfetch tag [n]) s = .next (replied tag .badField [0] s)) ∧
    (1 ≤ n.toNat → n.toNat ≤ 128 → exec (.rthresh tag [n]) s = .next (replied tag .ok [byte s.recs.records.length]
      { s with recs := { s.recs with threshold := n.toNat } })) ∧
    (n = 0 ∨ 128 < n.toNat → exec (.rthresh tag [n]) s = .next (replied tag .badField [0] s))

/-- R131, R132: RDROP removes the k oldest records; with the lost count above 0 it inserts one GAP record with the next
number and the lost count as its detail, and the lost count becomes 0. R126, R127, R129, R135: handing a record to the
queue inserts it with the next number, or counts it as lost when the queue holds 128; THRESHOLD is raised when the
occupancy rises to the threshold, GAP when the lost count leaves 0. -/
def Obligations.RecordsFiledAndDropped : Prop :=
  (∀ (tag k : Byte) (s : State), Ready tag s → TenGroups s →
    (k = 0 ∨ 128 < k.toNat ∨ s.recs.records.length < k.toNat →
      exec (.rdrop tag [k]) s = .next (replied tag .badField [0] s)) ∧
    (1 ≤ k.toNat → k.toNat ≤ 128 → k.toNat ≤ s.recs.records.length →
      (s.recs.lost = 0 → exec (.rdrop tag [k]) s = .next (replied tag .ok
        [byte (s.recs.records.length - k.toNat), 0, 0, 0, 0, 0]
        { s with recs := { s.recs with records := s.recs.records.drop k.toNat } })) ∧
      (s.recs.lost ≠ 0 → ∃ t, exec (.rdrop tag [k]) s = .next t ∧
        Raised (if s.recs.records.length - k.toNat + 1 = s.recs.threshold then
          [⟨.threshold, s.tb.cycle, ⟨byte s.recs.threshold, byte (s.recs.records.length - k.toNat + 1),
            lowByte s.recs.next, highByte s.recs.next⟩⟩] else []) s t ∧
        Answers [responseFrame tag .ok ([byte (s.recs.records.length - k.toNat + 1), 1] ++ bytes16 s.recs.next ++
            number16 s.recs.lost)]
          { s with recs := { s.recs with
              records := s.recs.records.drop k.toNat ++
                [{ kind := .gap, number := s.recs.next, cycle := s.tb.cycle, slot := 0, position := none
                   outcomes := ⟨.notUsed, .notUsed⟩, sender := none, words := none, arrival := none, endOffset := none
                   detail := (lowByte (BitVec.ofNat 16 s.recs.lost), highByte (BitVec.ofNat 16 s.recs.lost))
                   disagree := false, probation := false }]
              next := s.recs.next + 1, lost := 0 } } s t))) ∧
  (∀ (r : Record) (s : State), TenGroups s →
    Effect { s with recs := s.recs.filed r } (fileRecord r s) ∧
    Raised (s.recs.filingNotices s.tb.cycle r) s (fileRecord r s))

/-! ### Notification unit -/

/-- R139, R140: what an event does to its group: the seen mark is set; a kind not enabled goes no further; an enabled one
begins an accumulation from IDLE and AWAITING and joins it in PENDING and AWAITING_MORE. R137, R141: an event that is raised
does this in the group of its kind, with the detail given and the cycle number held at that moment, and touches no other
group; then the arbiter may compose at once, or wait (log 5). -/
def Obligations.EventAccumulates : Prop :=
  (∀ (e : Event) (d : Detail) (s : State), TenGroups s →
    e.group < 10 ∧ (definedKinds e.group).getLsbD e.number = true ∧
    ∃ g, s.notif.groups[e.group]? = some g ∧
      let t := { s with notif := { s.notif with groups := s.notif.groups.set e.group (g.accept e.number s.tb.cycle d) } }
      (arbiterReady t = false → raise e d s = t) ∧
      (arbiterReady t = true → raise e d s = { t with races := s.races + 1 } ∨
        raise e d s = composeAll { t with races := s.races + 1 })) ∧
  ∀ (g : Group) (kind : Nat) (c : BitVec 6) (d : Detail), kind < 16 →
    (g.enable.getLsbD kind = false →
      g.accept kind c d = { g with seen := g.seen ||| BitVec.twoPow 16 kind }) ∧
    (g.enable.getLsbD kind = true →
      (g.delivery = .idle → g.accept kind c d =
        { g with seen := g.seen ||| BitVec.twoPow 16 kind, delivery := .pending
                 acc := some ⟨BitVec.twoPow 16 kind, 1, c, c, d⟩ }) ∧
      (g.delivery = .awaiting → g.accept kind c d =
        { g with seen := g.seen ||| BitVec.twoPow 16 kind, delivery := .awaitingMore
                 acc := some ⟨BitVec.twoPow 16 kind, 1, c, c, d⟩ }) ∧
      (∀ a, g.delivery = .pending ∨ g.delivery = .awaitingMore → g.acc = some a → g.accept kind c d =
        { g with seen := g.seen ||| BitVec.twoPow 16 kind
                 acc := some ⟨a.kinds ||| BitVec.twoPow 16 kind, min 255 (a.count + 1), a.first, c, d⟩ }))

/-- R143, R145: the arbiter takes an eligible group of the highest level, and of the lowest number among those; and it takes
one whenever a group is PENDING with a level above the mask level. -/
def Obligations.ArbiterChoosesTheHighestLevel : Prop :=
  (∀ (n : Notifier) (i : Nat) (g : Group), n.chosen = some (i, g) →
    n.groups[i]? = some g ∧ g.delivery = .pending ∧ n.mask < g.level ∧
    (∀ j h, n.groups[j]? = some h → h.delivery = .pending → n.mask < h.level →
      h.level < g.level ∨ (h.level = g.level ∧ i ≤ j))) ∧
  (∀ (n : Notifier) (j : Nat) (h : Group), n.groups[j]? = some h → h.delivery = .pending → n.mask < h.level →
    ∃ i g, n.chosen = some (i, g))

/-- R144, R146: the arbiter's row composes a NOTIFY frame of the chosen group, at the tail, and the group awaits its NACK
with an empty accumulation; then the arbiter goes on while it can. With nothing to compose it changes nothing. -/
def Obligations.ArbiterComposes : Prop :=
  ∀ (s : State), s.link.intake = [] →
    (arbiterReady s = false → exec .notificationFrameComposed s = .next s) ∧
    (∀ i g a, arbiterReady s = true → s.notif.chosen = some (i, g) → g.acc = some a → ∃ t u,
      t = { s with
        notif := { s.notif with groups := s.notif.groups.set i { g with acc := none, delivery := .awaiting } }
        link := { s.link with outbound := s.link.outbound ++
          [⟨.notify, 0, byte i, [g.sequence] ++ bytes16 a.kinds ++ [byte a.count, cycleByte a.first, cycleByte a.last,
            a.detail.d0, a.detail.d1, a.detail.d2, a.detail.d3], none⟩] } } ∧
      exec .notificationFrameComposed s = .next u ∧ u = composeAll t)

/-- R149, R150, R144: GSET replaces a group's level and enable set and answers its delivery state and sequence, NMASK sets
the mask level; then the arbiter composes what has become eligible. That the answer enters first is the model's choice: log
36. -/
def Obligations.GroupAndMaskSettings : Prop :=
  ∀ (tag : Byte) (s : State), Ready tag s → TenGroups s →
    (∀ p, p.length = 4 → groupBad p = none → ∃ g, s.notif.groups[fieldAt p 0]? = some g ∧
      exec (.gset tag p) s = .next (composeAll (replied tag .ok [g.delivery.code, g.sequence]
        { s with notif := { s.notif with
          groups := s.notif.groups.set (fieldAt p 0) { g with level := fieldAt p 1, enable := wordAt p 2 } } }))) ∧
    (∀ p o, p.length = 4 → groupBad p = some o → exec (.gset tag p) s = .next (replied tag .badField [byte o] s)) ∧
    (∀ m : Byte, m.toNat ≤ 7 → exec (.nmask tag [m]) s = .next (composeAll (replied tag .ok []
      { s with notif := { s.notif with mask := m.toNat } }))) ∧
    (∀ m : Byte, 7 < m.toNat → exec (.nmask tag [m]) s = .next (replied tag .badField [0] s))

/-- R147: NACK with the group's sequence while a frame is outstanding moves the sequence on and leaves IDLE or PENDING;
otherwise it is answered NOT_FOUND and changes nothing. Its answer comes before a frame composed because of it. R151:
EVREAD answers the group's seen marks, level, enable set, delivery state, sequence and occurrence count, and clears the
seen marks alone. -/
def Obligations.AcknowledgeAndReadMarks : Prop :=
  (∀ (tag n q : Byte) (g : Group) (s : State), Ready tag s → n.toNat ≤ 9 → s.notif.groups[n.toNat]? = some g →
    (g.delivery = .awaiting → g.sequence = q → exec (.nack tag [n, q]) s = .next (replied tag .ok []
      { s with notif := { s.notif with
        groups := s.notif.groups.set n.toNat { g with sequence := g.sequence + 1, delivery := .idle } } })) ∧
    (g.delivery = .awaitingMore → g.sequence = q → exec (.nack tag [n, q]) s = .next (composeAll (replied tag .ok []
      { s with notif := { s.notif with
        groups := s.notif.groups.set n.toNat { g with sequence := g.sequence + 1, delivery := .pending } } }))) ∧
    (g.delivery = .idle ∨ g.delivery = .pending ∨ g.sequence ≠ q →
      exec (.nack tag [n, q]) s = .next (replied tag .notFound [] s))) ∧
  (∀ (tag n : Byte) (s : State), Ready tag s →
    (∀ g, n.toNat ≤ 9 → s.notif.groups[n.toNat]? = some g → exec (.evread tag [n]) s = .next (replied tag .ok
      (bytes16 g.seen ++ [byte g.level] ++ bytes16 g.enable ++
        [g.delivery.code, g.sequence, byte ((g.acc.map Accumulation.count).getD 0)])
      { s with notif := { s.notif with groups := s.notif.groups.set n.toNat { g with seen := 0 } } })) ∧
    (9 < n.toNat → exec (.evread tag [n]) s = .next (replied tag .badField [0] s)))

/-! ### The host link -/

/-- R169, R170, R177: CS falls and the first outbound byte is chosen; CS rises and the exchange in progress is discarded,
its byte still to be offered, and a frame in progress is cut with FRAME_CUT. -/
def Obligations.TransactionsBeginAndEnd : Prop :=
  ∀ s : State, Settled s → TenGroups s →
    (s.link.transaction = false → s.resetting = none → exec .transactionStart s = .next { s with
      link := { s.link with
        transaction := true
        exchange := some (match s.link.outbound with
          | [] => ⟨0, .filler⟩
          | f :: _ => ⟨(f.wire[s.link.delivered]?).getD 0, .frame⟩) } }) ∧
    (s.link.transaction = true → s.link.parser = .sync → exec .transactionEnd s = .next { s with
      link := { s.link with transaction := false, exchange := none } }) ∧
    (∀ d, s.link.transaction = true →
      ((s.link.parser = .length ∧ d = ⟨0, 0, 0, 0⟩) ∨
        (∃ len bytes, s.link.parser = .body len bytes ∧
          d = ⟨byte (1 + bytes.length), byte len, byteAt bytes 0, byteAt bytes 1⟩) ∨
        (∃ len bytes, s.link.parser = .check len bytes none ∧
          d = ⟨byte (1 + bytes.length), byte len, byteAt bytes 0, byteAt bytes 1⟩) ∨
        (∃ len bytes high, s.link.parser = .check len bytes (some high) ∧
          d = ⟨byte (2 + bytes.length), byte len, byteAt bytes 0, byteAt bytes 1⟩)) →
      ∃ t, exec .transactionEnd s = .next t ∧
      Raised [⟨.frameCut, s.tb.cycle, d⟩] s t ∧
      Effect { s with link := { s.link with parser := .sync, transaction := false, exchange := none } } t)

/-- R169, R170, R175: one byte passes each way in an exchange. Its outbound byte, filler or a byte of the oldest frame, counts
as clocked out, the parser takes its inbound byte, wherever in an inbound frame it stands, and the next exchange's byte is
chosen; where no inbound frame ends and nothing waits for a place, nothing else changes. -/
def Obligations.ExchangePassesOneByteEachWay : Prop :=
  ∀ (b : Byte) (p : Parser) (k : Link) (s : State), Settled s → s.resetting = none → s.link.transaction = true →
    ByteSent s k → TakesByte b s.link.parser p →
    exec (.exchangeComplete b) s = .next { s with
      link := { k with
        parser := p
        exchange := some (match k.outbound with
          | [] => ⟨0, .filler⟩
          | f :: _ => ⟨(f.wire[k.delivered]?).getD 0, .frame⟩) } }

/-- R174, R175, R176: the parser, given the bytes of any request frame from SYNC, ends in SYNC with the frame tested and
accepted as the request it carries: no byte of tag, code or payload is lost. -/
def Obligations.RequestFrameRoundTrip : Prop :=
  ∀ (tag code : Byte) (payload : List Byte) (s : State), payload.length ≤ 240 → s.link.parser = .sync →
    let body := byte (payload.length + 3) :: 0x01 :: tag :: code :: payload
    ((0xC3 :: body) ++ [highByte (linkCheck body), lowByte (linkCheck body)]).foldl (fun t b => parseByte b t) s =
      acceptFrame 0x01 ⟨tag, code, payload⟩ s

/-- R176, R178, R180: the exchange that brings the last check byte of a right request frame does what the request's row does,
and then the next exchange begins; a wrong check discards the frame with FRAME_CHECK, a wrong kind or tag 0 with FRAME_KIND.
A request whose answer has no place waits at the tail of the intake queue, and one that finds four waiting is discarded with
INTAKE_OVERFLOW. R175: a length byte outside 3 to 243 discards the frame with FRAME_LENGTH, and the parser is in SYNC. R170:
whatever byte goes out meanwhile counts as clocked out first. -/
def Obligations.InboundFramesEnd : Prop :=
  (∀ (len : Nat) (tag code kind high low : Byte) (payload : List Byte) (k : Link) (s : State), Settled s →
    s.resetting = none → TenGroups s → s.link.transaction = true → ByteSent s k →
    s.link.parser = .check len (kind :: tag :: code :: payload) (some high) →
    let right := high ++ low = linkCheck (byte len :: kind :: tag :: code :: payload)
    (right → kind = 0x01 → tag ≠ 0 → ∃ u,
      finish (requestArrives code tag payload { s with link := { k with parser := .sync } }) = .next u ∧
      exec (.inboundFrameComplete low) s =
        .next { u with link := { u.link with exchange := (beginExchange u).link.exchange } }) ∧
    (right → kind ≠ 0x01 ∨ tag = 0 → ∃ t, exec (.inboundFrameComplete low) s = .next t ∧
      Raised [⟨.frameKind, s.tb.cycle, ⟨kind, tag, code, byte (payload.length + 3)⟩⟩] s t ∧
      Effect { s with link := { k with parser := .sync, exchange := t.link.exchange } } t) ∧
    (¬right → ∃ t, exec (.inboundFrameComplete low) s = .next t ∧
      Raised [⟨.frameCheck, s.tb.cycle, ⟨byte len, kind, tag, code⟩⟩] s t ∧
      Effect { s with link := { k with parser := .sync, exchange := t.link.exchange } } t)) ∧
  (∀ (tag code : Byte) (payload : List Byte) (s : State), Settled s → s.resetting = none → TenGroups s → tag ≠ 0 →
    (s.link.hasPlace = false → s.link.intake.length < 4 → finish (requestArrives code tag payload s) =
      .next { s with link := { s.link with intake := s.link.intake ++ [⟨tag, code, payload⟩] } }) ∧
    (4 ≤ s.link.intake.length → ∃ t, finish (requestArrives code tag payload s) = .next t ∧
      Raised [⟨.intakeOverflow, s.tb.cycle,
        ⟨tag, code, byte s.link.outbound.length, byte s.link.reservations⟩⟩] s t ∧ Effect s t)) ∧
  (∀ (b : Byte) (k : Link) (s : State), Settled s → s.resetting = none → TenGroups s → s.link.transaction = true →
    ByteSent s k → s.link.parser = .length → b.toNat < 3 ∨ 243 < b.toNat →
    ∃ t, exec (.frameLength b) s = .next t ∧ Raised [⟨.frameLength, s.tb.cycle, ⟨b, 0, 0, 0⟩⟩] s t ∧
      Effect { s with link := { k with parser := .sync, exchange := t.link.exchange } } t)

/-- R170, R172, R173: the sync byte's exchange fills in the room and check of the oldest frame; a later byte's exchange only
counts it; the last byte's takes the frame out of the queue; the parser takes the inbound byte meanwhile, wherever in an
inbound frame it stands. R180, R185: where a request waits for the place that this frees, it is taken then, and alone among
those that wait; it is carried out as if it came in at that moment. -/
def Obligations.BytesClockedOut : Prop :=
  ∀ (b x : Byte) (p : Parser) (f : OutFrame) (rest : List OutFrame) (s : State), Settled s → s.resetting = none →
    s.link.transaction = true → s.link.exchange = some ⟨x, .frame⟩ → TakesByte b s.link.parser p →
    s.link.outbound = f :: rest →
    (s.link.delivered = 0 → exec (.syncByteClockedOut b) s = .next { s with link := { s.link with
        outbound := s.link.filledHead f :: rest, delivered := 1, parser := p
        exchange := some ⟨byte (f.payload.length + 4), .frame⟩ } }) ∧
    (0 < s.link.delivered → s.link.delivered + 1 < f.payload.length + 8 →
      exec (.exchangeComplete b) s = .next { s with link := { s.link with
        delivered := s.link.delivered + 1, parser := p
        exchange := some ⟨(f.wire[s.link.delivered + 1]?).getD 0, .frame⟩ } }) ∧
    (s.link.delivered + 1 = f.payload.length + 8 → s.link.intake = [] → ∃ t, exec (.frameClockedOut b) s = .next t ∧
      Effect { s with link := { s.link with
        outbound := rest, delivered := 0, parser := p, exchange := t.link.exchange } } t ∧
      t.link.exchange = some (nextByte t.link) ∧ (rest = [] → s.notif.chosen = none → attn t = false)) ∧
    (∀ r more, s.link.delivered + 1 = f.payload.length + 8 → s.link.intake = r :: more → LinkSound s.link →
      r.tag ≠ 0 → s.notif.chosen = none → ∃ t, exec (.frameClockedOut b) s = .next t ∧
      t.link.exchange = some (nextByte t.link) ∧
      (r.code ≠ Code.reset.byte → t.link.intake = more) ∧
      (more = [] → ∃ u, finish (requestArrives r.code r.tag r.payload
          { s with
            link := { s.link with outbound := rest, delivered := 0, intake := [], parser := p }, races := s.races + 1 }) =
        .next u ∧ t = { u with link := { u.link with exchange := t.link.exchange } }))

/-! ### The timebase -/

/-- R18, R26, R52, R79, R96, R98, R118: a cycle that reaches its length ends, and the next begins with the number one
higher; a pending commit takes effect, buffers age, lanes are judged, sporadic entries age and expire with their records,
and a LOCKED master's beacon goes on the air, on the lanes ACTIVE before and on those promoted at this event whose promotion
comes before the launch, as the operand has it (log 7). -/
def Obligations.CycleStarts : Prop :=
  ∀ (first : Promotions) (s : State), cycleEnds s = true → s.resetting = none → s.link.intake = [] → TenGroups s →
    (s.spor.entries.map SporadicEntry.ticket).Nodup →
    let number := s.tb.cycle + 1
    let now := s.now + (s.tb.length - s.tb.offset)
    let lanes : PerLane LaneUnit := ⟨s.lanes.a.afterCycle s.cfg, s.lanes.b.afterCycle s.cfg⟩
    let gone := s.spor.expiring
    let records := gone.map fun e => expiredRecord e number
    let usable := (activeLanes s).union ((activeLanes { s with lanes := lanes }).inter ⟨first.a, first.b⟩)
    let launches := s.tb.role = .master ∧ s.tb.sync = .locked ∧ usable.isEmpty = false
    let heard := s.rx.on (readmitted s.cfg s.lanes) (Receiver.listen now)
    ∃ t, exec (.cycleStart first) s = .next t ∧ cycleMark t = true ∧
      Raised (commitNotices .cycleStart number s ++ s.lanes.a.cycleNotices .A s.cfg number ++
        s.lanes.b.cycleNotices .B s.cfg number ++ expiryNotices gone s.spor.surviving number ++
        RecordQueue.filingNoticesAll number records s.recs) s t ∧
      Answers (if s.sched.commitPending then s.link.deferredAnswer .tcommit .ok else [])
        { s with
          now := now
          tb := { s.tb with
            cycle := number, offset := 0, length := s.cfg.cycleLength, began := now
            past := ⟨s.tb.began, now, s.tb.length, s.tb.length⟩ :: s.tb.past.filter fun c => decide (now < c.ended + 268)
            beaconMark := false, deadlinePassed := false, atCycleStart := true, markUntil := some (now + 2) }
          sched := if s.sched.commitPending then { s.sched with active := s.sched.edit, commitPending := false }
            else s.sched
          bufs := s.bufs.map Buffer.aged, lanes := lanes, spor := ⟨s.spor.surviving, s.spor.counter⟩
          recs := records.foldl RecordQueue.filed s.recs
          launch := if launches then
              some ⟨.beacon, usable, LaneSet.none, 0, number, header1 1 s.cfg.nodeId 0, header2 0 number 0, []⟩
            else none
          rx := if launches then heard.on usable (Receiver.abandon now) else heard
          link := if s.sched.commitPending then s.link.withoutDeferred .tcommit else s.link } s t

/-- R96, R98, R118: what is still due at the moment of a cycle-start event: entries out of life expire, a lane that has
served its hold becomes PROBATION, one that has passed its probation becomes ACTIVE. That these rows act on what is still
due is the model's choice: log 6. R18: the CYCLE_MARK pulse ends at its moment. -/
def Obligations.CycleStartReactionsAndPulse : Prop :=
  (∀ (l : Lane) (s : State), s.tb.atCycleStart = true → s.resetting = none → s.link.intake = [] → TenGroups s →
    ((s.spor.entries.map SporadicEntry.ticket).Nodup →
      let left := s.spor.entries.filter fun e => e.onAir || e.life != 0
      let gone := s.spor.entries.filter fun e => !e.onAir && e.life == 0
      let records := gone.map fun e => expiredRecord e s.tb.cycle
      ∃ t, exec .expiry s = .next t ∧
        Raised (expiryNotices gone left s.tb.cycle ++ RecordQueue.filingNoticesAll s.tb.cycle records s.recs) s t ∧
        Effect { s with spor := ⟨left, s.spor.counter⟩, recs := records.foldl RecordQueue.filed s.recs } t) ∧
    ((s.lanes.get l).state = .faulted → s.cfg.autoReadmission = true → s.cfg.holdTime ≤ (s.lanes.get l).hold →
      ∃ t, exec (.holdExpired l) s = .next t ∧ Raised [⟨.laneChanged l, s.tb.cycle, ⟨3, 2, 3, 0⟩⟩] s t ∧
        Effect { s with
          lanes := s.lanes.set l ⟨.probation, 0, 0, 0, false⟩
          rx := s.rx.set l { s.rx.get l with since := s.now } } t) ∧
    ((s.lanes.get l).state = .probation → s.cfg.probationCount ≤ (s.lanes.get l).clean →
      ∃ t, exec (.probationPassed l) s = .next t ∧ Raised [⟨.laneChanged l, s.tb.cycle, ⟨2, 1, 4, 0⟩⟩] s t ∧
        laneOff t l = false ∧
        Effect { s with lanes := s.lanes.set l ⟨.active, 0, 0, 0, false⟩ } t)) ∧
  (∀ (m : Nat) (s : State), Settled s → s.tb.markUntil = some m →
    (s.now < m → reaches s (s.tb.offset + (m - s.now)) = true → exec .cycleMarkPulseEnd s = .next
      { s with now := m, tb := { s.tb with
          offset := s.tb.offset + (m - s.now), atCycleStart := false, markUntil := none } }) ∧
    (m ≤ s.now → exec .cycleMarkPulseEnd s = .next { s with tb := { s.tb with markUntil := none } }))

/-- R23, R26: the startup listen expires: LOCKED, cycle 0 begins, its beacon is launched on the ACTIVE lanes, and the
deferred START is answered OK. STATE_CHANGED is raised before the number becomes 0, and so carries the number kept until
then: the model's choice, log 15. -/
def Obligations.StartupListenExpires : Prop :=
  ∀ (m : Nat) (d : Byte) (s : State), s.tb.startupListen = some m → s.link.deferred = some ⟨.start, d⟩ →
    s.tb.role = .master → s.resetting = none → s.link.intake = [] → s.launch = none → TenGroups s →
    let now := max s.now m
    ∃ t, exec .startupListenExpiry s = .next t ∧ cycleMark t = true ∧
      Raised [syncNotice s.tb.cycle s.tb.sync .locked .master (cycleByte s.tb.cycle)] s t ∧
      Answers [responseFrame d .ok []]
        { s with
          now := now
          tb := { s.tb with
            sync := .locked, startupListen := none, cycle := 0, offset := 0, length := s.cfg.cycleLength, began := now
            beaconMark := false, deadlinePassed := false, atCycleStart := false, markUntil := some (now + 2) }
          rx := s.rx.on (activeLanes s) (Receiver.abandon now)
          launch := if (activeLanes s).isEmpty then none else
            some ⟨.beacon, activeLanes s, LaneSet.none, 0, 0, header1 1 s.cfg.nodeId 0, header2 0 0 0, []⟩
          link := { s.link with deferred := none, reservations := s.link.reservations - 1 } } s t

/-- R33 to R36, R53, R57: the beacon deadline of a follower: with the mark set only time passes; else LOCKED becomes
HOLDOVER with missed count 1, HOLDOVER counts on, or at the limit falls to LISTEN, and ACQUIRE falls to LISTEN. A fall cuts
the launch, abandons the window and lets a pending commit take effect. -/
def Obligations.DeadlineActsOnTheMissedBeacon : Prop :=
  ∀ s : State, deadlineDue s = true → s.resetting = none → s.link.intake = [] → TenGroups s →
    let at' : Timebase := { s.tb with
      offset := 21 + s.cfg.lockWindow, deadlinePassed := true
      atCycleStart := s.tb.atCycleStart && decide (21 + s.cfg.lockWindow = s.tb.offset) }
    let now' := s.now + (21 + s.cfg.lockWindow - s.tb.offset)
    let fallen : State := { s with
      now := now'
      tb := { at' with
        sync := .listen, offset := 0, missed := 0, atCycleStart := false, markUntil := none
        past := ⟨s.tb.began, now', 21 + s.cfg.lockWindow, s.tb.length⟩ ::
          s.tb.past.filter fun c => decide (now' < c.ended + 268) }
      sched := stoppedSchedule s.sched, launch := none, spor := cutQueue s
      rx := stoppedReceivers { s with now := now', tb := at' }
      link := if s.sched.commitPending then s.link.withoutDeferred .tcommit else s.link }
    let answered := if s.sched.commitPending then s.link.deferredAnswer .tcommit .ok else []
    let missedNotice : Notice :=
      ⟨.beaconMissed, s.tb.cycle, ⟨byte (s.tb.missed + 1), cycleByte s.tb.cycle, 0, 0⟩⟩
    let stopped := syncNotice s.tb.cycle s.tb.sync .listen s.tb.role 0 :: commitNotices .cyclesStopped s.tb.cycle s
    (s.tb.beaconMark = true → ∃ t, exec .beaconDeadline s = .next t ∧ Raised [] s t ∧
      Effect { s with now := now', tb := at' } t) ∧
    (s.tb.beaconMark = false → s.tb.sync = .locked → ∃ t, exec .beaconDeadline s = .next t ∧
      Raised [⟨.beaconMissed, s.tb.cycle, ⟨1, cycleByte s.tb.cycle, 0, 0⟩⟩,
        syncNotice s.tb.cycle .locked .holdover s.tb.role (cycleByte s.tb.cycle)] s t ∧
      Effect { s with now := now', tb := { at' with sync := .holdover, missed := 1 } } t) ∧
    (s.tb.beaconMark = false → s.tb.sync = .holdover → s.tb.missed + 1 < s.cfg.holdoverLimit →
      ∃ t, exec .beaconDeadline s = .next t ∧ Raised [missedNotice] s t ∧
        Effect { s with now := now', tb := { at' with missed := s.tb.missed + 1 } } t) ∧
    (s.tb.beaconMark = false → s.tb.sync = .holdover → s.cfg.holdoverLimit ≤ s.tb.missed + 1 →
      ∃ t, exec .holdoverLimitReached s = .next t ∧ exec .beaconDeadline s = .next t ∧
        Raised (missedNotice :: stopped) s t ∧ Answers answered fallen s t) ∧
    (s.tb.beaconMark = false → s.tb.sync = .acquire → ∃ t, exec .beaconDeadline s = .next t ∧
      Raised stopped s t ∧ Answers answered fallen s t)

/-- R15, R24, R29, R31, R34: a beacon taken in LISTEN: its lane has a GOOD outcome, the timebase aligns on it and enters
ACQUIRE; a startup listen ends with the node a follower and the deferred START answered MASTER_CONFLICT. R27, R34, R36, R57:
while a cycle runs, a beacon that reaches a LOCKED master, and one out of window in ACQUIRE or HOLDOVER, does the same to the
running cycle: its launch is cut, its window abandoned, and the new cycle begins with all the reactions to a cycle-start
event. An ACQUIRE that stays ACQUIRE raises no STATE_CHANGED, and none of them raises BEACON_OUT_OF_WINDOW. That the lane has
the beacon's GOOD outcome before that cycle-start event judges it is the model's choice: log 21. -/
def Obligations.BeaconAlignsHard : Prop :=
  ∀ (l : Lane) (elapsed lead : Nat) (m : Message) (h1 h2 : Word) (s : State), s.resetting = none → s.link.intake = [] →
    TenGroups s → canPass elapsed s = true → hearsFree (pass elapsed s) l lead m = true →
    isTwin (pass elapsed s) = false → freeCheckRight m = true → m.header = some (h1, h2) → freeIsBeacon h1 h2 = true →
    let p := pass elapsed s
    let number := headerCycle h2
    let sender := byte (headerSender h1)
    let graded := s.lanes.set l ((s.lanes.get l).after s.cfg.debitLimit .good false)
    let heard : State := { p with rx := p.rx.set l { p.rx.get l with busy := p.now, floor := p.now } }
    let conflict : Notice := ⟨.masterConflict, s.tb.cycle, ⟨sender, l.code, cycleByte number, 0⟩⟩
    (s.tb.sync = .listen → DeferredSound s → s.sched.window = none → s.launch = none →
      let role := if s.tb.startupListen.isSome then .follower else s.tb.role
      ∃ t, exec (.freeMessageEnd l elapsed ⟨lead, m⟩) s = .next t ∧
        Raised ((if s.tb.startupListen.isSome then [conflict] else []) ++
          [syncNotice number .listen .acquire role (cycleByte number)]) s t ∧
        Answers (s.link.deferredAnswer .start .masterConflict)
          { heard with
            tb := { s.tb with
              sync := .acquire, role := role
              cycle := number, offset := 20, length := s.cfg.cycleLength, began := p.now, beaconMark := true, missed := 0
              deadlinePassed := false, startupListen := none, lastTaken := some p.now
              atCycleStart := false, markUntil := none }
            lanes := graded
            link := s.link.withoutDeferred .start } s t) ∧
    ((s.spor.entries.map SporadicEntry.ticket).Nodup →
      (s.tb.sync = .locked ∧ s.tb.role = .master) ∨
        ((s.tb.sync = .acquire ∨ s.tb.sync = .holdover) ∧ ∃ e, PhaseErrorIs p e ∧
          (e < -(s.cfg.lockWindow : Int) ∨ (s.cfg.lockWindow : Int) < e)) →
      let role := if s.tb.sync = .locked then .follower else s.tb.role
      let gone := (cutQueue s).expiring
      let left := (cutQueue s).surviving
      let records := gone.map fun e => expiredRecord e number
      ∃ t, exec (.freeMessageEnd l elapsed ⟨lead, m⟩) s = .next t ∧ cycleMark t = true ∧
        Raised ((if s.tb.sync = .locked then [conflict] else []) ++
          commitNotices .cycleStart number s ++ graded.a.cycleNotices .A s.cfg number ++
          graded.b.cycleNotices .B s.cfg number ++ expiryNotices gone left number ++
          RecordQueue.filingNoticesAll number records s.recs ++
          (if s.tb.sync = .acquire then [] else [syncNotice number s.tb.sync .acquire role (cycleByte number)])) s t ∧
        Answers (if s.sched.commitPending then s.link.deferredAnswer .tcommit .ok else [])
          { p with
            tb := { p.tb with
              sync := .acquire, role := role, cycle := number, offset := 20, length := s.cfg.cycleLength, began := p.now
              past := ⟨s.tb.began, p.now, p.tb.offset, s.tb.length⟩ ::
                s.tb.past.filter fun c => decide (p.now < c.ended + 268)
              beaconMark := true, missed := 0, deadlinePassed := false, lastTaken := some p.now
              atCycleStart := true, markUntil := some (p.now + 2) }
            sched := stoppedSchedule s.sched, launch := none
            rx := (stoppedReceivers heard).on (readmitted s.cfg graded) (Receiver.listen p.now)
            bufs := s.bufs.map Buffer.aged
            lanes := ⟨graded.a.afterCycle s.cfg, graded.b.afterCycle s.cfg⟩
            spor := ⟨left, s.spor.counter⟩, recs := records.foldl RecordQueue.filed s.recs
            link := if s.sched.commitPending then s.link.withoutDeferred .tcommit else s.link } s t)

/-- R30, R32, R34 to R36: an in-window beacon taken by a follower while a cycle runs corrects the cycle's length by the
limited phase error, sets the mark, has its number adopted with CYCLE_JUMP, and makes the state LOCKED. -/
def Obligations.BeaconInWindowCorrects : Prop :=
  ∀ (l : Lane) (elapsed lead : Nat) (m : Message) (h1 h2 : Word) (e : Int) (s : State), s.tb.sync.running = true →
    s.tb.role = .follower → s.resetting = none → s.link.intake = [] → TenGroups s → canPass elapsed s = true →
    hearsFree (pass elapsed s) l lead m = true → isTwin (pass elapsed s) = false → freeCheckRight m = true →
    m.header = some (h1, h2) → freeIsBeacon h1 h2 = true → PhaseErrorIs (pass elapsed s) e →
    -(s.cfg.lockWindow : Int) ≤ e → e ≤ (s.cfg.lockWindow : Int) →
    let p := pass elapsed s
    let number := headerCycle h2
    ∃ t, exec (.freeMessageEnd l elapsed ⟨lead, m⟩) s = .next t ∧
      Raised ((if number = s.tb.cycle then [] else
          [⟨.cycleJump, number, ⟨cycleByte s.tb.cycle, cycleByte number, l.code, byte (headerSender h1)⟩⟩]) ++
        (if s.tb.sync = .locked then [] else
          [syncNotice number s.tb.sync .locked .follower (cycleByte number)])) s t ∧
      Effect { p with
        tb := { p.tb with
          sync := .locked, cycle := number, beaconMark := true, lastTaken := some p.now
          missed := if s.tb.sync = .holdover then 0 else s.tb.missed
          length := ((s.cfg.cycleLength : Int) + max (-(s.cfg.correctionLimit : Int))
            (min (s.cfg.correctionLimit : Int) e)).toNat }
        rx := p.rx.set l { p.rx.get l with busy := p.now, floor := p.now }
        lanes := s.lanes.set l ((s.lanes.get l).after s.cfg.debitLimit .good false) } t

/-- R15: a message heard in FREE mode by the table, line for line: of kind DATA, NULL or 0 it is discarded; of kind BEACON with
another field out of line it is FORMAT; cut, or with a wrong check result, it is CHECK when it arrived in the beacon window or
the cycle tail while a cycle runs, and is discarded else. R29, R35: a beacon that is a twin is GOOD for its lane alone; an
out-of-window beacon in LOCKED as follower is ignored for timing. A beacon handed over exactly 20 microseconds after the last
one taken counts as a twin: the model's choice, log 10. R2, R10, R15: one whose carrier was lost within its
start delimiter, one whose start delimiter was recognised while the receiver was OFF, and one that a launch on its lane has
overtaken, or that started under one, are not taken at all. R95: on a lane that sends, only a beacon that ended as the launch
began is taken (log 32), so that no outcome but an echo's can charge the lane. -/
def Obligations.OtherFreeMessages : Prop :=
  ∀ (l : Lane) (elapsed lead k : Nat) (m : Message) (s : State), s.resetting = none → s.link.intake = [] → TenGroups s →
    canPass elapsed s = true → m.age = some k →
    let p := pass elapsed s
    let u := s.lanes.get l
    let heard : State := { p with rx := p.rx.set l { p.rx.get l with busy := p.now, floor := p.now } }
    let cycle := if s.tb.sync.running then s.tb.cycle else 0
    let right := m.ending = .delimiter ∧ m.checkRight = true
    let inLine := fun (h1 h2 : Word) =>
      headerLength h1 = 0 ∧ headerSlot h2 = 0 ∧ headerSpare h1 = 0 ∧ 1 ≤ headerSender h1 ∧ headerSender h1 ≤ 63
    let beacon := right ∧ ∃ h1 h2, m.header = some (h1, h2) ∧ headerKind h1 = 1 ∧ inLine h1 h2
    let watched := s.tb.sync.running = true ∧ ∃ a length, ArrivalIs p k a length ∧
      (a < 20 + 2 * s.cfg.tol ∨ s.cfg.cycleLength ≤ a + 20)
    let discarded := ∃ t, exec (.freeMessageEnd l elapsed ⟨lead, m⟩) s = .next t ∧ Raised [] s t ∧ Effect heard t
    let graded := fun (o : Outcome) => ∃ t, exec (.freeMessageEnd l elapsed ⟨lead, m⟩) s = .next t ∧
      Raised (u.outcomeNotices l s.cfg.debitLimit o false none s.tb.cycle cycle) s t ∧
      Effect { (if u.faults s.cfg.debitLimit o false then laneLeaves l heard else heard) with
        lanes := s.lanes.set l (u.after s.cfg.debitLimit o false) } t
    let nothing := exec (.freeMessageEnd l elapsed ⟨lead, m⟩) s = .next s
    (Settled s → k < 2 → nothing) ∧
    (Settled s → p.now - k + 2 < (p.rx.get l).since → nothing) ∧
    (Settled s → p.now - k - lead < (p.rx.get l).busy → (p.rx.get l).busy < p.now ∨ ¬beacon → nothing) ∧
    (Settled s → txen p l = true → ¬beacon → nothing) ∧
    (hearsFree p l lead m = true →
      (∀ h1 h2, right → m.header = some (h1, h2) →
        (headerKind h1 ≠ 1 → discarded) ∧
        (headerKind h1 = 1 → ¬inLine h1 h2 → graded .format) ∧
        (headerKind h1 = 1 → inLine h1 h2 → isTwin p = true → graded .good)) ∧
      (¬right → watched → graded .check) ∧
      (¬right → ¬watched → discarded) ∧
      (∀ h1 h2 e, right → m.header = some (h1, h2) → headerKind h1 = 1 → inLine h1 h2 → isTwin p = false →
        s.tb.sync = .locked → s.tb.role = .follower → PhaseErrorIs p e →
        (e < -(s.cfg.lockWindow : Int) ∨ (s.cfg.lockWindow : Int) < e) →
        ∃ t, exec (.freeMessageEnd l elapsed ⟨lead, m⟩) s = .next t ∧
          Raised [⟨.beaconOutOfWindow, s.tb.cycle, ⟨lowByte (BitVec.ofInt 16 e), highByte (BitVec.ofInt 16 e), l.code,
            byte (headerSender h1)⟩⟩] s t ∧
          Effect { heard with
            tb := { p.tb with lastTaken := some p.now }
            lanes := s.lanes.set l (u.after s.cfg.debitLimit .good false) } t))

/-! ### Windows and launches -/

/-- R58, R71, R64, R83: the window-start event of a SEND entry: withheld in ACQUIRE; suppressed without a usable lane; else
the buffer's snapshot is launched, as DATA or NULL, on the usable lanes, whose receivers abandon what they were hearing. -/
def Obligations.SendWindowLaunches : Prop :=
  ∀ (position : Nat) (e : Entry) (s : State), opens s .send position = some e → s.resetting = none →
    s.link.intake = [] → TenGroups s →
    let p := passTo e.start s
    let u := e.lanes.inter (activeLanes s)
    (s.tb.sync = .acquire → ∃ t, exec (.sendWindowStart position) s = .next t ∧ Raised [] s t ∧
      Effect { p with
        sched := { p.sched with window := some ⟨position, e, s.tb.cycle, .send LaneSet.none .notLaunched⟩ }
        rx := windowReceivers p } t) ∧
    (s.tb.sync ≠ .acquire → u.isEmpty = true →
      let r : Record :=
        { kind := .suppressed, number := 0, cycle := s.tb.cycle, slot := e.slot, position := some position
          outcomes := ⟨.notUsed, .notUsed⟩, sender := none, words := none, arrival := none, endOffset := none
          detail := (e.lanes.code, 0), disagree := false, probation := false }
      ∃ t, exec (.sendWindowStart position) s = .next t ∧
      Raised (⟨.sendSuppressed, s.tb.cycle, ⟨byte position, byte e.slot, cycleByte s.tb.cycle, e.lanes.code⟩⟩ ::
        (if e.log then s.recs.filingNotices s.tb.cycle r else [])) s t ∧
      Effect { p with
        sched := { p.sched with window := some ⟨position, e, s.tb.cycle, .send LaneSet.none .notLaunched⟩ }
        rx := windowReceivers p, recs := if e.log then s.recs.filed r else s.recs } t) ∧
    (∀ n k f q c count, s.tb.sync ≠ .acquire → u.isEmpty = false → e.buffer = some n → n < s.bufs.length →
      e.maxWords = some k → (bufferAt s n).status = .send f q c count →
      let data := f = .fresh ∨ (f = .stale ∧ q = .repeat)
      let words := if data then (bufferAt s n).words.take k else []
      let c' := if data then c + 1 else c
      ∃ t, exec (.sendWindowStart position) s = .next t ∧
        Raised (if f = .stale ∧ q = .once then
          [⟨.sendStale, s.tb.cycle, ⟨byte n, byte position, byte e.slot, cycleByte s.tb.cycle⟩⟩] else []) s t ∧
        Effect { p with
          sched := { p.sched with window := some ⟨position, e, s.tb.cycle, .send u .inProgress⟩ }
          bufs := s.bufs.set n ⟨(bufferAt s n).words,
            .send (if f = .empty then .empty else .stale) q c' (min 255 (count + 1))⟩
          rx := windowReceivers { p with rx := s.rx.on u (Receiver.abandon p.now) }
          launch := some ⟨.send, u, LaneSet.none, e.start, s.tb.cycle,
            header1 (if data then 2 else 3) s.cfg.nodeId words.length, header2 e.slot s.tb.cycle c', words⟩ } t)

/-- R60, R63: the window-start events of EXPECT and QUIET entries open the window with the ACTIVE and PROBATION lanes of
the entry; the window-end event of a SEND, OPEN or QUIET window closes it; nothing else changes but time and what the
receivers remember of the window that is over. -/
def Obligations.QuietAndExpectWindowsOpen : Prop :=
  ∀ s : State, Settled s → s.resetting = none → s.link.intake = [] →
    (∀ position e, opens s .expect position = some e →
      let u := e.lanes.inter ((activeLanes s).union (probationLanes s))
      exec (.expectWindowStart position) s = .next { passTo e.start s with
        rx := windowReceivers (passTo e.start s)
        sched := { s.sched with
          window := some ⟨position, e, s.tb.cycle, .expect u (u.inter (probationLanes s)) LaneSet.none⟩ } }) ∧
    (∀ position e, opens s .quiet position = some e →
      let u := e.lanes.inter ((activeLanes s).union (probationLanes s))
      exec (.quietWindowStart position) s = .next { passTo e.start s with
        rx := windowReceivers (passTo e.start s)
        sched := { s.sched with
          window := some ⟨position, e, s.tb.cycle, .quiet u (u.inter (probationLanes s)) LaneSet.none false⟩ } }) ∧
    (∀ w, s.sched.window = some w → w.role.isExpect = false → s.launch = none → reaches s w.ends = true →
      exec .windowEnd s = .next { passTo w.ends s with
        rx := windowReceivers (passTo w.ends s), sched := { s.sched with window := none } })

/-- R62, R113, R74: the window-start event of an OPEN entry: silent in ACQUIRE and when no entry is eligible; else the
chosen entry goes on the air with its whole buffer, and its sequence count moves. -/
def Obligations.OpenWindowLaunches : Prop :=
  ∀ (position : Nat) (e : Entry) (s : State), opens s .openSlot position = some e → Settled s →
    s.resetting = none → s.link.intake = [] →
    let p := passTo e.start s
    (s.tb.sync = .acquire → exec (.openWindowStart position) s = .next { p with
      rx := windowReceivers p
      sched := { s.sched with window := some ⟨position, e, s.tb.cycle, .openSlot LaneSet.none .notLaunched⟩ } }) ∧
    (s.tb.sync ≠ .acquire → (∀ x ∈ s.spor.entries, sporadicEligible s e x = false) →
      exec (.openWindowStart position) s = .next { p with
        rx := windowReceivers p
        sched := { s.sched with
          window := some ⟨position, e, s.tb.cycle, .openSlot (e.lanes.inter (activeLanes s)) .notLaunched⟩ } }) ∧
    (∀ y ∈ s.spor.entries, s.tb.sync ≠ .acquire → sporadicEligible s e y = true → SporadicSound s →
      s.bufs.length = 48 → ∃ before x after q, s.spor.entries = before ++ x :: after ∧
        sporadicEligible s e x = true ∧
        (∀ z ∈ before, sporadicEligible s e z = true → z.priority < x.priority) ∧
        (∀ z ∈ after, sporadicEligible s e z = true → z.priority ≤ x.priority) ∧
        (bufferAt s x.buffer).status = .sporadic q ∧
        let u := (x.lanes.inter e.lanes).inter (activeLanes s)
        exec (.openWindowStart position) s = .next { p with
          sched := { s.sched with window := some ⟨position, e, s.tb.cycle, .openSlot u .inProgress⟩ }
          spor := { s.spor with entries := s.spor.entries.map fun z =>
            if z.ticket = x.ticket then { z with onAir := true } else z }
          bufs := s.bufs.set x.buffer ⟨(bufferAt s x.buffer).words, .sporadic (q + 1)⟩
          rx := windowReceivers { p with rx := s.rx.on u (Receiver.abandon p.now) }
          launch := some ⟨.sporadic, u, LaneSet.none, e.start, s.tb.cycle,
            header1 2 s.cfg.nodeId (bufferAt s x.buffer).words.length, header2 e.slot s.tb.cycle (q + 1),
            (bufferAt s x.buffer).words⟩ })

/-- R2, R63: the first carrier start on a watching lane within a QUIET window, on a lane that was quiet, sets the breach mark,
files QUIET_BREACH and raises VIOLATION; a second one does nothing. -/
def Obligations.QuietWindowBreached : Prop :=
  ∀ (l : Lane) (offset : Nat) (w : Window) (taking onProbation left : LaneSet) (breached : Bool) (s : State),
    s.sched.window = some w → w.role = .quiet taking onProbation left breached → s.resetting = none →
    s.link.intake = [] → TenGroups s → Settled s → (taking.minus left).has l = true → w.entry.start ≤ offset →
    offset < w.ends → reaches s offset = true →
    let p := passTo offset s
    let r : Record :=
      { kind := .quietBreach, number := 0, cycle := w.cycle, slot := w.entry.slot, position := some w.position
        outcomes := (⟨.notUsed, .notUsed⟩ : PerLane Outcome).set l .carrierSeen, sender := none, words := none
        arrival := some offset, endOffset := none, detail := (0, 0), disagree := false
        probation := onProbation.has l }
    (breached = true → exec (.breach l offset) s = .next s) ∧
    (breached = false → (s.rx.get l).busy ≤ p.now → ∃ t, exec (.breach l offset) s = .next t ∧
      Raised (⟨.violation, s.tb.cycle, ⟨byte w.position, l.code, lowByte (BitVec.ofNat 16 offset),
        highByte (BitVec.ofNat 16 offset)⟩⟩ :: s.recs.filingNotices s.tb.cycle r) s t ∧
      Effect { p with
        sched := { s.sched with window := some { w with role := .quiet taking onProbation left true } }
        rx := s.rx.set l { s.rx.get l with busy := p.now, floor := p.now }
        recs := s.recs.filed r } t)

/-- R61, R87 to R91, R76 to R78, R107, R128: an EXPECT window's end grades each lane by its own outcome, stores the source
lane's words on RECEIVED, marks a NULL on NULL_HEARD, leaves the buffer on MISSING and FAULTY, files one record when logged,
with the fields of R128, and raises what the rules name. R12 to R14: a lane's outcome is that of the first message of the
window by the first test of R13 that holds, and the facts with it are those that R14 allows. The model's choices in it: the
lanes' carriers are the command's operands (log 9), a start delimiter is recognised 2 microseconds after the arrival, and a
cut message has no end offset (log 32), a message cut at the window-end offset has ended by it (log 35), and a FAULTY record carries the header's own fields (log 31). -/
def Obligations.ExpectWindowCloses : Prop :=
  (∀ (a b : List Heard) (w : Window) (n : Nat) (r : RxStatus) (s : State), s.sched.window = some w →
    w.role.isExpect = true → reaches s w.ends = true → s.resetting = none → s.link.intake = [] → TenGroups s →
    s.launch = none → w.entry.buffer = some n → n < s.bufs.length → (bufferAt s n).status = .receive r →
    let p := passTo w.ends s
    let va := laneView p w .A a
    let vb := laneView p w .B b
    let c := combine s.cfg.preferredLane ⟨va, vb⟩
    let provedA := vb.gives .good || vb.gives .null
    let provedB := va.gives .good || va.gives .null
    let view := (⟨va, vb⟩ : PerLane LaneView).get
    let first := s.cfg.preferredLane
    let reports := fun l => (view l).considered && (view l).facts.arrival.isSome
    -- the facts of the source lane, or for FAULTY of the reporting lane
    let f : Facts := match c.kind, c.source with
      | .received, some l | .nullHeard, some l => (view l).facts
      | .faulty, _ => if reports first then (view first).facts
        else if reports first.other then (view first.other).facts else ⟨none, none, none, []⟩
      | _, _ => ⟨none, none, none, []⟩
    let sequence : Byte := (headerSequence (f.header.getD (0, 0)).2).setWidth 8
    let errors := errorSet ⟨va, vb⟩
    let x : Record :=
      { kind := match c.kind with
          | .received => .received
          | .nullHeard => .nullHeard
          | .missing => .missing
          | .faulty => .faulty
        number := 0, cycle := w.cycle, slot := w.entry.slot, position := some w.position
        outcomes := ⟨va.outcome, vb.outcome⟩
        sender := f.header.map fun h => headerSender h.1, words := f.header.map fun h => headerLength h.1
        arrival := f.arrival, endOffset := f.endOffset
        detail := match c.kind with
          | .received | .nullHeard => (sequence, 0)
          | .missing => (0, 0)
          | .faulty => (errors, 0)
        disagree := decide (c.kind = .received) && c.disagree
        probation := (w.delivering.a && s.lanes.a.state == .probation) ||
          (w.delivering.b && s.lanes.b.state == .probation) }
    let named := fun (last : Byte) => (⟨byte w.position, byte w.entry.slot, cycleByte w.cycle, last⟩ : Detail)
    ∃ t, exec (.expectWindowEnd a b) s = .next t ∧
      Effect { p with
        sched := { s.sched with window := none }, bufs := t.bufs, rx := (closeHeard w a b p).rx
        lanes := ⟨s.lanes.a.after s.cfg.debitLimit va.outcome provedA, s.lanes.b.after s.cfg.debitLimit vb.outcome provedB⟩
        recs := if w.entry.log then s.recs.filed x else s.recs } t ∧
      Raised (s.lanes.a.outcomeNotices .A s.cfg.debitLimit va.outcome provedA (some w.position) s.tb.cycle w.cycle ++
        s.lanes.b.outcomeNotices .B s.cfg.debitLimit vb.outcome provedB (some w.position) s.tb.cycle w.cycle ++
        (if c.kind = .received ∧ c.disagree = true then
          [⟨.disagree, s.tb.cycle, named (if c.good = LaneSet.both then 1 else 2)⟩] else []) ++
        (if c.kind = .received ∧ r.state = .new then
          [⟨.receiveOverrun, s.tb.cycle, ⟨byte n, byte w.position, byte w.entry.slot, cycleByte w.cycle⟩⟩] else []) ++
        (if w.entry.log then s.recs.filingNotices s.tb.cycle x else []) ++
        (if w.entry.alarm = true ∧ c.kind = .missing then [⟨.missing, s.tb.cycle, named w.listening.code⟩] else []) ++
        (if w.entry.alarm = true ∧ c.kind = .faulty then [⟨.faulty, s.tb.cycle, named errors⟩] else [])) s t ∧
      (c.kind = .missing ∨ c.kind = .faulty → t.bufs = s.bufs) ∧
      (c.kind = .nullHeard → t.bufs = s.bufs.set n ⟨(bufferAt s n).words, .receive
        { r with nullSeen := true, lastHeard := some w.cycle }⟩) ∧
      (∀ h1 h2, f.header = some (h1, h2) → c.kind = .received → t.bufs = s.bufs.set n ⟨f.payload, .receive
        { state := .new, sender := some (headerSender h1), lanes := c.good, disagree := c.disagree
          arrival := f.arrival, lastData := some w.cycle, lastHeard := some w.cycle, nullSeen := false
          sequence := headerSequence h2, age := 0 }⟩)) ∧
  (∀ (l : Lane) (heard : List Heard) (w : Window) (s : State),
    let v := laneView s w l heard
    let started := heard.filter fun h => decide (w.entry.start ≤ h.start) && decide (h.start < w.ends) &&
      decide ((s.rx.get l).busy + (w.ends - h.start) ≤ s.now)
    let silences := fun (h : Heard) => ∀ start arrival m, h = .message start arrival m →
      w.ends ≤ arrival + 2 ∨ ∃ k, m.age = some k ∧ k < 2
    (w.delivering.has l = false → v.considered = false ∧ v.outcome = .notUsed) ∧
    (w.delivering.has l = true → v.considered = ((s.lanes.get l).state == .active) ∧
      ((∀ h ∈ started, silences h) → v.outcome = .silent ∧ v.facts = ⟨none, none, none, []⟩) ∧
      (∀ before start arrival m after, started = before ++ .message start arrival m :: after →
        (∀ h ∈ before, silences h) → arrival + 2 < w.ends → (∀ k, m.age = some k → 2 ≤ k) →
        let x := m.upTo (w.ends - arrival)
        let late := arrival + s.cfg.tol < w.entry.start + 4 ∨ w.entry.start + 4 + s.cfg.tol < arrival ∨
          ∀ k, m.age = some k → w.ends < arrival + k
        let wrong := m.ending ≠ .delimiter ∨ m.checkRight = false
        let finished := arrival + 16 + 4 * m.length
        let ended := if m.ending = .delimiter ∧ finished ≤ w.ends then some finished else none
        (late → v.outcome = .timing ∧ v.facts = ⟨some arrival, ended, x.header, []⟩) ∧
        (¬late → wrong → v.outcome = .check ∧ v.facts = ⟨some arrival, ended, none, []⟩) ∧
        (∀ h1 h2 k, ¬late → ¬wrong → m.header = some (h1, h2) → w.entry.maxWords = some k →
          let misformed := headerKind h1 = 1 ∨ headerKind h1 = 0 ∨ headerSpare h1 ≠ 0 ∨ headerSender h1 = 0 ∨
            headerSlot h2 ≠ w.entry.slot ∨ k < headerLength h1 ∨
            (headerKind h1 = 3 ∧ headerLength h1 ≠ 0) ∨ headerCycle h2 ≠ w.cycle
          let stranger := ∃ i, w.entry.sender = some (.node i) ∧ headerSender h1 ≠ i
          (misformed → v.outcome = .format) ∧
          (¬misformed → stranger → v.outcome = .sender) ∧
          (¬misformed → ¬stranger → headerKind h1 = 3 → v.outcome = .null) ∧
          (¬misformed → ¬stranger → headerKind h1 = 2 → v.outcome = .good) ∧
          v.facts = ⟨some arrival, ended, some (h1, h2), if v.outcome = .good then m.payload else []⟩))))

/-- R87, R88: the combined outcome by the table, row for row: its kind, the GOOD lanes, the disagree flag and the source
lane; and the error set of a FAULTY outcome, over the considered lanes. -/
def Obligations.CombinationFollowsTheTable : Prop :=
  ∀ (preferred : Lane) (v : PerLane LaneView),
    let c := combine preferred v
    let good := fun l => (v.get l).considered = true ∧ (v.get l).outcome = .good
    let null := fun l => (v.get l).considered = true ∧ (v.get l).outcome = .null
    (good .A → good .B → c.kind = .received ∧ c.good = LaneSet.both ∧ c.source = some preferred ∧
      (c.disagree = false ↔ v.a.facts.header = v.b.facts.header ∧ v.a.facts.payload = v.b.facts.payload)) ∧
    (∀ l, good l → ¬good l.other → c.kind = .received ∧ c.good = LaneSet.single l ∧ c.source = some l ∧
      (c.disagree = true ↔ null l.other)) ∧
    (¬good .A → ¬good .B → c.good = LaneSet.none ∧ c.disagree = false ∧
      (null .A → null .B → c.kind = .nullHeard ∧ c.source = some preferred) ∧
      (∀ l, null l → ¬null l.other → c.kind = .nullHeard ∧ c.source = some l) ∧
      (¬null .A → ¬null .B → c.source = none ∧
        ((∀ l, (v.get l).considered = true → (v.get l).outcome = .silent) → c.kind = .missing) ∧
        (∀ l, (v.get l).considered = true → (v.get l).outcome ≠ .silent → c.kind = .faulty ∧
          errorSet v &&& 0xF0 = 0 ∧
          ((errorSet v).getLsbD 0 = true ↔ ∃ l, (v.get l).considered = true ∧ (v.get l).outcome = .timing) ∧
          ((errorSet v).getLsbD 1 = true ↔ ∃ l, (v.get l).considered = true ∧ (v.get l).outcome = .check) ∧
          ((errorSet v).getLsbD 2 = true ↔ ∃ l, (v.get l).considered = true ∧ (v.get l).outcome = .format) ∧
          ((errorSet v).getLsbD 3 = true ↔ ∃ l, (v.get l).considered = true ∧ (v.get l).outcome = .sender))))

/-- R8, R16, R26, R59, R91, R94, R115: a launch ends: TXEN is released and each lane still on the air is graded by its echo,
which is ECHO_OK exactly when the start delimiter, every word as sent and the end delimiter were heard with no carrier lost
between; a lane that was not in the launch, or was cut, has no echo outcome. A SEND launch files SENT when logged, a sporadic one removes its entry and files SPORADIC_SENT, a beacon files nothing. The
receivers of those lanes take messages again from that moment on. -/
def Obligations.LaunchesEnd : Prop :=
  ∀ (a b : Echo) (x : Launch) (s : State), s.launch = some x → reaches s x.ends = true → s.resetting = none →
    s.link.intake = [] → TenGroups s →
    let sent := x.header1 :: x.header2 :: x.payload
    let echo := fun (l : Lane) (e : Echo) =>
      if x.lanes.has l = true ∧ x.cut.has l = false then
        if e.startDelimiter = true ∧ e.words = sent ++ [busCheck sent] ∧ e.endDelimiter = true ∧ e.carrierLost = false then
          Outcome.echoOk
        else .echoFault
      else .notUsed
    let o : PerLane Outcome := ⟨echo .A a, echo .B b⟩
    let lanes : PerLane LaneUnit :=
      ⟨s.lanes.a.afterEcho s.cfg.debitLimit o.a, s.lanes.b.afterEcho s.cfg.debitLimit o.b⟩
    let p := passTo x.ends s
    let rx := s.rx.on x.onAir (Receiver.resume p.now)
    let notices := fun position =>
      s.lanes.a.echoNotices .A s.cfg.debitLimit o.a x.kind position s.tb.cycle x.cycle ++
        s.lanes.b.echoNotices .B s.cfg.debitLimit o.b x.kind position s.tb.cycle x.cycle
    (x.kind = .beacon → s.sched.window = none → ∃ t, exec (.beaconLaunchEnd a b) s = .next t ∧
      Raised (notices none) s t ∧ Effect { p with launch := none, lanes := lanes, rx := rx } t) ∧
    (∀ w u, x.kind = .send → s.sched.window = some w → w.role = .send u .inProgress →
      let r : Record :=
        { kind := .sent, number := 0, cycle := w.cycle, slot := w.entry.slot, position := some w.position
          outcomes := o, sender := some s.cfg.nodeId, words := some x.payload.length, arrival := some (x.start + 4)
          endOffset := some x.ends
          detail := (byte (headerKind x.header1), (headerSequence x.header2).setWidth 8)
          disagree := false, probation := false }
      ∃ t, exec (.sendLaunchEnd a b) s = .next t ∧
        Raised (notices (some w.position) ++ (if w.entry.log then s.recs.filingNotices s.tb.cycle r else [])) s t ∧
        Effect { p with
          launch := none, lanes := lanes, rx := rx
          sched := { s.sched with window := some { w with role := .send u .ended } }
          recs := if w.entry.log then s.recs.filed r else s.recs } t) ∧
    (∀ w u e before after, x.kind = .sporadic → s.sched.window = some w → w.role = .openSlot u .inProgress →
      s.spor.entries = before ++ e :: after → e.onAir = true → (∀ y ∈ before ++ after, y.onAir = false) →
      (s.spor.entries.map SporadicEntry.ticket).Nodup →
      let low := lowByte (BitVec.ofNat 16 e.ticket)
      let high := highByte (BitVec.ofNat 16 e.ticket)
      let r : Record :=
        { kind := .sporadicSent, number := 0, cycle := w.cycle, slot := w.entry.slot, position := some w.position
          outcomes := o, sender := some s.cfg.nodeId, words := some x.payload.length, arrival := some (x.start + 4)
          endOffset := some x.ends, detail := (low, high), disagree := false, probation := false }
      ∃ t, exec (.sporadicLaunchEnd a b) s = .next t ∧
        Raised (notices (some w.position) ++ s.recs.filingNotices s.tb.cycle r ++
          [⟨.sent, s.tb.cycle, ⟨low, high, byte w.entry.slot, cycleByte w.cycle⟩⟩] ++
          (if before ++ after = [] then [⟨.queueEmpty, s.tb.cycle, ⟨low, high, 1, cycleByte w.cycle⟩⟩] else [])) s t ∧
        Effect { p with
          launch := none, lanes := lanes, rx := rx
          sched := { s.sched with window := some { w with role := .openSlot u .ended } }
          spor := { s.spor with entries := before ++ after }
          recs := s.recs.filed r } t)

/-! ### Invariants that every step keeps -/

/-- R172, R179, R183: no step makes frames and reservations more than 8, NOTIFY and STARTUP frames more than 2, or requests
waiting more than 4; deliveries and the parser stay sound. -/
def Obligations.LinkStaysSound : Prop :=
  ∀ s t : State, Inv s → step s = .next t →
    LinkSound t.link ∧ DeliverySound t.link ∧ FramesSound t.link ∧ ParserSound t.link.parser ∧ DeferredSound t

/-- R17, R20, R21, R154: every step keeps the timebase sound: offsets within the cycle, lengths within the correction limit,
roles and counts as the sync state says, the moments of the clock in their order; and the parameters in their ranges. -/
def Obligations.TimebaseStaysSound : Prop :=
  ∀ s t : State, Inv s → step s = .next t → ParamsSound t.cfg ∧ StillSound t ∧ CycleSound t ∧ ClockSound t ∧ SyncSound t

/-- R40, R43: in every state that steps reach, the ACTIVE table satisfies every validation rule against the current
configuration and buffer kinds, and both banks hold entries in their ranges. -/
def Obligations.TablesStayValid : Prop :=
  ∀ s t : State, Inv s → step s = .next t → TableSound t ∧ BankSound t.sched.active ∧ BankSound t.sched.edit

/-- R8, R10, R21, R55, R84, R113: every step keeps the open window, the launch in progress, the entry on the air, the
receivers and the lane units sound; so nothing is sent but in LOCKED or HOLDOVER and on ACTIVE lanes. -/
def Obligations.BusSideStaysSound : Prop :=
  ∀ s t : State, Inv s → step s = .next t →
    WindowSound t ∧ LaunchSound t ∧ OnAirSound t ∧ ReceiverSound t.now t.rx.a ∧ ReceiverSound t.now t.rx.b ∧
      LaneSound t.cfg.debitLimit t.lanes.a ∧ LaneSound t.cfg.debitLimit t.lanes.b

/-- R65, R66, R108, R109: every step keeps the 48 buffers and the sporadic queue sound: no two entries share a ticket or a
buffer, and each holds a SPORADIC buffer. -/
def Obligations.BuffersAndPostsStaySound : Prop :=
  ∀ s t : State, Inv s → step s = .next t → BuffersSound t ∧ SporadicSound t

/-- R124, R126, R129, R138: every step keeps the record queue's numbers unbroken and its counts in range, and each
notification group's accumulation exactly where its delivery state says. -/
def Obligations.RecordsAndGroupsStaySound : Prop :=
  ∀ s t : State, Inv s → step s = .next t → RecordsSound t.recs ∧ GroupsSound t.notif

/-- R144, R180: after every step neither the request handler nor the arbiter has anything left that it can do. R163, R165:
while a reset is in force after a step, every block stands at its reset values. With the six statements before it, every step
gives the whole invariant back. -/
def Obligations.StepsStaySettledAndHeld : Prop :=
  ∀ s t : State, Inv s → step s = .next t → Settled t ∧ ResetSound t
end

