-- ==== Sys2Proof/Laws/State.lean ====
section
/-! SUPPORT. One lemma for each field of State under each plain update, so that no proof unfolds a record update. -/
namespace Sys2Proof.Machine

/-! ### setTimebase -/

@[simp] theorem setTimebase_cfg (x : Timebase) (s : State) :
    (setTimebase x s).cfg = s.cfg := rfl
@[simp] theorem setTimebase_tb (x : Timebase) (s : State) :
    (setTimebase x s).tb = x := rfl
@[simp] theorem setTimebase_sched (x : Timebase) (s : State) :
    (setTimebase x s).sched = s.sched := rfl
@[simp] theorem setTimebase_lanes (x : Timebase) (s : State) :
    (setTimebase x s).lanes = s.lanes := rfl
@[simp] theorem setTimebase_launch (x : Timebase) (s : State) :
    (setTimebase x s).launch = s.launch := rfl
@[simp] theorem setTimebase_rx (x : Timebase) (s : State) :
    (setTimebase x s).rx = s.rx := rfl
@[simp] theorem setTimebase_bufs (x : Timebase) (s : State) :
    (setTimebase x s).bufs = s.bufs := rfl
@[simp] theorem setTimebase_spor (x : Timebase) (s : State) :
    (setTimebase x s).spor = s.spor := rfl
@[simp] theorem setTimebase_recs (x : Timebase) (s : State) :
    (setTimebase x s).recs = s.recs := rfl
@[simp] theorem setTimebase_notif (x : Timebase) (s : State) :
    (setTimebase x s).notif = s.notif := rfl
@[simp] theorem setTimebase_link (x : Timebase) (s : State) :
    (setTimebase x s).link = s.link := rfl
@[simp] theorem setTimebase_resetting (x : Timebase) (s : State) :
    (setTimebase x s).resetting = s.resetting := rfl
@[simp] theorem setTimebase_now (x : Timebase) (s : State) :
    (setTimebase x s).now = s.now := rfl
@[simp] theorem setTimebase_races (x : Timebase) (s : State) :
    (setTimebase x s).races = s.races := rfl
@[simp] theorem setTimebase_pending (x : Timebase) (s : State) :
    (setTimebase x s).pending = s.pending := rfl

/-! ### setBuffer -/

@[simp] theorem setBuffer_cfg (n : Nat) (x : Buffer) (s : State) :
    (setBuffer n x s).cfg = s.cfg := rfl
@[simp] theorem setBuffer_tb (n : Nat) (x : Buffer) (s : State) :
    (setBuffer n x s).tb = s.tb := rfl
@[simp] theorem setBuffer_sched (n : Nat) (x : Buffer) (s : State) :
    (setBuffer n x s).sched = s.sched := rfl
@[simp] theorem setBuffer_lanes (n : Nat) (x : Buffer) (s : State) :
    (setBuffer n x s).lanes = s.lanes := rfl
@[simp] theorem setBuffer_launch (n : Nat) (x : Buffer) (s : State) :
    (setBuffer n x s).launch = s.launch := rfl
@[simp] theorem setBuffer_rx (n : Nat) (x : Buffer) (s : State) :
    (setBuffer n x s).rx = s.rx := rfl
@[simp] theorem setBuffer_bufs (n : Nat) (x : Buffer) (s : State) :
    (setBuffer n x s).bufs = s.bufs.set n x := rfl
@[simp] theorem setBuffer_spor (n : Nat) (x : Buffer) (s : State) :
    (setBuffer n x s).spor = s.spor := rfl
@[simp] theorem setBuffer_recs (n : Nat) (x : Buffer) (s : State) :
    (setBuffer n x s).recs = s.recs := rfl
@[simp] theorem setBuffer_notif (n : Nat) (x : Buffer) (s : State) :
    (setBuffer n x s).notif = s.notif := rfl
@[simp] theorem setBuffer_link (n : Nat) (x : Buffer) (s : State) :
    (setBuffer n x s).link = s.link := rfl
@[simp] theorem setBuffer_resetting (n : Nat) (x : Buffer) (s : State) :
    (setBuffer n x s).resetting = s.resetting := rfl
@[simp] theorem setBuffer_now (n : Nat) (x : Buffer) (s : State) :
    (setBuffer n x s).now = s.now := rfl
@[simp] theorem setBuffer_races (n : Nat) (x : Buffer) (s : State) :
    (setBuffer n x s).races = s.races := rfl
@[simp] theorem setBuffer_pending (n : Nat) (x : Buffer) (s : State) :
    (setBuffer n x s).pending = s.pending := rfl

/-! ### setEdit -/

@[simp] theorem setEdit_cfg (x : Bank) (s : State) :
    (setEdit x s).cfg = s.cfg := rfl
@[simp] theorem setEdit_tb (x : Bank) (s : State) :
    (setEdit x s).tb = s.tb := rfl
@[simp] theorem setEdit_sched (x : Bank) (s : State) :
    (setEdit x s).sched = { s.sched with edit := x } := rfl
@[simp] theorem setEdit_lanes (x : Bank) (s : State) :
    (setEdit x s).lanes = s.lanes := rfl
@[simp] theorem setEdit_launch (x : Bank) (s : State) :
    (setEdit x s).launch = s.launch := rfl
@[simp] theorem setEdit_rx (x : Bank) (s : State) :
    (setEdit x s).rx = s.rx := rfl
@[simp] theorem setEdit_bufs (x : Bank) (s : State) :
    (setEdit x s).bufs = s.bufs := rfl
@[simp] theorem setEdit_spor (x : Bank) (s : State) :
    (setEdit x s).spor = s.spor := rfl
@[simp] theorem setEdit_recs (x : Bank) (s : State) :
    (setEdit x s).recs = s.recs := rfl
@[simp] theorem setEdit_notif (x : Bank) (s : State) :
    (setEdit x s).notif = s.notif := rfl
@[simp] theorem setEdit_link (x : Bank) (s : State) :
    (setEdit x s).link = s.link := rfl
@[simp] theorem setEdit_resetting (x : Bank) (s : State) :
    (setEdit x s).resetting = s.resetting := rfl
@[simp] theorem setEdit_now (x : Bank) (s : State) :
    (setEdit x s).now = s.now := rfl
@[simp] theorem setEdit_races (x : Bank) (s : State) :
    (setEdit x s).races = s.races := rfl
@[simp] theorem setEdit_pending (x : Bank) (s : State) :
    (setEdit x s).pending = s.pending := rfl

/-! ### setGroup -/

@[simp] theorem setGroup_cfg (i : Nat) (x : Group) (s : State) :
    (setGroup i x s).cfg = s.cfg := rfl
@[simp] theorem setGroup_tb (i : Nat) (x : Group) (s : State) :
    (setGroup i x s).tb = s.tb := rfl
@[simp] theorem setGroup_sched (i : Nat) (x : Group) (s : State) :
    (setGroup i x s).sched = s.sched := rfl
@[simp] theorem setGroup_lanes (i : Nat) (x : Group) (s : State) :
    (setGroup i x s).lanes = s.lanes := rfl
@[simp] theorem setGroup_launch (i : Nat) (x : Group) (s : State) :
    (setGroup i x s).launch = s.launch := rfl
@[simp] theorem setGroup_rx (i : Nat) (x : Group) (s : State) :
    (setGroup i x s).rx = s.rx := rfl
@[simp] theorem setGroup_bufs (i : Nat) (x : Group) (s : State) :
    (setGroup i x s).bufs = s.bufs := rfl
@[simp] theorem setGroup_spor (i : Nat) (x : Group) (s : State) :
    (setGroup i x s).spor = s.spor := rfl
@[simp] theorem setGroup_recs (i : Nat) (x : Group) (s : State) :
    (setGroup i x s).recs = s.recs := rfl
@[simp] theorem setGroup_notif (i : Nat) (x : Group) (s : State) :
    (setGroup i x s).notif = { s.notif with groups := s.notif.groups.set i x } := rfl
@[simp] theorem setGroup_link (i : Nat) (x : Group) (s : State) :
    (setGroup i x s).link = s.link := rfl
@[simp] theorem setGroup_resetting (i : Nat) (x : Group) (s : State) :
    (setGroup i x s).resetting = s.resetting := rfl
@[simp] theorem setGroup_now (i : Nat) (x : Group) (s : State) :
    (setGroup i x s).now = s.now := rfl
@[simp] theorem setGroup_races (i : Nat) (x : Group) (s : State) :
    (setGroup i x s).races = s.races := rfl
@[simp] theorem setGroup_pending (i : Nat) (x : Group) (s : State) :
    (setGroup i x s).pending = s.pending := rfl

/-! ### setParser -/

@[simp] theorem setParser_cfg (x : Parser) (s : State) :
    (setParser x s).cfg = s.cfg := rfl
@[simp] theorem setParser_tb (x : Parser) (s : State) :
    (setParser x s).tb = s.tb := rfl
@[simp] theorem setParser_sched (x : Parser) (s : State) :
    (setParser x s).sched = s.sched := rfl
@[simp] theorem setParser_lanes (x : Parser) (s : State) :
    (setParser x s).lanes = s.lanes := rfl
@[simp] theorem setParser_launch (x : Parser) (s : State) :
    (setParser x s).launch = s.launch := rfl
@[simp] theorem setParser_rx (x : Parser) (s : State) :
    (setParser x s).rx = s.rx := rfl
@[simp] theorem setParser_bufs (x : Parser) (s : State) :
    (setParser x s).bufs = s.bufs := rfl
@[simp] theorem setParser_spor (x : Parser) (s : State) :
    (setParser x s).spor = s.spor := rfl
@[simp] theorem setParser_recs (x : Parser) (s : State) :
    (setParser x s).recs = s.recs := rfl
@[simp] theorem setParser_notif (x : Parser) (s : State) :
    (setParser x s).notif = s.notif := rfl
@[simp] theorem setParser_link (x : Parser) (s : State) :
    (setParser x s).link = { s.link with parser := x } := rfl
@[simp] theorem setParser_resetting (x : Parser) (s : State) :
    (setParser x s).resetting = s.resetting := rfl
@[simp] theorem setParser_now (x : Parser) (s : State) :
    (setParser x s).now = s.now := rfl
@[simp] theorem setParser_races (x : Parser) (s : State) :
    (setParser x s).races = s.races := rfl
@[simp] theorem setParser_pending (x : Parser) (s : State) :
    (setParser x s).pending = s.pending := rfl

/-! ### setDebit -/

@[simp] theorem setDebit_cfg (l : Lane) (d : Nat) (s : State) :
    (setDebit l d s).cfg = s.cfg := rfl
@[simp] theorem setDebit_tb (l : Lane) (d : Nat) (s : State) :
    (setDebit l d s).tb = s.tb := rfl
@[simp] theorem setDebit_sched (l : Lane) (d : Nat) (s : State) :
    (setDebit l d s).sched = s.sched := rfl
@[simp] theorem setDebit_lanes (l : Lane) (d : Nat) (s : State) :
    (setDebit l d s).lanes = s.lanes.set l { s.lanes.get l with debit := d } := rfl
@[simp] theorem setDebit_launch (l : Lane) (d : Nat) (s : State) :
    (setDebit l d s).launch = s.launch := rfl
@[simp] theorem setDebit_rx (l : Lane) (d : Nat) (s : State) :
    (setDebit l d s).rx = s.rx := rfl
@[simp] theorem setDebit_bufs (l : Lane) (d : Nat) (s : State) :
    (setDebit l d s).bufs = s.bufs := rfl
@[simp] theorem setDebit_spor (l : Lane) (d : Nat) (s : State) :
    (setDebit l d s).spor = s.spor := rfl
@[simp] theorem setDebit_recs (l : Lane) (d : Nat) (s : State) :
    (setDebit l d s).recs = s.recs := rfl
@[simp] theorem setDebit_notif (l : Lane) (d : Nat) (s : State) :
    (setDebit l d s).notif = s.notif := rfl
@[simp] theorem setDebit_link (l : Lane) (d : Nat) (s : State) :
    (setDebit l d s).link = s.link := rfl
@[simp] theorem setDebit_resetting (l : Lane) (d : Nat) (s : State) :
    (setDebit l d s).resetting = s.resetting := rfl
@[simp] theorem setDebit_now (l : Lane) (d : Nat) (s : State) :
    (setDebit l d s).now = s.now := rfl
@[simp] theorem setDebit_races (l : Lane) (d : Nat) (s : State) :
    (setDebit l d s).races = s.races := rfl
@[simp] theorem setDebit_pending (l : Lane) (d : Nat) (s : State) :
    (setDebit l d s).pending = s.pending := rfl

/-! ### countRace -/

@[simp] theorem countRace_cfg (s : State) :
    (countRace s).cfg = s.cfg := rfl
@[simp] theorem countRace_tb (s : State) :
    (countRace s).tb = s.tb := rfl
@[simp] theorem countRace_sched (s : State) :
    (countRace s).sched = s.sched := rfl
@[simp] theorem countRace_lanes (s : State) :
    (countRace s).lanes = s.lanes := rfl
@[simp] theorem countRace_launch (s : State) :
    (countRace s).launch = s.launch := rfl
@[simp] theorem countRace_rx (s : State) :
    (countRace s).rx = s.rx := rfl
@[simp] theorem countRace_bufs (s : State) :
    (countRace s).bufs = s.bufs := rfl
@[simp] theorem countRace_spor (s : State) :
    (countRace s).spor = s.spor := rfl
@[simp] theorem countRace_recs (s : State) :
    (countRace s).recs = s.recs := rfl
@[simp] theorem countRace_notif (s : State) :
    (countRace s).notif = s.notif := rfl
@[simp] theorem countRace_link (s : State) :
    (countRace s).link = s.link := rfl
@[simp] theorem countRace_resetting (s : State) :
    (countRace s).resetting = s.resetting := rfl
@[simp] theorem countRace_now (s : State) :
    (countRace s).now = s.now := rfl
@[simp] theorem countRace_races (s : State) :
    (countRace s).races = s.races + 1 := rfl
@[simp] theorem countRace_pending (s : State) :
    (countRace s).pending = s.pending := rfl

/-! ### beginLaunch -/

@[simp] theorem beginLaunch_cfg (x : Launch) (s : State) :
    (beginLaunch x s).cfg = s.cfg := rfl
@[simp] theorem beginLaunch_tb (x : Launch) (s : State) :
    (beginLaunch x s).tb = s.tb := rfl
@[simp] theorem beginLaunch_sched (x : Launch) (s : State) :
    (beginLaunch x s).sched = s.sched := rfl
@[simp] theorem beginLaunch_lanes (x : Launch) (s : State) :
    (beginLaunch x s).lanes = s.lanes := rfl
@[simp] theorem beginLaunch_launch (x : Launch) (s : State) :
    (beginLaunch x s).launch = some x := rfl
@[simp] theorem beginLaunch_rx (x : Launch) (s : State) :
    (beginLaunch x s).rx = s.rx.on x.lanes (Receiver.abandon s.now) := rfl
@[simp] theorem beginLaunch_bufs (x : Launch) (s : State) :
    (beginLaunch x s).bufs = s.bufs := rfl
@[simp] theorem beginLaunch_spor (x : Launch) (s : State) :
    (beginLaunch x s).spor = s.spor := rfl
@[simp] theorem beginLaunch_recs (x : Launch) (s : State) :
    (beginLaunch x s).recs = s.recs := rfl
@[simp] theorem beginLaunch_notif (x : Launch) (s : State) :
    (beginLaunch x s).notif = s.notif := rfl
@[simp] theorem beginLaunch_link (x : Launch) (s : State) :
    (beginLaunch x s).link = s.link := rfl
@[simp] theorem beginLaunch_resetting (x : Launch) (s : State) :
    (beginLaunch x s).resetting = s.resetting := rfl
@[simp] theorem beginLaunch_now (x : Launch) (s : State) :
    (beginLaunch x s).now = s.now := rfl
@[simp] theorem beginLaunch_races (x : Launch) (s : State) :
    (beginLaunch x s).races = s.races := rfl
@[simp] theorem beginLaunch_pending (x : Launch) (s : State) :
    (beginLaunch x s).pending = s.pending := rfl

/-! ### openWindow -/

@[simp] theorem openWindow_cfg (p : Nat) (e : Entry) (r : WindowRole) (s : State) :
    (openWindow p e r s).cfg = s.cfg := rfl
@[simp] theorem openWindow_tb (p : Nat) (e : Entry) (r : WindowRole) (s : State) :
    (openWindow p e r s).tb = s.tb := rfl
@[simp] theorem openWindow_sched (p : Nat) (e : Entry) (r : WindowRole) (s : State) :
    (openWindow p e r s).sched = { s.sched with window := some ⟨p, e, s.tb.cycle, r⟩ } := rfl
@[simp] theorem openWindow_lanes (p : Nat) (e : Entry) (r : WindowRole) (s : State) :
    (openWindow p e r s).lanes = s.lanes := rfl
@[simp] theorem openWindow_launch (p : Nat) (e : Entry) (r : WindowRole) (s : State) :
    (openWindow p e r s).launch = s.launch := rfl
@[simp] theorem openWindow_rx (p : Nat) (e : Entry) (r : WindowRole) (s : State) :
    (openWindow p e r s).rx = windowReceivers s := rfl
@[simp] theorem openWindow_bufs (p : Nat) (e : Entry) (r : WindowRole) (s : State) :
    (openWindow p e r s).bufs = s.bufs := rfl
@[simp] theorem openWindow_spor (p : Nat) (e : Entry) (r : WindowRole) (s : State) :
    (openWindow p e r s).spor = s.spor := rfl
@[simp] theorem openWindow_recs (p : Nat) (e : Entry) (r : WindowRole) (s : State) :
    (openWindow p e r s).recs = s.recs := rfl
@[simp] theorem openWindow_notif (p : Nat) (e : Entry) (r : WindowRole) (s : State) :
    (openWindow p e r s).notif = s.notif := rfl
@[simp] theorem openWindow_link (p : Nat) (e : Entry) (r : WindowRole) (s : State) :
    (openWindow p e r s).link = s.link := rfl
@[simp] theorem openWindow_resetting (p : Nat) (e : Entry) (r : WindowRole) (s : State) :
    (openWindow p e r s).resetting = s.resetting := rfl
@[simp] theorem openWindow_now (p : Nat) (e : Entry) (r : WindowRole) (s : State) :
    (openWindow p e r s).now = s.now := rfl
@[simp] theorem openWindow_races (p : Nat) (e : Entry) (r : WindowRole) (s : State) :
    (openWindow p e r s).races = s.races := rfl
@[simp] theorem openWindow_pending (p : Nat) (e : Entry) (r : WindowRole) (s : State) :
    (openWindow p e r s).pending = s.pending := rfl

/-! ### abandonWindow -/

@[simp] theorem abandonWindow_cfg (s : State) :
    (abandonWindow s).cfg = s.cfg := rfl
@[simp] theorem abandonWindow_tb (s : State) :
    (abandonWindow s).tb = s.tb := rfl
@[simp] theorem abandonWindow_sched (s : State) :
    (abandonWindow s).sched = { s.sched with window := none } := rfl
@[simp] theorem abandonWindow_lanes (s : State) :
    (abandonWindow s).lanes = s.lanes := rfl
@[simp] theorem abandonWindow_launch (s : State) :
    (abandonWindow s).launch = s.launch := rfl
@[simp] theorem abandonWindow_rx (s : State) :
    (abandonWindow s).rx = windowReceivers s := rfl
@[simp] theorem abandonWindow_bufs (s : State) :
    (abandonWindow s).bufs = s.bufs := rfl
@[simp] theorem abandonWindow_spor (s : State) :
    (abandonWindow s).spor = s.spor := rfl
@[simp] theorem abandonWindow_recs (s : State) :
    (abandonWindow s).recs = s.recs := rfl
@[simp] theorem abandonWindow_notif (s : State) :
    (abandonWindow s).notif = s.notif := rfl
@[simp] theorem abandonWindow_link (s : State) :
    (abandonWindow s).link = s.link := rfl
@[simp] theorem abandonWindow_resetting (s : State) :
    (abandonWindow s).resetting = s.resetting := rfl
@[simp] theorem abandonWindow_now (s : State) :
    (abandonWindow s).now = s.now := rfl
@[simp] theorem abandonWindow_races (s : State) :
    (abandonWindow s).races = s.races := rfl
@[simp] theorem abandonWindow_pending (s : State) :
    (abandonWindow s).pending = s.pending := rfl

/-! ### copyEdit -/

@[simp] theorem copyEdit_cfg (s : State) :
    (copyEdit s).cfg = s.cfg := rfl
@[simp] theorem copyEdit_tb (s : State) :
    (copyEdit s).tb = s.tb := rfl
@[simp] theorem copyEdit_sched (s : State) :
    (copyEdit s).sched = { s.sched with active := s.sched.edit, commitPending := false } := rfl
@[simp] theorem copyEdit_lanes (s : State) :
    (copyEdit s).lanes = s.lanes := rfl
@[simp] theorem copyEdit_launch (s : State) :
    (copyEdit s).launch = s.launch := rfl
@[simp] theorem copyEdit_rx (s : State) :
    (copyEdit s).rx = s.rx := rfl
@[simp] theorem copyEdit_bufs (s : State) :
    (copyEdit s).bufs = s.bufs := rfl
@[simp] theorem copyEdit_spor (s : State) :
    (copyEdit s).spor = s.spor := rfl
@[simp] theorem copyEdit_recs (s : State) :
    (copyEdit s).recs = s.recs := rfl
@[simp] theorem copyEdit_notif (s : State) :
    (copyEdit s).notif = s.notif := rfl
@[simp] theorem copyEdit_link (s : State) :
    (copyEdit s).link = s.link := rfl
@[simp] theorem copyEdit_resetting (s : State) :
    (copyEdit s).resetting = s.resetting := rfl
@[simp] theorem copyEdit_now (s : State) :
    (copyEdit s).now = s.now := rfl
@[simp] theorem copyEdit_races (s : State) :
    (copyEdit s).races = s.races := rfl
@[simp] theorem copyEdit_pending (s : State) :
    (copyEdit s).pending = s.pending := rfl

/-! ### removeTicket -/

@[simp] theorem removeTicket_cfg (x : Nat) (s : State) :
    (removeTicket x s).cfg = s.cfg := rfl
@[simp] theorem removeTicket_tb (x : Nat) (s : State) :
    (removeTicket x s).tb = s.tb := rfl
@[simp] theorem removeTicket_sched (x : Nat) (s : State) :
    (removeTicket x s).sched = s.sched := rfl
@[simp] theorem removeTicket_lanes (x : Nat) (s : State) :
    (removeTicket x s).lanes = s.lanes := rfl
@[simp] theorem removeTicket_launch (x : Nat) (s : State) :
    (removeTicket x s).launch = s.launch := rfl
@[simp] theorem removeTicket_rx (x : Nat) (s : State) :
    (removeTicket x s).rx = s.rx := rfl
@[simp] theorem removeTicket_bufs (x : Nat) (s : State) :
    (removeTicket x s).bufs = s.bufs := rfl
@[simp] theorem removeTicket_spor (x : Nat) (s : State) :
    (removeTicket x s).spor = { s.spor with entries := s.spor.entries.filter fun e => e.ticket != x } := rfl
@[simp] theorem removeTicket_recs (x : Nat) (s : State) :
    (removeTicket x s).recs = s.recs := rfl
@[simp] theorem removeTicket_notif (x : Nat) (s : State) :
    (removeTicket x s).notif = s.notif := rfl
@[simp] theorem removeTicket_link (x : Nat) (s : State) :
    (removeTicket x s).link = s.link := rfl
@[simp] theorem removeTicket_resetting (x : Nat) (s : State) :
    (removeTicket x s).resetting = s.resetting := rfl
@[simp] theorem removeTicket_now (x : Nat) (s : State) :
    (removeTicket x s).now = s.now := rfl
@[simp] theorem removeTicket_races (x : Nat) (s : State) :
    (removeTicket x s).races = s.races := rfl
@[simp] theorem removeTicket_pending (x : Nat) (s : State) :
    (removeTicket x s).pending = s.pending := rfl

/-! ### dropRecords -/

@[simp] theorem dropRecords_cfg (k : Nat) (s : State) :
    (dropRecords k s).cfg = s.cfg := rfl
@[simp] theorem dropRecords_tb (k : Nat) (s : State) :
    (dropRecords k s).tb = s.tb := rfl
@[simp] theorem dropRecords_sched (k : Nat) (s : State) :
    (dropRecords k s).sched = s.sched := rfl
@[simp] theorem dropRecords_lanes (k : Nat) (s : State) :
    (dropRecords k s).lanes = s.lanes := rfl
@[simp] theorem dropRecords_launch (k : Nat) (s : State) :
    (dropRecords k s).launch = s.launch := rfl
@[simp] theorem dropRecords_rx (k : Nat) (s : State) :
    (dropRecords k s).rx = s.rx := rfl
@[simp] theorem dropRecords_bufs (k : Nat) (s : State) :
    (dropRecords k s).bufs = s.bufs := rfl
@[simp] theorem dropRecords_spor (k : Nat) (s : State) :
    (dropRecords k s).spor = s.spor := rfl
@[simp] theorem dropRecords_recs (k : Nat) (s : State) :
    (dropRecords k s).recs = { s.recs with records := s.recs.records.drop k } := rfl
@[simp] theorem dropRecords_notif (k : Nat) (s : State) :
    (dropRecords k s).notif = s.notif := rfl
@[simp] theorem dropRecords_link (k : Nat) (s : State) :
    (dropRecords k s).link = s.link := rfl
@[simp] theorem dropRecords_resetting (k : Nat) (s : State) :
    (dropRecords k s).resetting = s.resetting := rfl
@[simp] theorem dropRecords_now (k : Nat) (s : State) :
    (dropRecords k s).now = s.now := rfl
@[simp] theorem dropRecords_races (k : Nat) (s : State) :
    (dropRecords k s).races = s.races := rfl
@[simp] theorem dropRecords_pending (k : Nat) (s : State) :
    (dropRecords k s).pending = s.pending := rfl

/-! ### passTo -/

@[simp] theorem passTo_cfg (m : Nat) (s : State) :
    (passTo m s).cfg = s.cfg := rfl
@[simp] theorem passTo_tb (m : Nat) (s : State) :
    (passTo m s).tb = { s.tb with offset := m, atCycleStart := s.tb.atCycleStart && decide (m = s.tb.offset) } := rfl
@[simp] theorem passTo_sched (m : Nat) (s : State) :
    (passTo m s).sched = s.sched := rfl
@[simp] theorem passTo_lanes (m : Nat) (s : State) :
    (passTo m s).lanes = s.lanes := rfl
@[simp] theorem passTo_launch (m : Nat) (s : State) :
    (passTo m s).launch = s.launch := rfl
@[simp] theorem passTo_rx (m : Nat) (s : State) :
    (passTo m s).rx = s.rx := rfl
@[simp] theorem passTo_bufs (m : Nat) (s : State) :
    (passTo m s).bufs = s.bufs := rfl
@[simp] theorem passTo_spor (m : Nat) (s : State) :
    (passTo m s).spor = s.spor := rfl
@[simp] theorem passTo_recs (m : Nat) (s : State) :
    (passTo m s).recs = s.recs := rfl
@[simp] theorem passTo_notif (m : Nat) (s : State) :
    (passTo m s).notif = s.notif := rfl
@[simp] theorem passTo_link (m : Nat) (s : State) :
    (passTo m s).link = s.link := rfl
@[simp] theorem passTo_resetting (m : Nat) (s : State) :
    (passTo m s).resetting = s.resetting := rfl
@[simp] theorem passTo_now (m : Nat) (s : State) :
    (passTo m s).now = s.now + (m - s.tb.offset) := rfl
@[simp] theorem passTo_races (m : Nat) (s : State) :
    (passTo m s).races = s.races := rfl
@[simp] theorem passTo_pending (m : Nat) (s : State) :
    (passTo m s).pending = s.pending := rfl

/-! ### answer -/

@[simp] theorem answer_cfg (tag : Byte) (r : Result) (p : List Byte) (s : State) :
    (answer tag r p s).cfg = s.cfg := rfl
@[simp] theorem answer_tb (tag : Byte) (r : Result) (p : List Byte) (s : State) :
    (answer tag r p s).tb = s.tb := rfl
@[simp] theorem answer_sched (tag : Byte) (r : Result) (p : List Byte) (s : State) :
    (answer tag r p s).sched = s.sched := rfl
@[simp] theorem answer_lanes (tag : Byte) (r : Result) (p : List Byte) (s : State) :
    (answer tag r p s).lanes = s.lanes := rfl
@[simp] theorem answer_launch (tag : Byte) (r : Result) (p : List Byte) (s : State) :
    (answer tag r p s).launch = s.launch := rfl
@[simp] theorem answer_rx (tag : Byte) (r : Result) (p : List Byte) (s : State) :
    (answer tag r p s).rx = s.rx := rfl
@[simp] theorem answer_bufs (tag : Byte) (r : Result) (p : List Byte) (s : State) :
    (answer tag r p s).bufs = s.bufs := rfl
@[simp] theorem answer_spor (tag : Byte) (r : Result) (p : List Byte) (s : State) :
    (answer tag r p s).spor = s.spor := rfl
@[simp] theorem answer_recs (tag : Byte) (r : Result) (p : List Byte) (s : State) :
    (answer tag r p s).recs = s.recs := rfl
@[simp] theorem answer_notif (tag : Byte) (r : Result) (p : List Byte) (s : State) :
    (answer tag r p s).notif = s.notif := rfl
@[simp] theorem answer_link (tag : Byte) (r : Result) (p : List Byte) (s : State) :
    (answer tag r p s).link = { s.link with
      outbound := s.link.outbound ++ [responseFrame tag r p], reservations := s.link.reservations - 1 } := rfl
@[simp] theorem answer_resetting (tag : Byte) (r : Result) (p : List Byte) (s : State) :
    (answer tag r p s).resetting = s.resetting := rfl
@[simp] theorem answer_now (tag : Byte) (r : Result) (p : List Byte) (s : State) :
    (answer tag r p s).now = s.now := rfl
@[simp] theorem answer_races (tag : Byte) (r : Result) (p : List Byte) (s : State) :
    (answer tag r p s).races = s.races := rfl
@[simp] theorem answer_pending (tag : Byte) (r : Result) (p : List Byte) (s : State) :
    (answer tag r p s).pending = s.pending := rfl

/-! ### reserveFor -/

@[simp] theorem reserveFor_cfg (rest : List Request) (s : State) :
    (reserveFor rest s).cfg = s.cfg := rfl
@[simp] theorem reserveFor_tb (rest : List Request) (s : State) :
    (reserveFor rest s).tb = s.tb := rfl
@[simp] theorem reserveFor_sched (rest : List Request) (s : State) :
    (reserveFor rest s).sched = s.sched := rfl
@[simp] theorem reserveFor_lanes (rest : List Request) (s : State) :
    (reserveFor rest s).lanes = s.lanes := rfl
@[simp] theorem reserveFor_launch (rest : List Request) (s : State) :
    (reserveFor rest s).launch = s.launch := rfl
@[simp] theorem reserveFor_rx (rest : List Request) (s : State) :
    (reserveFor rest s).rx = s.rx := rfl
@[simp] theorem reserveFor_bufs (rest : List Request) (s : State) :
    (reserveFor rest s).bufs = s.bufs := rfl
@[simp] theorem reserveFor_spor (rest : List Request) (s : State) :
    (reserveFor rest s).spor = s.spor := rfl
@[simp] theorem reserveFor_recs (rest : List Request) (s : State) :
    (reserveFor rest s).recs = s.recs := rfl
@[simp] theorem reserveFor_notif (rest : List Request) (s : State) :
    (reserveFor rest s).notif = s.notif := rfl
@[simp] theorem reserveFor_link (rest : List Request) (s : State) :
    (reserveFor rest s).link = { s.link with intake := rest, reservations := s.link.reservations + 1 } := rfl
@[simp] theorem reserveFor_resetting (rest : List Request) (s : State) :
    (reserveFor rest s).resetting = s.resetting := rfl
@[simp] theorem reserveFor_now (rest : List Request) (s : State) :
    (reserveFor rest s).now = s.now := rfl
@[simp] theorem reserveFor_races (rest : List Request) (s : State) :
    (reserveFor rest s).races = s.races := rfl
@[simp] theorem reserveFor_pending (rest : List Request) (s : State) :
    (reserveFor rest s).pending = s.pending := rfl

/-! ### setLaunchState -/

@[simp] theorem setLaunchState_cfg (x : LaunchState) (s : State) :
    (setLaunchState x s).cfg = s.cfg := rfl
@[simp] theorem setLaunchState_tb (x : LaunchState) (s : State) :
    (setLaunchState x s).tb = s.tb := rfl
@[simp] theorem setLaunchState_sched (x : LaunchState) (s : State) :
    (setLaunchState x s).sched = { s.sched with
      window := s.sched.window.map fun w => { w with role := w.role.launched x } } := rfl
@[simp] theorem setLaunchState_lanes (x : LaunchState) (s : State) :
    (setLaunchState x s).lanes = s.lanes := rfl
@[simp] theorem setLaunchState_launch (x : LaunchState) (s : State) :
    (setLaunchState x s).launch = s.launch := rfl
@[simp] theorem setLaunchState_rx (x : LaunchState) (s : State) :
    (setLaunchState x s).rx = s.rx := rfl
@[simp] theorem setLaunchState_bufs (x : LaunchState) (s : State) :
    (setLaunchState x s).bufs = s.bufs := rfl
@[simp] theorem setLaunchState_spor (x : LaunchState) (s : State) :
    (setLaunchState x s).spor = s.spor := rfl
@[simp] theorem setLaunchState_recs (x : LaunchState) (s : State) :
    (setLaunchState x s).recs = s.recs := rfl
@[simp] theorem setLaunchState_notif (x : LaunchState) (s : State) :
    (setLaunchState x s).notif = s.notif := rfl
@[simp] theorem setLaunchState_link (x : LaunchState) (s : State) :
    (setLaunchState x s).link = s.link := rfl
@[simp] theorem setLaunchState_resetting (x : LaunchState) (s : State) :
    (setLaunchState x s).resetting = s.resetting := rfl
@[simp] theorem setLaunchState_now (x : LaunchState) (s : State) :
    (setLaunchState x s).now = s.now := rfl
@[simp] theorem setLaunchState_races (x : LaunchState) (s : State) :
    (setLaunchState x s).races = s.races := rfl
@[simp] theorem setLaunchState_pending (x : LaunchState) (s : State) :
    (setLaunchState x s).pending = s.pending := rfl

/-! ### receivers -/

@[simp] theorem receivers_cfg (x : LaneSet) (f : Receiver → Receiver) (s : State) :
    (receivers x f s).cfg = s.cfg := rfl
@[simp] theorem receivers_tb (x : LaneSet) (f : Receiver → Receiver) (s : State) :
    (receivers x f s).tb = s.tb := rfl
@[simp] theorem receivers_sched (x : LaneSet) (f : Receiver → Receiver) (s : State) :
    (receivers x f s).sched = s.sched := rfl
@[simp] theorem receivers_lanes (x : LaneSet) (f : Receiver → Receiver) (s : State) :
    (receivers x f s).lanes = s.lanes := rfl
@[simp] theorem receivers_launch (x : LaneSet) (f : Receiver → Receiver) (s : State) :
    (receivers x f s).launch = s.launch := rfl
@[simp] theorem receivers_rx (x : LaneSet) (f : Receiver → Receiver) (s : State) :
    (receivers x f s).rx = s.rx.on x f := rfl
@[simp] theorem receivers_bufs (x : LaneSet) (f : Receiver → Receiver) (s : State) :
    (receivers x f s).bufs = s.bufs := rfl
@[simp] theorem receivers_spor (x : LaneSet) (f : Receiver → Receiver) (s : State) :
    (receivers x f s).spor = s.spor := rfl
@[simp] theorem receivers_recs (x : LaneSet) (f : Receiver → Receiver) (s : State) :
    (receivers x f s).recs = s.recs := rfl
@[simp] theorem receivers_notif (x : LaneSet) (f : Receiver → Receiver) (s : State) :
    (receivers x f s).notif = s.notif := rfl
@[simp] theorem receivers_link (x : LaneSet) (f : Receiver → Receiver) (s : State) :
    (receivers x f s).link = s.link := rfl
@[simp] theorem receivers_resetting (x : LaneSet) (f : Receiver → Receiver) (s : State) :
    (receivers x f s).resetting = s.resetting := rfl
@[simp] theorem receivers_now (x : LaneSet) (f : Receiver → Receiver) (s : State) :
    (receivers x f s).now = s.now := rfl
@[simp] theorem receivers_races (x : LaneSet) (f : Receiver → Receiver) (s : State) :
    (receivers x f s).races = s.races := rfl
@[simp] theorem receivers_pending (x : LaneSet) (f : Receiver → Receiver) (s : State) :
    (receivers x f s).pending = s.pending := rfl

/-! ### releaseLaunch -/

@[simp] theorem releaseLaunch_cfg (x : Launch) (s : State) :
    (releaseLaunch x s).cfg = s.cfg := rfl
@[simp] theorem releaseLaunch_tb (x : Launch) (s : State) :
    (releaseLaunch x s).tb = s.tb := rfl
@[simp] theorem releaseLaunch_sched (x : Launch) (s : State) :
    (releaseLaunch x s).sched = s.sched := rfl
@[simp] theorem releaseLaunch_lanes (x : Launch) (s : State) :
    (releaseLaunch x s).lanes = s.lanes := rfl
@[simp] theorem releaseLaunch_launch (x : Launch) (s : State) :
    (releaseLaunch x s).launch = none := rfl
@[simp] theorem releaseLaunch_rx (x : Launch) (s : State) :
    (releaseLaunch x s).rx = s.rx.on x.onAir (Receiver.resume s.now) := rfl
@[simp] theorem releaseLaunch_bufs (x : Launch) (s : State) :
    (releaseLaunch x s).bufs = s.bufs := rfl
@[simp] theorem releaseLaunch_spor (x : Launch) (s : State) :
    (releaseLaunch x s).spor = s.spor := rfl
@[simp] theorem releaseLaunch_recs (x : Launch) (s : State) :
    (releaseLaunch x s).recs = s.recs := rfl
@[simp] theorem releaseLaunch_notif (x : Launch) (s : State) :
    (releaseLaunch x s).notif = s.notif := rfl
@[simp] theorem releaseLaunch_link (x : Launch) (s : State) :
    (releaseLaunch x s).link = s.link := rfl
@[simp] theorem releaseLaunch_resetting (x : Launch) (s : State) :
    (releaseLaunch x s).resetting = s.resetting := rfl
@[simp] theorem releaseLaunch_now (x : Launch) (s : State) :
    (releaseLaunch x s).now = s.now := rfl
@[simp] theorem releaseLaunch_races (x : Launch) (s : State) :
    (releaseLaunch x s).races = s.races := rfl
@[simp] theorem releaseLaunch_pending (x : Launch) (s : State) :
    (releaseLaunch x s).pending = s.pending := rfl

/-! ### endLaunch -/

@[simp] theorem endLaunch_cfg (x : Launch) (s : State) :
    (endLaunch x s).cfg = s.cfg := rfl
@[simp] theorem endLaunch_tb (x : Launch) (s : State) :
    (endLaunch x s).tb = s.tb := rfl
@[simp] theorem endLaunch_sched (x : Launch) (s : State) :
    (endLaunch x s).sched = (setLaunchState .ended s).sched := rfl
@[simp] theorem endLaunch_lanes (x : Launch) (s : State) :
    (endLaunch x s).lanes = s.lanes := rfl
@[simp] theorem endLaunch_launch (x : Launch) (s : State) :
    (endLaunch x s).launch = none := rfl
@[simp] theorem endLaunch_rx (x : Launch) (s : State) :
    (endLaunch x s).rx = s.rx.on x.onAir (Receiver.resume s.now) := rfl
@[simp] theorem endLaunch_bufs (x : Launch) (s : State) :
    (endLaunch x s).bufs = s.bufs := rfl
@[simp] theorem endLaunch_spor (x : Launch) (s : State) :
    (endLaunch x s).spor = s.spor := rfl
@[simp] theorem endLaunch_recs (x : Launch) (s : State) :
    (endLaunch x s).recs = s.recs := rfl
@[simp] theorem endLaunch_notif (x : Launch) (s : State) :
    (endLaunch x s).notif = s.notif := rfl
@[simp] theorem endLaunch_link (x : Launch) (s : State) :
    (endLaunch x s).link = s.link := rfl
@[simp] theorem endLaunch_resetting (x : Launch) (s : State) :
    (endLaunch x s).resetting = s.resetting := rfl
@[simp] theorem endLaunch_now (x : Launch) (s : State) :
    (endLaunch x s).now = s.now := rfl
@[simp] theorem endLaunch_races (x : Launch) (s : State) :
    (endLaunch x s).races = s.races := rfl
@[simp] theorem endLaunch_pending (x : Launch) (s : State) :
    (endLaunch x s).pending = s.pending := rfl

end Sys2Proof.Machine
end

