-- ==== Sys2Proof/Laws/Notify.lean ====
section
/-! SUPPORT. What composing a notification and raising an event can do, said once: they change the notification unit,
append NOTIFY frames to the outbound queue and count free choices, and nothing else. -/
namespace Sys2Proof.Machine

/-- t is s but for the notification unit, NOTIFY frames appended to the outbound queue, and the count of choices. -/
def Notifies (s t : State) : Prop :=
  ∃ n new r, t = { s with notif := n, link := { s.link with outbound := s.link.outbound ++ new }, races := r } ∧
    ∀ f ∈ new, f.kind = FrameKind.notify

theorem Notifies.refl (s : State) : Notifies s s := ⟨s.notif, [], s.races, by simp, by simp⟩

theorem Notifies.trans {s t u : State} (h : Notifies s t) (k : Notifies t u) : Notifies s u := by
  obtain ⟨n, new, r, rfl, hn⟩ := h
  obtain ⟨m, more, q, rfl, hm⟩ := k
  refine ⟨m, new ++ more, q, by simp, ?_⟩
  intro f hf
  rcases List.mem_append.1 hf with h | h
  · exact hn f h
  · exact hm f h

theorem Notifies.races (s : State) (r : Nat) : Notifies s { s with races := r } := ⟨s.notif, [], r, by simp, by simp⟩

theorem Notifies.notif (s : State) (n : Notifier) : Notifies s { s with notif := n } :=
  ⟨n, [], s.races, by simp, by simp⟩

theorem compose_notifies (s : State) : Notifies s (compose s) := by
  unfold compose
  split
  · exact ⟨_, _, _, rfl, by simp [notifyFrame]⟩
  · exact .refl s

theorem composeAll_notifies (s : State) : Notifies s (composeAll s) := by
  unfold composeAll
  split
  · simp only
    split
    · exact (compose_notifies s).trans (compose_notifies _)
    · exact compose_notifies s
  · simp only
    split
    · exact compose_notifies s
    · exact .refl s

theorem raise_notifies (e : Event) (d : Detail) (s : State) : Notifies s (raise e d s) := by
  unfold raise
  refine (Notifies.notif s (s.notif.accept e s.tb.cycle d)).trans ?_
  simp only
  split
  · split
    · exact (Notifies.races _ _).trans (composeAll_notifies _)
    · exact Notifies.races _ _
  · exact .refl _

/-- Every field that a notifying change keeps. -/
theorem Notifies.keeps {s t : State} (h : Notifies s t) :
    t.cfg = s.cfg ∧ t.tb = s.tb ∧ t.sched = s.sched ∧ t.lanes = s.lanes ∧ t.launch = s.launch ∧ t.rx = s.rx ∧
    t.bufs = s.bufs ∧ t.spor = s.spor ∧ t.recs = s.recs ∧ t.resetting = s.resetting ∧ t.now = s.now ∧ t.pending = s.pending ∧
    t.link.intake = s.link.intake ∧ t.link.deferred = s.link.deferred ∧ t.link.reservations = s.link.reservations ∧
    t.link.parser = s.link.parser ∧ t.link.delivered = s.link.delivered ∧ t.link.transaction = s.link.transaction ∧
    t.link.exchange = s.link.exchange := by
  obtain ⟨n, new, r, rfl, -⟩ := h
  simp

section
variable {e : Event} {d : Detail} {s : State}

@[simp] theorem raise_cfg : (raise e d s).cfg = s.cfg := (raise_notifies e d s).keeps.1
@[simp] theorem raise_tb : (raise e d s).tb = s.tb := (raise_notifies e d s).keeps.2.1
@[simp] theorem raise_sched : (raise e d s).sched = s.sched := (raise_notifies e d s).keeps.2.2.1
@[simp] theorem raise_lanes : (raise e d s).lanes = s.lanes := (raise_notifies e d s).keeps.2.2.2.1
@[simp] theorem raise_launch : (raise e d s).launch = s.launch := (raise_notifies e d s).keeps.2.2.2.2.1
@[simp] theorem raise_rx : (raise e d s).rx = s.rx := (raise_notifies e d s).keeps.2.2.2.2.2.1
@[simp] theorem raise_bufs : (raise e d s).bufs = s.bufs := (raise_notifies e d s).keeps.2.2.2.2.2.2.1
@[simp] theorem raise_spor : (raise e d s).spor = s.spor := (raise_notifies e d s).keeps.2.2.2.2.2.2.2.1
@[simp] theorem raise_recs : (raise e d s).recs = s.recs := (raise_notifies e d s).keeps.2.2.2.2.2.2.2.2.1
@[simp] theorem raise_resetting : (raise e d s).resetting = s.resetting :=
  (raise_notifies e d s).keeps.2.2.2.2.2.2.2.2.2.1
@[simp] theorem raise_now : (raise e d s).now = s.now := (raise_notifies e d s).keeps.2.2.2.2.2.2.2.2.2.2.1
@[simp] theorem raise_pending : (raise e d s).pending = s.pending :=
  (raise_notifies e d s).keeps.2.2.2.2.2.2.2.2.2.2.2.1
@[simp] theorem raise_intake : (raise e d s).link.intake = s.link.intake :=
  (raise_notifies e d s).keeps.2.2.2.2.2.2.2.2.2.2.2.2.1
@[simp] theorem raise_deferred : (raise e d s).link.deferred = s.link.deferred :=
  (raise_notifies e d s).keeps.2.2.2.2.2.2.2.2.2.2.2.2.2.1
@[simp] theorem raise_reservations : (raise e d s).link.reservations = s.link.reservations :=
  (raise_notifies e d s).keeps.2.2.2.2.2.2.2.2.2.2.2.2.2.2.1
@[simp] theorem raise_parser : (raise e d s).link.parser = s.link.parser :=
  (raise_notifies e d s).keeps.2.2.2.2.2.2.2.2.2.2.2.2.2.2.2.1

end

/-! ### Settling -/

/-- With nothing left for the handler and the arbiter, they do not move. -/
theorem serve_settled {s : State} (h : handlerReady s = false) (a : arbiterReady s = false) : serve s = s := by
  simp [serve, h, a]

theorem serveTimes_settled {s : State} (h : handlerReady s = false) (a : arbiterReady s = false) (n : Nat) :
    serveTimes n s = s := by
  induction n with
  | zero => rfl
  | succ n ih => rw [serveTimes, serve_settled h a, ih]

/-- A settled state stays as it is. -/
theorem settle_settled {s : State} (h : handlerReady s = false) (a : arbiterReady s = false) : settle s = s :=
  serveTimes_settled h a _

theorem handlerReady_of_intake {s : State} (h : s.link.intake = []) : handlerReady s = false := by
  simp [handlerReady, h]

@[simp] theorem compose_intake (s : State) : (compose s).link.intake = s.link.intake :=
  (compose_notifies s).keeps.2.2.2.2.2.2.2.2.2.2.2.2.1

/-- With no request waiting, settling is the arbiter's composing alone (R144). -/
theorem serveTimes_two {s : State} (h : s.link.intake = []) : serveTimes 2 s = composeAll s := by
  have h1 := handlerReady_of_intake h
  have h2 : handlerReady (compose s) = false := handlerReady_of_intake (by simpa using h)
  unfold serveTimes serveTimes serveTimes composeAll
  cases ha : arbiterReady s with
  | true => cases hb : arbiterReady (compose s) <;> simp [serve, h1, h2, ha, hb]
  | false => simp [serve, h1, ha]

theorem settle_empty {s : State} (h : s.link.intake = []) : settle s = composeAll s := by
  have : settle s = serveTimes 2 s := by simp [settle, h, Config.notifyPlaces]
  rw [this, serveTimes_two h]

end Sys2Proof.Machine
end

