-- ==== Sys2Proof/Laws/Intake.lean ====
section
/-! SUPPORT. The blocks do not touch the intake queue; a request that comes in to an idle handler is taken at once, and
what its row answers is its block's effect, after which the arbiter composes. -/
namespace Sys2Proof.Machine

@[simp] theorem insertRecord_intake (r : Record) (s : State) : (insertRecord r s).link.intake = s.link.intake := by
  simp only [insertRecord]; split <;> simp

@[simp] theorem fileRecord_intake (r : Record) (s : State) : (fileRecord r s).link.intake = s.link.intake := by
  simp only [fileRecord]; split
  · simp
  · split <;> simp

@[simp] theorem answerDeferred_intake (k : DeferredKind) (r : Result) (s : State) :
    (answerDeferred k r s).link.intake = s.link.intake := by
  simp only [answerDeferred]; split
  · split <;> simp
  · rfl

@[simp] theorem cutLaunch_intake (x : LaneSet) (s : State) : (cutLaunch x s).link.intake = s.link.intake := by
  simp only [cutLaunch]; split
  · rfl
  · split
    · simp only; split <;> simp
    · rfl

@[simp] theorem laneLeaves_intake (l : Lane) (s : State) : (laneLeaves l s).link.intake = s.link.intake := by
  simp [laneLeaves]

@[simp] theorem changeLane_intake (l : Lane) (c : LaneCause) (u : LaneUnit) (s : State) :
    (changeLane l c u s).link.intake = s.link.intake := by
  simp [changeLane]

@[simp] theorem enterProbation_intake (l : Lane) (c : LaneCause) (s : State) :
    (enterProbation l c s).link.intake = s.link.intake := by
  simp [enterProbation]

@[simp] theorem settleCommit_intake (c : CommitCause) (s : State) :
    (settleCommit c s).link.intake = s.link.intake := by
  simp only [settleCommit]; split <;> simp [raiseCommitDone]

@[simp] theorem raiseSyncChanged_intake (o : Sync) (s : State) :
    (raiseSyncChanged o s).link.intake = s.link.intake := by
  simp [raiseSyncChanged]

@[simp] theorem stopPart_intake (s : State) : (stopPart s).link.intake = s.link.intake := by
  simp [stopPart]

@[simp] theorem startPart_intake (s : State) : (startPart s).link.intake = s.link.intake := by
  simp only [startPart, changeSync]; split <;> simp

/-- A block carries out its request without touching the intake queue; a RESET empties it (R164, R182). -/
theorem carryOut_intake (c : Code) (tag : Byte) (p : List Byte) (s : State) (h : s.link.intake = []) :
    (carryOut c tag p s).link.intake = [] := by
  cases c <;> simp only [carryOut, answer_link, h]
  · simp only [doConfig, badField, refuse]
    split
    · simp [h]
    · split
      · simp [h]
      · split <;> simp [h, storeConfig]
  · simp only [doStart, refuse]
    split
    · simp [h]
    · split
      · simp [h]
      · split <;> simp [h]
  · simp only [doStop]; split <;> simp [h]
  · simp [commandReset, resetBlocks, State.held, Link.reset]
  · simp only [doEput, badField, refuse]
    split
    · simp [h]
    · split <;> simp [h]
  · simp only [doEdel, badField, refuse]; split
    · simp [h]
    · split <;> simp [h]
  · simp only [doEget, badField]; split
    · simp [h]
    · split <;> simp [h]
  · simp only [doTclr, refuse]; split <;> simp [h]
  · simp only [doTload, refuse]; split <;> simp [h]
  · simp only [doTchk]; split <;> simp [h]
  · simp only [doTcommit, refuse]; split
    · simp [h]
    · split
      · simp [h]
      · split <;> simp [h, raiseCommitDone]
  · simp only [doTcancel, refuse]; split <;> simp [h]
  · simp only [doBsetup, badField, refuse]
    repeat' split
    all_goals simp [h]
  · simp only [doBwrite, badField, refuse]
    repeat' split
    all_goals simp [h]
  · simp only [doBread, badField, refuse]
    repeat' split
    all_goals simp [h]
  · simp only [doBstat, badField]
    repeat' split
    all_goals simp [h]
  · simp only [doLset, badField, laneDisable, laneEnable, laneClear, refuse, answerLane]
    repeat' split
    all_goals simp [h]
  · simp only [doSpost, badField, refuse]
    repeat' split
    all_goals simp [h]
  · simp only [doScancel, refuse]
    repeat' split
    all_goals simp [h]
  · simp only [doRfetch, badField]
    repeat' split
    all_goals simp [h]
  · simp only [doRdrop, badField, closeGap]
    repeat' split
    all_goals simp [h]
  · simp only [doRthresh, badField]
    repeat' split
    all_goals simp [h]
  · simp only [doGset, badField]
    repeat' split
    all_goals simp [h]
  · simp only [doNmask, badField]
    repeat' split
    all_goals simp [h]
  · simp only [doNack, badField, refuse]
    repeat' split
    all_goals simp [h]
  · simp only [doEvread, badField]
    repeat' split
    all_goals simp [h]

theorem checkRequest_intake (r : Request) (s : State) (h : s.link.intake = []) :
    (checkRequest r [] s).link.intake = [] := by
  simp only [checkRequest, refuse]
  split
  · simp [h]
  · split
    · simp [h]
    · split
      · exact carryOut_intake _ _ _ _ h
      · simp [h]

/-- A request row meets an idle handler: the request is taken at once, and then the arbiter composes (R176, R180, R144). -/
theorem request_row {s : State} {code tag : Byte} {payload : List Byte} (hr : s.resetting = none)
    (hi : s.link.intake = []) (hp : s.link.hasPlace = true) (ha : arbiterReady s = false) (ht : tag ≠ 0) :
    finish (requestArrives code tag payload s) =
      .next (composeAll (checkRequest ⟨tag, code, payload⟩ [] (reserveFor [] s))) := by
  have e : requestArrives code tag payload s =
      { s with link := { s.link with intake := [⟨tag, code, payload⟩] } } := by
    have ht' : ¬(tag = 0#8) := ht
    simp [requestArrives, hr, acceptFrame, ht', enterIntake, hi, Config.intakePlaces]
  have h1 : handlerReady { s with link := { s.link with intake := [⟨tag, code, payload⟩] } } = true := by
    have e1 : handlerReady { s with link := { s.link with intake := [⟨tag, code, payload⟩] } } =
        (s.resetting.isNone && true && s.link.hasPlace) := rfl
    rw [e1, hr, hp]; rfl
  have h2 : arbiterReady { s with link := { s.link with intake := [⟨tag, code, payload⟩] } } = false := by
    exact ha
  have h3 : (checkRequest ⟨tag, code, payload⟩ [] (reserveFor [] s)).link.intake = [] :=
    checkRequest_intake _ _ (by simp)
  rw [finish, e]
  congr 1
  simp only [settle, List.length_singleton, Config.notifyPlaces]
  rw [show 1 + 2 = 2 + 1 from rfl, serveTimes, serve]
  simp only [h1, h2, if_true, Bool.false_eq_true, if_false]
  exact serveTimes_two h3

end Sys2Proof.Machine
end

