-- ==== Sys2Proof/Laws/Shared.lean ====
section
/-! SUPPORT. What the operations that several commands share can do, said once for each; and that every command and every
step answers a next state. -/
namespace Sys2Proof.Machine

/-- No command faults and none is refused. -/
theorem exec_answers (c : Instr) (s : State) : ∃ t, exec c s = .next t := by
  cases c <;> exact ⟨_, rfl⟩

/-- No step faults and none is refused. -/
theorem step_answers (s : State) : ∃ t, step s = .next t := by
  unfold step
  split
  · exact exec_answers _ _
  · split
    · exact exec_answers _ _
    · exact ⟨_, rfl⟩

/-- A deferred request of the kind is answered into its reservation and let go; without one nothing happens (R183). -/
theorem answerDeferred_cases (kind : DeferredKind) (r : Result) (s : State) :
    (∃ tag, s.link.deferred = some ⟨kind, tag⟩ ∧ answerDeferred kind r s =
      { s with link := { s.link with
          outbound := s.link.outbound ++ [responseFrame tag r []], reservations := s.link.reservations - 1
          deferred := none } }) ∨
    ((∀ d ∈ s.link.deferred, d.kind ≠ kind) ∧ answerDeferred kind r s = s) := by
  unfold answerDeferred
  split
  next d hd =>
    split
    next hk => exact .inl ⟨d.tag, by rw [hd, ← hk], rfl⟩
    next hk => exact .inr ⟨by simpa [hd] using hk, rfl⟩
  next hd => exact .inr ⟨by simp [hd], rfl⟩

/-- A cut leaves the launch on its other lanes, or ends it: then its window's context says so and its sporadic entry is
QUEUED again; the receivers of the lanes cut take messages again, and nothing else changes (R9, R10, R59, R116). -/
theorem cutLaunch_cases (lanes : LaneSet) (s : State) :
    (s.launch = none ∧ cutLaunch lanes s = s) ∨
    (∃ x, s.launch = some x ∧
      let y := { x with cut := x.cut.union (x.lanes.inter lanes) }
      (y.onAir.isEmpty = false ∧ cutLaunch lanes s =
        { s with launch := some y, rx := s.rx.on (x.onAir.inter lanes) (Receiver.resume s.now) }) ∨
      (y.onAir.isEmpty = true ∧ cutLaunch lanes s =
        { s with
          launch := none
          spor := if x.kind = .sporadic then s.spor.requeue else s.spor
          rx := s.rx.on (x.onAir.inter lanes) (Receiver.resume s.now)
          sched := if x.kind = .beacon then s.sched else (setLaunchState .cut s).sched })) := by
  unfold cutLaunch
  split
  next h => exact .inl ⟨h, rfl⟩
  next x h =>
    refine .inr ⟨x, h, ?_⟩
    simp only
    split
    next he =>
      refine .inr ⟨he, ?_⟩
      by_cases hb : x.kind = .beacon <;> simp [hb, setLaunchState]
    next he => exact .inl ⟨by simpa using he, rfl⟩

/-- A lane that leaves touches the launch, the sporadic queue, the receivers and the window, and nothing else (R9, R10). -/
theorem laneLeaves_keeps (l : Lane) (s : State) :
    laneLeaves l s =
      { s with
        launch := (laneLeaves l s).launch, spor := (laneLeaves l s).spor, rx := (laneLeaves l s).rx
        sched := { s.sched with window := (laneLeaves l s).sched.window } } := by
  rcases cutLaunch_cases (LaneSet.single l) s with ⟨_, h⟩ | ⟨x, _, ⟨_, h⟩ | ⟨_, h⟩⟩
  · simp [laneLeaves, h]
  · simp [laneLeaves, h]
  · by_cases hb : x.kind = .beacon <;> simp [laneLeaves, h, hb, setLaunchState]

/-- A record that finds room joins at the tail with the next number; then only a notification can follow (R126, R127). -/
theorem fileRecord_inserts (r : Record) (s : State) (h : s.recs.records.length < Config.recordCapacity) :
    Notifies { s with recs := { s.recs with
        records := s.recs.records ++ [{ r with number := s.recs.next }], next := s.recs.next + 1 } } (fileRecord r s) := by
  unfold fileRecord
  rw [if_pos h]
  unfold insertRecord
  simp only
  split
  · exact raise_notifies _ _ _
  · exact .refl _

/-- A record that finds the queue full is counted as lost; then only a notification can follow (R129). -/
theorem fileRecord_loses (r : Record) (s : State) (h : ¬s.recs.records.length < Config.recordCapacity) :
    Notifies { s with recs := { s.recs with lost := min 65535 (s.recs.lost + 1) } } (fileRecord r s) := by
  unfold fileRecord
  rw [if_neg h]
  simp only
  split
  · exact raise_notifies _ _ _
  · exact .refl _

/-- A lane's change of state changes that lane unit; then only a notification can follow (R106). -/
theorem changeLane_notifies (l : Lane) (cause : LaneCause) (u : LaneUnit) (s : State) :
    Notifies { s with lanes := s.lanes.set l u } (changeLane l cause u s) := raise_notifies _ _ _

/-- Time passes in the timebase and on the clock alone (R17). -/
theorem passTo_eq (m : Nat) (s : State) :
    passTo m s = { s with
      now := s.now + (m - s.tb.offset)
      tb := { s.tb with offset := m, atCycleStart := s.tb.atCycleStart && decide (m = s.tb.offset) } } := rfl

end Sys2Proof.Machine
end

