-- ==== Sys2Proof/Tests/Slice0.lean ====
section
/-! SUPPORT. Tests: what well-formedness refuses, single steps against the manual's worked examples, and for each statement
with hypotheses a state and operands that meet them. -/
namespace Sys2Proof.Tests

set_option Elab.async false

open Sys2Proof.Machine

/-! ### States to start from -/

/-- The state a command answers. -/
def after : Host.Outcome State Fault Refusal → State
  | .next t => t
  | .fault _ | .refused _ => State.reset

/-- The state after a command. -/
def run (c : Instr) (s : State) : State := after (exec c s)

/-- Tag, code and payload of the newest outbound frame. -/
def reply (s : State) : Option (Byte × Byte × List Byte) := s.link.outbound.getLast?.map fun f => (f.tag, f.code, f.payload)

/-- After reset, the STARTUP frame delivered. -/
def clear : State := State.held

/-- The node of the examples: node id 5, and else the defaults. -/
def configured : State := { clear with cfg := { Params.default with nodeId := 5 } }

/-- Both lanes. -/
def ab : LaneSet := LaneSet.both

/-- Every cycle. -/
def everyCycle : BitVec 64 := BitVec.allOnes 64

/-- Positions 0, 4 (corrected) and 7 (corrected) of the example in Section 3.3, and the OPEN entry of Section 6.8. -/
def sendEntry : Entry := ⟨5, .send, 24, 56, ab, some 3, none, some 8, everyCycle, true, true⟩
def expectEntry : Entry := ⟨12, .expect, 100, 56, ab, some 10, some (.node 12), some 8, everyCycle, true, true⟩
def quietEntry : Entry := ⟨20, .quiet, 160, 40, ab, none, none, none, 0x00000000FFFFFFFF, true, true⟩
def openEntry : Entry := ⟨40, .openSlot, 6000, 80, ab, none, none, none, everyCycle, true, true⟩

/-- A bank with these entries at positions 0, 4, 7 and 8. -/
def bank (p0 p4 p7 p8 : Option Entry) : Bank :=
  (((Bank.empty.set 0 p0).set 4 p4).set 7 p7).set 8 p8

/-- The whole table of the examples. -/
def table : Bank := bank (some sendEntry) (some expectEntry) (some quietEntry) (some openEntry)

/-- Buffer 3 is SEND and FRESH, 10 RECEIVE, 42 and 43 SPORADIC. -/
def pool : List Buffer :=
  ((((List.replicate 48 Buffer.unused).set 3 ⟨[0x1111, 0x2222], .send .fresh .repeat 4 0⟩).set 10
    ⟨[], .receive RxStatus.setup⟩).set 42 ⟨[1, 2, 3, 4], .sporadic 7⟩).set 43 ⟨[9], .sporadic 0⟩

/-- A follower LOCKED in cycle 22 at this offset, running the table; its beacon was taken. -/
def nodeAt (offset : Nat) : State :=
  { configured with
    tb := { Timebase.reset with sync := .locked, cycle := 22, offset := offset, beaconMark := true
                                began := 500000 - offset, deadlinePassed := decide (31 ≤ offset) }
    sched := ⟨table, table, false, none⟩, bufs := pool, now := 500000 }

/-- The node with the window of a position open. -/
def nodeIn (offset position : Nat) (e : Entry) (r : WindowRole) : State :=
  { nodeAt offset with sched := ⟨table, table, false, some ⟨position, e, 22, r⟩⟩ }

/-- The EXPECT window of position 4, listening on both lanes. -/
def listening (offset : Nat) : State := nodeIn offset 4 expectEntry (.expect ab LaneSet.none LaneSet.none)

/-- The QUIET window of position 7, watching on both lanes. -/
def watching (breached : Bool) : State := nodeIn 160 7 quietEntry (.quiet ab LaneSet.none LaneSet.none breached)

/-- A state with a lane unit for each lane. -/
def withLanes (a b : LaneUnit) (s : State) : State := { s with lanes := ⟨a, b⟩ }

/-- A lane unit in a state with a debit. -/
def unit (state : LaneState) (debit : Nat) : LaneUnit := ⟨state, debit, 0, 0, false⟩

/-- The SEND window of position 0 with its launch on both lanes. -/
def sending : State :=
  { nodeIn 30 0 sendEntry (.send ab .inProgress) with
    launch := some ⟨.send, ab, LaneSet.none, 24, 22, 0x8502, 0x1565, [0x1111, 0x2222]⟩ }

/-- The entries of the sporadic queue in Section 6.8, of which 23 may be on the air. -/
def posted (onAir : Bool) : List SporadicEntry :=
  [⟨23, 42, ab, 1, some 40, 5, onAir⟩, ⟨24, 43, LaneSet.single .A, 1, none, 7, false⟩]

/-- The OPEN window of position 8 with ticket 23 on the air. -/
def sendingSporadic : State :=
  { nodeIn 6010 8 openEntry (.openSlot ab .inProgress) with
    spor := ⟨posted true, 24⟩
    launch := some ⟨.sporadic, ab, LaneSet.none, 6000, 22, 0x8504, 0xA168, [1, 2, 3, 4]⟩ }

/-- A LOCKED master with its beacon of cycle 23 on the air. -/
def beaconing : State :=
  { nodeAt 5 with
    cfg := { Params.default with nodeId := 5, role := .master }
    tb := { (nodeAt 5).tb with role := .master, cycle := 23 }
    launch := some ⟨.beacon, ab, LaneSet.none, 0, 23, 0x4500, 0x0170, []⟩ }

/-- A master in its startup listen, START of tag 9 deferred. -/
def listeningMaster : State :=
  { clear with
    cfg := { Params.default with nodeId := 5, role := .master }
    tb := { Timebase.reset with sync := .listen, role := .master, startupListen := some 20000 }
    link := { Link.reset with deferred := some ⟨.start, 9⟩, reservations := 1 } }

/-- A commit of tag 31 pending. -/
def committing : State :=
  { nodeAt 4200 with
    sched := ⟨bank (some sendEntry) (some expectEntry) none none, table, true, none⟩
    link := { Link.reset with deferred := some ⟨.tcommit, 31⟩, reservations := 1 } }

/-- CS is low, an exchange of the filler byte is in progress, and the parser stands here. -/
def hearing (p : Parser) (s : State) : State :=
  { s with link := { s.link with parser := p, transaction := true, exchange := some ⟨0, .filler⟩ } }

/-- The response of the example in Section 10.10, so far delivered. -/
def answering (delivered : Nat) (fill : Option (Byte × Word)) : State :=
  { clear with link := { Link.reset with
      outbound := [⟨.response, 20, 0, [], fill⟩], delivered := delivered, transaction := true
      exchange := some ⟨0, .frame⟩ } }

/-- A record of number n. -/
def record (n : Nat) : Record :=
  { kind := .received, number := BitVec.ofNat 16 n, cycle := 9, slot := 12, position := some 4
    outcomes := ⟨.good, .silent⟩, sender := some 12, words := some 2, arrival := some 104, endOffset := some 128
    detail := (6, 0), disagree := false, probation := false }

/-- k records with numbers from n on. -/
def recordsFrom (n k : Nat) : List Record := (List.range k).map fun i => record (n + i)

/-- The words of a message of node 12 for position 4. -/
def goodWords : List Word := [0x8C02, 0x3166, 0x1234, 0xABCD, 0x7F18]

/-- A message of node 12 for position 4, whole, with this arrival. -/
def goodMessage (arrival : Nat) : Heard := .message (arrival - 4) arrival ⟨goodWords, .delimiter⟩

/-- A NULL message of node 12 for position 4. -/
def nullMessage : Heard := .message 100 104 ⟨[0xCC00, 0x3166, 0xACF9], .delimiter⟩

/-- A beacon of node 3. -/
def beacon (number check : Word) : Message := ⟨[0x4300, number <<< 4, check], .delimiter⟩

/-- A right echo of a launch's words. -/
def echo (words : List Word) : Echo := ⟨true, words, true, false⟩

/-- No echo. -/
def noEcho : Echo := ⟨false, [], false, false⟩

/-- Every group enabled for three kinds at level 2, under the mask level 2: the arbiter composes nothing. -/
def withMask (s : State) : State :=
  { s with notif := ⟨List.replicate 10 { Group.reset with level := 2, enable := 7 }, 2⟩ }

/-! ### What well-formedness refuses -/

theorem smoke_tag_zero : (Instr.ident 0 []).wellFormed = false := by decide
theorem smoke_payload_too_long : (Instr.bwrite 1 (List.replicate 241 0)).wellFormed = false := by decide +kernel
theorem smoke_lset_tag_zero :
    (Instr.lsetDisable 0 1).wellFormed = false ∧ (Instr.lsetEnable 0 1).wellFormed = false ∧
      (Instr.lsetClear 0 1).wellFormed = false := by decide
theorem smoke_known_code : (Instr.unknownRequest 1 0x16 []).wellFormed = false := by decide
theorem smoke_good_length : (Instr.frameLength 3).wellFormed = false ∧ (Instr.frameLength 243).wellFormed = false := by
  decide
theorem smoke_message_size :
    (Instr.freeMessageEnd .A 0 ⟨4, ⟨[0x8C02, 0, 1], .delimiter⟩⟩).wellFormed = false ∧
      (Instr.freeMessageEnd .A 0 ⟨4, ⟨[0x8C00, 0, 1, 2], .delimiter⟩⟩).wellFormed = false ∧
      (Instr.freeMessageEnd .A 0 ⟨4, ⟨[0x8C00, 0, 1, 2], .cut 20⟩⟩).wellFormed = false := by decide
theorem smoke_cut_time :
    (Instr.freeMessageEnd .A 0 ⟨4, ⟨[0x8C00], .cut 5⟩⟩).wellFormed = false ∧
      (Instr.freeMessageEnd .A 0 ⟨4, ⟨[], .cut 1⟩⟩).wellFormed = false ∧
      (Instr.freeMessageEnd .A 0 ⟨4, ⟨[0x8C00], .cut 11⟩⟩).wellFormed = false ∧
      (Instr.freeMessageEnd .A 0 ⟨4, ⟨[0x8C00, 0, 0], .cut 17⟩⟩).wellFormed = false := by decide
theorem smoke_free_message_unended :
    (Instr.freeMessageEnd .A 0 ⟨4, ⟨[0x8C00], .inProgress⟩⟩).wellFormed = false := by decide
theorem smoke_free_message_lead : (Instr.freeMessageEnd .A 0 ⟨5, beacon 17 0x0DE7⟩).wellFormed = false := by decide
theorem smoke_position :
    (Instr.sendWindowStart 64).wellFormed = false ∧ (Instr.expectWindowStart 64).wellFormed = false ∧
      (Instr.openWindowStart 64).wellFormed = false ∧ (Instr.quietWindowStart 64).wellFormed = false := by decide
theorem smoke_breach_offset : (Instr.breach .B 65536).wellFormed = false := by decide
theorem smoke_arrival :
    (Instr.expectWindowEnd [.message 9 8 ⟨[], .inProgress⟩] []).wellFormed = false ∧
      (Instr.expectWindowEnd [] [.message 4 9 ⟨[], .inProgress⟩]).wellFormed = false := by decide
theorem smoke_noise_order : (Instr.expectWindowEnd [.noise 9 8] []).wellFormed = false := by decide
theorem smoke_carriers_overlap :
    (Instr.expectWindowEnd [.noise 5 9, .noise 8 10] []).wellFormed = false ∧
      (Instr.expectWindowEnd [.message 100 104 ⟨[], .inProgress⟩, .noise 200 201] []).wellFormed = false ∧
      (Instr.expectWindowEnd [] [goodMessage 104, .noise 127 130]).wellFormed = false := by decide
theorem smoke_echo_unheard :
    (Instr.sendLaunchEnd ⟨false, [1], false, false⟩ noEcho).wellFormed = false ∧
      (Instr.beaconLaunchEnd noEcho ⟨false, [], true, false⟩).wellFormed = false := by decide
theorem smoke_right_terms :
    (Instr.ident 1 []).wellFormed = true ∧ (Instr.unknownRequest 1 0x08 []).wellFormed = true ∧
      (Instr.frameLength 244).wellFormed = true ∧ (Instr.expectWindowEnd [.noise 98 99, goodMessage 104, .noise 128 128] []).wellFormed = true ∧
      (Instr.freeMessageEnd .B 0 ⟨0, ⟨[0x8C00], .cut 10⟩⟩).wellFormed = true ∧
      (Instr.sendLaunchEnd (echo []) noEcho).wellFormed = true := by decide

/-! ### Check sums: the two registers against sums computed outside the model -/

theorem test_link_check : linkCheck [0x31, 0x32, 0x33, 0x34, 0x35, 0x36, 0x37, 0x38, 0x39] = 0x29B1 := by decide +kernel
theorem test_bus_check : busCheck [0x4300, 0x0110] = 0x0DE7 ∧ busCheck [0x8C02, 0x3166, 0x1234, 0xABCD] = 0x7F18 := by
  decide +kernel

/-! ### Requests -/

theorem test_ident : reply (run (.ident 1 []) clear) =
    some (1, 0, [0x52, 0x5A, 0x80, 0x04, 1, 64, 48, 32, 16, 128, 10]) := by decide +kernel

/-- 9.2: CONFIG with tol 3 and debit limit 16 does not fit the running table. -/
theorem test_config_refused :
    let s := { configured with sched := { Schedule.reset with active := bank (some sendEntry) none none none }, bufs := pool }
    reply (run (.config 2 [5, 2, 0x10, 0x27, 3, 10, 4, 4, 1, 16, 16, 8, 1]) s) = some (2, 0x0D, [3, 0, 0xFF]) := by
  decide +kernel

/-- 9.2: with the corrected entry it is taken, and lane B's debit of 20 is clamped. -/
theorem test_config_taken :
    let e := { sendEntry with start := 26, length := 58 }
    let s := { configured with
      sched := { Schedule.reset with active := bank (some e) none none none }, bufs := pool
      lanes := ⟨LaneUnit.reset, unit .active 20⟩ }
    let t := run (.config 2 [5, 2, 0x10, 0x27, 3, 10, 4, 4, 1, 16, 16, 8, 1]) s
    t.cfg.tol = 3 ∧ t.cfg.debitLimit = 16 ∧ t.lanes.b = unit .active 16 ∧ reply t = some (2, 0, []) := by decide +kernel

theorem test_cfgget : reply (run (.cfgget 3 []) configured) =
    some (3, 0, [5, 2, 0x10, 0x27, 2, 10, 4, 4, 1, 24, 16, 8, 1]) := by decide +kernel

theorem test_start_follower :
    let t := run (.start 4 []) configured
    t.tb.sync = .listen ∧ reply t = some (4, 0, []) := by decide +kernel

/-- 2.10: the master's START is not answered, and the listen lasts 20,000 µs. -/
theorem test_start_master :
    let t := run (.start 9 []) { configured with cfg := { configured.cfg with role := .master } }
    t.tb.startupListen = some 20000 ∧ t.tb.role = .master ∧ t.link.deferred = some ⟨.start, 9⟩ ∧ t.link.outbound = [] := by
  decide +kernel

/-- 9.4: STOP with a commit pending. -/
theorem test_stop :
    let s := { committing with
      tb := { committing.tb with offset := 101 }
      sched := { committing.sched with window := some ⟨4, expectEntry, 22, .expect ab LaneSet.none LaneSet.none⟩ } }
    let t := run (.stop 33 []) s
    t.tb.sync = .offline ∧ t.sched = ⟨table, table, false, none⟩ ∧ t.tb.cycle = 22 ∧
      t.link.outbound = [responseFrame 31 .ok [], responseFrame 33 .ok [3]] := by decide +kernel

theorem test_stat : reply (run (.stat 5 []) (withLanes (unit .active 7) (unit .disabled 3) (nodeAt 100))) =
    some (5, 0, [3, 2, 22, 0, 1, 7, 4, 3, 0, 0, 0, 0, 0, 0]) := by decide +kernel

theorem test_reset :
    let t := run (.reset 77 []) (nodeAt 100)
    t.tb = Timebase.reset ∧ t.bufs = State.held.bufs ∧ reply t = some (77, 3, [1, 64, 48, 32, 16, 128, 10]) := by
  decide +kernel

/-- 11.4: the expected sender 0 is refused with its offset. -/
theorem test_eput_refused :
    reply (run (.eput 6 ([4, 12, 2, 3, 100, 0, 56, 0, 10, 0, 8, 3] ++ List.replicate 8 0xFF)) clear) =
      some (6, 3, [9]) := by decide +kernel

/-- 11.4: repeated with sender 12 it is stored. -/
theorem test_eput_stored :
    (run (.eput 6 ([4, 12, 2, 3, 100, 0, 56, 0, 10, 12, 8, 3] ++ List.replicate 8 0xFF)) clear).sched.edit =
      bank none (some expectEntry) none none := by decide +kernel

theorem test_edel : (run (.edel 7 [8]) (nodeAt 100)).sched.edit =
    bank (some sendEntry) (some expectEntry) (some quietEntry) none := by decide +kernel

/-- 11.4: EGET reports the 20 bytes as sent. -/
theorem test_eget : reply (run (.eget 8 [2, 4]) (nodeAt 100)) =
    some (8, 0, [4, 12, 2, 3, 100, 0, 56, 0, 10, 12, 8, 3] ++ List.replicate 8 0xFF) := by decide +kernel

/-- 11.4: absent fields read 0xFF, and an empty position reads 0 but for its number. -/
theorem test_eget_absent :
    reply (run (.eget 8 [1, 7]) (nodeAt 100)) =
      some (8, 0, [7, 20, 4, 3, 160, 0, 40, 0, 0xFF, 0xFF, 0xFF, 3, 0xFF, 0xFF, 0xFF, 0xFF, 0, 0, 0, 0]) ∧
    reply (run (.eget 8 [1, 63]) (nodeAt 100)) = some (8, 0, 63 :: List.replicate 19 0) := by decide +kernel

theorem test_tclr : (run (.tclr 9 []) (nodeAt 100)).sched.edit = Bank.empty := by decide +kernel

theorem test_tload : (run (.tload 9 []) { committing with sched := { committing.sched with commitPending := false } }).sched.edit
    = bank (some sendEntry) (some expectEntry) none none := by decide +kernel

/-- 3.3: the table as first written. -/
theorem test_tchk_single :
    let edit := bank (some sendEntry) (some { expectEntry with length := 50 }) (some { quietEntry with start := 130 }) none
    reply (run (.tchk 10 []) { nodeAt 100 with sched := ⟨table, edit, false, none⟩ }) = some (10, 0x0D, [5, 4, 0xFF]) := by
  decide +kernel

/-- 3.3: the table after its first correction. -/
theorem test_tchk_pair :
    let edit := bank (some sendEntry) (some expectEntry) (some { quietEntry with start := 130 }) none
    reply (run (.tchk 10 []) { nodeAt 100 with sched := ⟨table, edit, false, none⟩ }) = some (10, 0x0D, [8, 4, 7]) := by
  decide +kernel

/-- 3.4: a commit made while a cycle runs is deferred. -/
theorem test_tcommit :
    let t := run (.tcommit 31 []) { nodeAt 4200 with sched := { committing.sched with commitPending := false } }
    t.sched = committing.sched ∧ t.link = committing.link := by decide +kernel

theorem test_tcancel :
    let t := run (.tcancel 32 []) committing
    t.sched.commitPending = false ∧ t.sched.active = committing.sched.active ∧
      t.link.outbound = [responseFrame 31 .cancelled [], responseFrame 32 .ok []] := by decide +kernel

/-- 4.8: buffer 3 is named by the ACTIVE bank; buffer 48 does not exist. -/
theorem test_bsetup_refused :
    reply (run (.bsetup 1 [3, 1, 1]) (nodeAt 100)) = some (1, 7, []) ∧
    reply (run (.bsetup 1 [48, 1, 1]) (nodeAt 100)) = some (1, 3, [0]) := by decide +kernel

theorem test_bsetup : (run (.bsetup 1 [15, 2, 0]) (nodeAt 100)).bufs = pool.set 15 ⟨[], .receive RxStatus.setup⟩ := by
  decide +kernel

/-- 4.8: a held buffer and a RECEIVE buffer are refused. -/
theorem test_bwrite_refused :
    reply (run (.bwrite 1 [42, 1, 7, 0]) { nodeAt 100 with spor := ⟨posted false, 24⟩ }) = some (1, 8, []) ∧
    reply (run (.bwrite 1 [10, 1, 7, 0]) (nodeAt 100)) = some (1, 0x10, []) := by decide +kernel

/-- 4.3: BWRITE makes the buffer FRESH with send count 0 and keeps its sequence count; words are low byte first. -/
theorem test_bwrite :
    (run (.bwrite 1 [3, 2, 0x34, 0x12, 0xCD, 0xAB])
      { nodeAt 100 with bufs := pool.set 3 ⟨[1, 2], .send .stale .once 1 3⟩ }).bufs =
      pool.set 3 ⟨[0x1234, 0xABCD], .send .fresh .once 1 0⟩ := by decide +kernel

/-- R80: the answer shows NEW, and the buffer is READ after it. -/
theorem test_bread :
    let r : RxStatus := ⟨.new, some 40, ab, false, some 5004, some 30, some 30, false, 6, 1⟩
    let t := run (.bread 2 [22, 0]) { nodeAt 100 with bufs := pool.set 22 ⟨[7, 8, 9], .receive r⟩ }
    t.bufs = pool.set 22 ⟨[7, 8, 9], .receive { r with state := .read }⟩ ∧
      (reply t).map (fun f => f.2.2.take 4) = some [22, 2, 3, 1] := by decide +kernel

theorem test_bstat : (reply (run (.bstat 3 [47, 1]) (nodeAt 100))).map (fun f => f.2.2.take 3) = some [47, 0, 0] ∧
    reply (run (.bstat 3 [47, 2]) (nodeAt 100)) = some (3, 3, [1]) := by decide +kernel

/-- 5.9: LSET DISABLE of lane A with debit 22. -/
theorem test_lset_disable :
    let t := run (.lsetDisable 4 1) (withLanes (unit .active 22) LaneUnit.reset (listening 120))
    t.lanes.a = unit .disabled 22 ∧ reply t = some (4, 0, [4, 22]) ∧
      t.sched.window.map (fun w => w.role) = some (.expect ab LaneSet.none (LaneSet.single .A)) := by decide +kernel

theorem test_lset_enable :
    let t := run (.lsetEnable 4 2) (withLanes LaneUnit.reset (unit .faulted 24) clear)
    t.lanes.b = unit .probation 0 ∧ reply t = some (4, 0, [2, 0]) := by decide +kernel

theorem test_lset_clear :
    (run (.lsetClear 4 1) (withLanes (unit .active 9) LaneUnit.reset clear)).lanes.a = unit .active 0 ∧
    reply (run (.lsetClear 4 2) (withLanes LaneUnit.reset (unit .probation 0) clear)) = some (4, 4, []) := by decide +kernel

theorem test_lstat : reply (run (.lstat 5 []) (withLanes (unit .active 3) ⟨.faulted, 24, 2, 0, false⟩ clear)) =
    some (5, 0, [1, 3, 0, 0, 3, 24, 2, 0]) := by decide +kernel

/-- 6.8: tickets after the wrap, second post. -/
theorem test_spost :
    let q : List SporadicEntry :=
      [65535, 1, 3, 65534].map fun n => ⟨n, n % 10, ab, 0, none, 1, false⟩
    let t := run (.spost 6 [42, 3, 1, 255, 10]) { nodeAt 100 with spor := ⟨q, 65534⟩ }
    t.spor = ⟨q ++ [⟨2, 42, ab, 1, none, 10, false⟩], 2⟩ ∧ reply t = some (6, 0, [2, 0]) := by decide +kernel

/-- 6.8: an entry on the air cannot be cancelled, a queued one can. -/
theorem test_scancel :
    reply (run (.scancel 7 [23, 0]) { nodeAt 100 with spor := ⟨posted true, 24⟩ }) = some (7, 0x0B, []) ∧
    (run (.scancel 7 [24, 0]) { nodeAt 100 with spor := ⟨posted true, 24⟩ }).spor.entries = (posted true).take 1 := by
  decide +kernel

theorem test_slist : reply (run (.slist 8 []) { nodeAt 100 with spor := ⟨posted true, 24⟩ }) =
    some (8, 0, [2, 23, 0, 42, 4, 3, 1, 40, 5, 2, 24, 0, 43, 1, 1, 1, 0xFF, 7, 1]) := by decide +kernel

/-- 7.4: five records, and RFETCH 12 returns them all. -/
theorem test_rfetch :
    (reply (run (.rfetch 40 [12]) { clear with recs := ⟨recordsFrom 310 5, 315, 0, 8⟩ })).map
      (fun f => (f.2.2.take 10, f.2.2.length)) = some ([5, 0, 0, 5, 1, 0x36, 0x01, 9, 12, 4], 84) := by decide +kernel

/-- 7.4: one place freed in a full queue takes the GAP record of number 1,128. -/
theorem test_rdrop :
    let t := run (.rdrop 41 [1]) { clear with recs := ⟨recordsFrom 1000 128, 1128, 3, 64⟩ }
    t.recs.records.length = 128 ∧ t.recs.lost = 0 ∧ t.recs.next = 1129 ∧
      reply t = some (41, 0, [128, 1, 0x68, 0x04, 3, 0]) := by decide +kernel

theorem test_rthresh : (run (.rthresh 9 [128]) clear).recs.threshold = 128 ∧
    reply (run (.rthresh 9 [0]) clear) = some (9, 3, [0]) := by decide +kernel

theorem test_gset :
    let t := run (.gset 10 [3, 5, 3, 0]) clear
    (groupAt t 3).level = 5 ∧ (groupAt t 3).enable = 3 ∧ reply t = some (10, 0, [0, 0]) ∧
    reply (run (.gset 10 [6, 5, 4, 0]) clear) = some (10, 3, [2]) := by decide +kernel

theorem test_nmask : (run (.nmask 20 [3]) clear).notif.mask = 3 ∧ reply (run (.nmask 20 [8]) clear) = some (20, 3, [0]) := by
  decide +kernel

/-- 8.9: NACK group 5, sequence 41 with SENT gathered meanwhile; no level lets the arbiter compose. -/
theorem test_nack :
    let g : Group := ⟨0, 1, 1, some ⟨1, 1, 8, 8, ⟨60, 0, 3, 8⟩⟩, .awaitingMore, 41⟩
    let s := { clear with notif := { clear.notif with groups := clear.notif.groups.set 5 g } }
    groupAt (run (.nack 11 [5, 41]) s) 5 = { g with delivery := .pending, sequence := 42 } ∧
      reply (run (.nack 11 [5, 40]) s) = some (11, 0x0A, []) := by decide +kernel

theorem test_evread :
    let g : Group := ⟨3, 1, 5, some ⟨1, 2, 8, 8, ⟨60, 0, 3, 8⟩⟩, .awaitingMore, 41⟩
    let t := run (.evread 12 [5]) { clear with notif := { clear.notif with groups := clear.notif.groups.set 5 g } }
    groupAt t 5 = { g with seen := 0 } ∧ reply t = some (12, 0, [5, 0, 3, 1, 0, 3, 41, 2]) := by decide +kernel

theorem test_unknown_request : reply (run (.unknownRequest 13 0x08 []) clear) = some (13, 1, []) := by decide +kernel

/-- 10.10: LSTAT with the tag of the deferred TCOMMIT. -/
theorem test_duplicate_tag : reply (run (.lstat 31 []) committing) = some (31, 0x0E, []) ∧
    reply (run (.lstat 6 [1]) committing) = some (6, 2, []) := by decide +kernel

/-! ### The host link -/

/-- 10.10: the eighth byte of the NMASK frame of tag 20 with mask level 3. -/
theorem test_frame_complete :
    let t := run (.inboundFrameComplete 0x65) (hearing (.check 4 [1, 20, 0x61, 3] (some 0x79)) clear)
    t.notif.mask = 3 ∧ t.link.parser = .sync ∧ reply t = some (20, 0, []) ∧ miso t = some 0xC3 := by decide +kernel

theorem test_frame_check_wrong :
    let t := run (.inboundFrameComplete 0x66) (hearing (.check 4 [1, 20, 0x61, 3] (some 0x79)) clear)
    t.notif.mask = 0 ∧ t.link.outbound = [] ∧ (groupAt t 9).seen = 1 := by decide +kernel

theorem test_frame_length :
    let t := run (.frameLength 244) (hearing .length clear)
    t.link.parser = .sync ∧ (groupAt t 9).seen = 2 := by decide +kernel

theorem test_transaction_end :
    let t := run .transactionEnd (hearing (.body 4 [1]) clear)
    t.link.parser = .sync ∧ t.link.exchange = none ∧ (groupAt t 9).seen = 8 := by decide +kernel

theorem test_transaction_start :
    miso (run .transactionStart clear) = some 0 ∧ miso (run .transactionStart State.reset) = some 0xC3 := by decide +kernel

/-- 10.10: the response's sync byte goes out: room 4, and the check over 04 02 14 00 04. -/
theorem test_sync_byte_out :
    let t := run (.syncByteClockedOut 0) (answering 0 none)
    t.link.outbound = [⟨.response, 20, 0, [], some (4, 0xAA45)⟩] ∧ t.link.delivered = 1 ∧ miso t = some 4 := by decide +kernel

/-- 10.10: it leaves the queue with its eighth byte, which releases ATTN. -/
theorem test_last_byte_out :
    let t := run (.frameClockedOut 0) (answering 7 (some (4, 0xAA45)))
    t.link.outbound = [] ∧ attn t = false ∧ miso t = some 0 := by decide +kernel

theorem test_exchange :
    (run (.exchangeComplete 0xC3) (hearing .sync clear)).link.parser = .length ∧
    miso (run (.exchangeComplete 0) (answering 6 (some (4, 0xAA45)))) = some 0x45 := by decide +kernel

/-- 8.9: the arbiter takes RECEPTION (4) before RECORDS (6), of equal level. -/
theorem test_arbiter :
    let g : Group := ⟨4, 7, 1, some ⟨1, 1, 5, 5, ⟨6, 14, 5, 3⟩⟩, .pending, 9⟩
    let s := { clear with notif := ⟨((clear.notif.groups.set 4 g).set 6 { g with enable := 3 }).set 8 { g with level := 2 }, 2⟩ }
    let t := run .notificationFrameComposed s
    t.link.outbound.map (fun f => (f.code, f.payload)) =
      [(4, [9, 1, 0, 1, 5, 5, 6, 14, 5, 3]), (6, [9, 1, 0, 1, 5, 5, 6, 14, 5, 3])] ∧
      (groupAt t 8).delivery = .pending := by decide +kernel

/-- R141, R106: an enabled kind gathers the detail and the number held, and no other group moves. -/
theorem test_raise :
    let s := withMask (nodeAt 100)
    let t := run (.lsetDisable 4 2) s
    groupAt t 3 = ⟨2, 7, 1, some ⟨1, 1, 22, 22, ⟨1, 4, 5, 0⟩⟩, .pending, 0⟩ ∧ groupAt t 2 = groupAt s 2 ∧
      t.notif = s.notif.acceptAll [⟨.laneChanged .B, 22, ⟨1, 4, 5, 0⟩⟩] := by decide +kernel

/-! ### Resets -/

theorem test_power_reset :
    let t := run .powerReset (nodeAt 100)
    t.tb = Timebase.reset ∧ t.resetting = some .power ∧ attn t = false := by decide +kernel

/-- R163: POWER wins over PIN; a request while the reset is in force is not received. -/
theorem test_pin_reset :
    (run .pinReset (run .powerReset clear)).resetting = some .power ∧ (run .pinReset clear).resetting = some .pin ∧
      run (.ident 1 []) (run .pinReset clear) = run .pinReset clear := by decide +kernel

theorem test_reset_end : reply (run .resetEnd (run .pinReset clear)) = some (0, 2, [1, 64, 48, 32, 16, 128, 10]) := by
  decide +kernel

/-! ### The timebase -/

/-- 3.4: the cycle-start event of cycle 23 settles the commit of tag 31. -/
theorem test_cycle_start_commit :
    let t := run (.cycleStart ⟨true, true⟩) { committing with tb := { committing.tb with offset := 9990 } }
    t.tb.cycle = 23 ∧ t.tb.offset = 0 ∧ t.sched.active = table ∧ t.sched.commitPending = false ∧
      t.link.outbound = [responseFrame 31 .ok []] ∧ t.now = 500010 ∧ cycleMark t = true := by decide +kernel

/-- 5.9: lane B in PROBATION with clean count 2 and good mark set becomes ACTIVE; a master's beacon meets it so. -/
theorem test_cycle_start_promotion :
    let s := { beaconing with
      launch := none, tb := { beaconing.tb with offset := 10000 }, cfg := { beaconing.cfg with probationCount := 3 }
      lanes := ⟨LaneUnit.reset, ⟨.probation, 0, 0, 2, true⟩⟩ }
    ((run (.cycleStart ⟨false, true⟩) s).launch.map Launch.lanes = some ab ∧
      (run (.cycleStart ⟨true, false⟩) s).launch.map Launch.lanes = some (LaneSet.single .A)) ∧
      (run (.cycleStart ⟨true, false⟩) s).lanes.b = LaneUnit.reset := by decide +kernel

/-- R98: both lanes are promoted at one cycle-start event, and the beacon launch comes between the two promotions. -/
theorem test_cycle_start_promotes_each :
    let s := { beaconing with
      launch := none, tb := { beaconing.tb with offset := 10000 }, cfg := { beaconing.cfg with probationCount := 3 }
      lanes := ⟨⟨.probation, 0, 0, 2, true⟩, ⟨.probation, 0, 0, 2, true⟩⟩ }
    let lanes := fun first => (run (.cycleStart first) s).launch.map Launch.lanes
    lanes ⟨false, false⟩ = none ∧ lanes ⟨true, false⟩ = some (LaneSet.single .A) ∧
      lanes ⟨false, true⟩ = some (LaneSet.single .B) ∧ lanes ⟨true, true⟩ = some ab := by decide +kernel

theorem test_pulse_end :
    let s := { nodeAt 1 with tb := { (nodeAt 1).tb with markUntil := some 500001 } }
    cycleMark s = true ∧ cycleMark (run .cycleMarkPulseEnd s) = false ∧ (run .cycleMarkPulseEnd s).tb.offset = 2 := by
  decide +kernel

theorem test_startup_listen_expiry :
    let t := run .startupListenExpiry listeningMaster
    t.tb.sync = .locked ∧ t.tb.cycle = 0 ∧ t.now = 20000 ∧ t.link.outbound = [responseFrame 9 .ok []] ∧
      onAirWords t .A = [0x4500, 0x0000, busCheck [0x4500, 0x0000]] := by decide +kernel

/-- 2.10: no beacon in cycle 20. -/
theorem test_deadline :
    let t := run .beaconDeadline { nodeAt 30 with tb := { (nodeAt 30).tb with beaconMark := false } }
    t.tb.sync = .holdover ∧ t.tb.missed = 1 ∧ t.tb.offset = 31 ∧ (groupAt t 0).seen = 3 := by decide +kernel

/-- 3.4: the fourth miss at holdover limit 4, with a launch on the air and a commit pending. -/
theorem test_holdover_limit :
    let s := { sending with
      tb := { sending.tb with sync := .holdover, missed := 3, beaconMark := false }
      sched := { committing.sched with window := sending.sched.window }, link := committing.link }
    let t := run .holdoverLimitReached s
    t.tb.sync = .listen ∧ t.tb.missed = 0 ∧ t.sched = ⟨table, table, false, none⟩ ∧ t.launch = none ∧ t.recs = s.recs ∧
      t.link.outbound = [responseFrame 31 .ok []] ∧ t.tb.cycle = 22 := by decide +kernel

/-- 2.10: a late beacon of arrival 11 lengthens cycle 17 by 4. -/
theorem test_late_beacon :
    let s := { nodeAt 20 with tb := { (nodeAt 20).tb with cycle := 17, beaconMark := false } }
    let t := run (.freeMessageEnd .A 7 ⟨4, beacon 17 0x0DE7⟩) s
    t.tb.length = 10004 ∧ t.tb.beaconMark = true ∧ t.tb.cycle = 17 ∧ t.tb.offset = 27 ∧ t.tb.sync = .locked := by
  decide +kernel

/-- Cycle 41 begins, after a cycle 40 of its nominal length. -/
def newCycle : State :=
  { nodeAt 0 with tb := { (nodeAt 0).tb with
      cycle := 41, beaconMark := false, past := [⟨490000, 500000, 10000, 10000⟩] } }

/-- 2.10: an early beacon stamped 9,995 of cycle 40 shortens cycle 41 by 4. -/
theorem test_early_beacon :
    let t := run (.freeMessageEnd .A 11 ⟨4, beacon 41 0xA8F0⟩) newCycle
    t.tb.length = 9996 ∧ t.tb.beaconMark = true ∧ (groupAt t 0).seen = 0 := by decide +kernel

/-- 2.10: a master's start refused by a running network. -/
theorem test_master_conflict :
    let t := run (.freeMessageEnd .B 6130 ⟨4, beacon 52 0x6B6D⟩) listeningMaster
    t.tb.sync = .acquire ∧ t.tb.role = .follower ∧ t.cfg.role = .master ∧ t.tb.cycle = 52 ∧ t.tb.offset = 20 ∧
      t.tb.startupListen = none ∧ t.link.outbound = [responseFrame 9 .masterConflict []] ∧ (groupAt t 0).seen = 9 := by
  decide +kernel

/-- R25: the startup listen expires first, and the beacon handed over at that moment meets a LOCKED master. -/
theorem test_expiry_before_beacon :
    let t := run (.freeMessageEnd .B 0 ⟨4, beacon 52 0x6B6D⟩) (run .startupListenExpiry listeningMaster)
    t.tb.sync = .acquire ∧ t.tb.role = .follower ∧ t.tb.cycle = 52 ∧ t.launch = none ∧ (groupAt t 0).seen = 9 ∧
      t.link.outbound = [responseFrame 9 .ok []] := by decide +kernel

/-- A message of eight payload words with a wrong check, 48 microseconds from its arrival to its end. -/
def longMessage : Message := ⟨0x8C08 :: List.replicate 10 0, .delimiter⟩

/-- R15: a launch abandons the message in progress; without one its arrival in the beacon window costs a debit of 2. -/
theorem test_launch_abandons :
    let s := run (.sendLaunchEnd noEcho noEcho) (run (.sendWindowStart 0) (nodeAt 20))
    s.tb.offset = 52 ∧ run (.freeMessageEnd .A 16 ⟨4, longMessage⟩) s = s ∧
      (run (.freeMessageEnd .A 16 ⟨4, longMessage⟩) (nodeAt 52)).lanes.a = unit .active 2 := by decide +kernel

/-- R2: a second message on a lane whose first one ends only now was not heard; on the other lane it was. -/
theorem test_messages_overlap :
    let m : Message := ⟨goodWords, .delimiter⟩
    let t := run (.freeMessageEnd .A 24 ⟨4, m⟩) (nodeAt 1000)
    (t.rx.a.busy = 500024 ∧ t.rx.b.busy = 0) ∧ run (.freeMessageEnd .A 0 ⟨4, m⟩) t = t ∧
      (run (.freeMessageEnd .B 0 ⟨4, m⟩) t).rx.b.busy = 500024 := by decide +kernel

/-! ### Windows and launches -/

/-- 1.8, 3.8: DATA of two words on both lanes, sequence 5, from a FRESH buffer of sequence 4. -/
theorem test_send_window :
    let t := run (.sendWindowStart 0) (nodeAt 20)
    t.launch.map Launch.words = some [0x8502, 0x1565, 0x1111, 0x2222, 0x6918] ∧ txen t .B = true ∧
      t.bufs = pool.set 3 ⟨[0x1111, 0x2222], .send .stale .repeat 5 1⟩ := by decide +kernel

/-- 3.8: no lane of the entry is ACTIVE: the window is suppressed, and its record says so. -/
theorem test_send_suppressed :
    let t := run (.sendWindowStart 0) (withLanes (unit .faulted 24) (unit .disabled 0) (nodeAt 20))
    t.launch = none ∧ t.recs.records.map (fun r => (r.kind, r.slot, r.outcomes)) =
      [(.suppressed, 5, ⟨.notUsed, .notUsed⟩)] ∧ (groupAt t 1).seen = 4 := by decide +kernel

theorem test_expect_window_start :
    (run (.expectWindowStart 4) (withLanes LaneUnit.reset (unit .probation 0) (nodeAt 60))).sched.window =
      some ⟨4, expectEntry, 22, .expect ab (LaneSet.single .B) LaneSet.none⟩ := by decide +kernel

/-- 6.8: of two eligible entries of one priority the older is chosen; it carries sequence 8 on slot 40. -/
theorem test_open_window :
    let s := { nodeAt 200 with spor := ⟨posted false, 24⟩, lanes := ⟨LaneUnit.reset, unit .faulted 24⟩ }
    let t := run (.openWindowStart 8) s
    t.spor = ⟨posted true, 24⟩ ∧ t.bufs = pool.set 42 ⟨[1, 2, 3, 4], .sporadic 8⟩ ∧
      onAirWords t .A = [0x8504, 0xA168, 1, 2, 3, 4, 0xA8C3] ∧ onAirWords t .B = [] := by decide +kernel

theorem test_quiet_window_start :
    (run (.quietWindowStart 7) (nodeAt 156)).sched.window =
      some ⟨7, quietEntry, 22, .quiet ab LaneSet.none LaneSet.none false⟩ ∧
    (run (.quietWindowStart 7) { nodeAt 156 with tb := { (nodeAt 156).tb with cycle := 32 } }).sched.window = none := by
  decide +kernel

theorem test_breach :
    let t := run (.breach .B 170) (watching false)
    t.recs.records.map (fun r => (r.kind, r.outcomes, r.arrival)) = [(.quietBreach, ⟨.notUsed, .carrierSeen⟩, some 170)] ∧
      (groupAt t 7).seen = 1 := by decide +kernel

/-- R2, R63: on a lane whose activity has been handed on up to offset 165, a carrier start at 163 is none. -/
theorem test_breach_quiet_lane :
    let s := { watching false with rx := { (watching false).rx with b := { Receiver.reset with busy := 500005 } } }
    run (.breach .B 163) s = s ∧ (run (.breach .A 163) s).recs.records.length = 1 := by decide +kernel

/-- 1.8: lane A's message of ten words has not ended by the window end, lane B's has: TIMING and GOOD. -/
theorem test_lane_outcomes :
    let e : Entry := ⟨9, .expect, 1000, 56, ab, some 10, some (.node 12), some 8, everyCycle, true, true⟩
    let a : Heard := .message 1000 1004 ⟨[0x8C0A, 0x2680, 1, 2, 3, 4, 5, 6, 7, 8, 9, 10, 0], .delimiter⟩
    let b : Heard := .message 1000 1004 ⟨[0x8C08, 0x2680, 1, 2, 3, 4, 5, 6, 7, 8, 0x4730], .delimiter⟩
    judge e 2 40 (judged 1056 [a]) = .timing ∧ judge e 2 40 (judged 1056 [b]) = .good ∧
      judge e 2 40 (judged 1056 []) = .silent ∧
      (factsOf .good (judged 1056 [b])).endOffset = some 1052 := by decide +kernel

/-- R3, R12, R13: a start delimiter is recognised 2 microseconds after the arrival, and that must lie before the window end:
of a window that ends at 156 the arrival 153 is judged, 154 is not; nor is a carrier that is lost within its start delimiter. -/
theorem test_recognised :
    let o := fun heard => (run (.expectWindowEnd heard []) (listening 120)).recs.records.map fun r => r.outcomes.a
    o [.message 149 153 ⟨[], .inProgress⟩] = [.timing] ∧ o [.message 150 154 ⟨[], .inProgress⟩] = [.silent] ∧
      o [.message 100 104 ⟨[], .cut 1⟩] = [.silent] ∧ o [.message 100 104 ⟨[], .cut 2⟩] = [.check] := by decide +kernel

/-- Lane A's receiver leaves OFF at the moment 500000. -/
def awake : State := { nodeAt 10 with rx := (nodeAt 10).rx.update .A (Receiver.listen 500000) }

/-- R10, R15: the receiver leaves OFF at 500000. A start delimiter recognised from then on is taken, an earlier one is not:
arrivals at 499998 and 499997. -/
theorem test_leaves_off :
    let m : Message := ⟨[0x4300], .cut 8⟩
    (run (.freeMessageEnd .A 6 ⟨4, m⟩) awake).lanes.a.debit = 2 ∧ run (.freeMessageEnd .A 5 ⟨4, m⟩) awake = awake := by decide +kernel

/-- R2, R12: noise is passed over, the first message is judged, and what follows it is ignored. -/
theorem test_first_message :
    let t := run (.expectWindowEnd [.noise 100 101, goodMessage 106, .noise 131 140] [.noise 100 101, .noise 110 150])
      (listening 120)
    t.recs.records.map (fun r => (r.outcomes, r.arrival, r.endOffset)) = [(⟨.good, .silent⟩, some 106, some 130)] := by
  decide +kernel

/-- R12: a carrier present at the window-start event is not the window's. -/
theorem test_carrier_before_window :
    (run (.expectWindowEnd [.message 99 102 ⟨goodWords, .delimiter⟩] []) (listening 120)).recs.records.map
      (fun r => (r.kind, r.outcomes)) = [(.missing, ⟨.silent, .silent⟩)] := by decide +kernel

/-- R12: the message abandoned at the window end is not picked up as a free message afterwards. -/
theorem test_abandoned_message :
    let m : Message := ⟨goodWords, .delimiter⟩
    let t := run (.expectWindowEnd [.message 130 134 m] []) (listening 140)
    t.recs.records.map (fun r => (r.kind, r.outcomes)) = [(.faulty, ⟨.timing, .silent⟩)] ∧
      run (.freeMessageEnd .A 2 ⟨4, m⟩) t = t := by decide +kernel

/-- 4.5, 5.9: GOOD on lane B alone, lane A SILENT: stored from B, and A is charged 2. -/
theorem test_expect_window_end :
    let t := run (.expectWindowEnd [] [goodMessage 104])
      (withLanes (unit .active 0) (unit .active 2) (listening 120))
    t.bufs = pool.set 10 ⟨[0x1234, 0xABCD],
      .receive ⟨.new, some 12, LaneSet.single .B, false, some 104, some 22, some 22, false, 6, 0⟩⟩ ∧
    t.lanes = ⟨unit .active 2, unit .active 1⟩ ∧
    t.recs.records.map (fun r => (r.kind, r.outcomes, r.sender, r.endOffset)) =
      [(.received, ⟨.silent, .good⟩, some 12, some 128)] := by decide +kernel

/-- 4.5: NULL_HEARD changes the null seen mark and the last heard cycle alone. -/
theorem test_null_heard :
    let r : RxStatus := ⟨.read, some 17, LaneSet.single .A, false, some 2004, some 21, some 21, false, 11, 1⟩
    let t := run (.expectWindowEnd [nullMessage] []) { listening 120 with bufs := pool.set 10 ⟨[5], .receive r⟩ }
    t.bufs = pool.set 10 ⟨[5], .receive { r with nullSeen := true, lastHeard := some 22 }⟩ := by decide +kernel

theorem test_window_end :
    let t := run .windowEnd (watching true)
    t.sched.window = none ∧ t.tb.offset = 200 ∧ run .windowEnd (listening 120) = listening 120 := by decide +kernel

/-- 3.8: the launch ends at 24 + 20 + 8, a right echo on A, none on B. -/
theorem test_send_launch_end :
    let t := run (.sendLaunchEnd (echo [0x8502, 0x1565, 0x1111, 0x2222, 0x6918]) noEcho)
      (withLanes (unit .active 3) (unit .active 0) sending)
    t.launch = none ∧ t.tb.offset = 52 ∧ t.lanes = ⟨unit .active 2, unit .active 4⟩ ∧
      t.recs.records.map (fun r => (r.kind, r.outcomes, r.arrival)) = [(.sent, ⟨.echoOk, .echoFault⟩, some 28)] ∧
      t.recs.records.map (fun r => (r.endOffset, r.detail)) = [(some 52, (2, 5))] := by decide +kernel

/-- 6.8: ticket 23 leaves the queue, with SENT, and its buffer is released. -/
theorem test_sporadic_launch_end :
    let t := run (.sporadicLaunchEnd (echo [0x8504, 0xA168, 1, 2, 3, 4, 0xA8C3]) noEcho) sendingSporadic
    t.spor.entries = (posted true).drop 1 ∧ t.tb.offset = 6036 ∧ isHeld t 42 = false ∧ (groupAt t 5).seen = 1 ∧
      t.recs.records.map (fun r => (r.kind, r.position, r.detail)) = [(.sporadicSent, some 8, (23, 0))] := by decide +kernel

theorem test_beacon_launch_end :
    let t := run (.beaconLaunchEnd (echo [0x4500, 0x0170, 0x642E]) (echo [0x4500, 0x0170, 0x642F])) beaconing
    t.launch = none ∧ t.lanes = ⟨unit .active 0, unit .active 4⟩ ∧ t.recs.records = [] ∧ t.tb.offset = 20 := by
  decide +kernel

/-! ### Reactions to a cycle-start event -/

/-- A state at the moment of a cycle-start event. -/
def atStart (s : State) : State := { s with tb := { s.tb with offset := 0, atCycleStart := true } }

/-- 6.8: ticket 31's life has run out, ticket 30 stays. -/
def expiring : State :=
  { atStart (nodeAt 0) with spor := ⟨[⟨30, 42, ab, 0, none, 1, false⟩, ⟨31, 43, ab, 0, none, 0, false⟩], 31⟩ }

theorem test_expiry :
    let t := run .expiry expiring
    t.spor.entries = [⟨30, 42, ab, 0, none, 1, false⟩] ∧ (groupAt t 5).seen = 2 ∧
      t.recs.records.map (fun r => (r.kind, r.detail)) = [(.sporadicExpired, (31, 0))] := by decide +kernel

theorem test_hold_expired :
    (run (.holdExpired .B) (withLanes LaneUnit.reset ⟨.faulted, 24, 16, 0, false⟩ (atStart (nodeAt 0)))).lanes.b =
      unit .probation 0 := by decide +kernel

theorem test_probation_passed :
    (run (.probationPassed .B) (withLanes LaneUnit.reset ⟨.probation, 0, 0, 8, false⟩ (atStart (nodeAt 0)))).lanes.b =
      unit .active 0 := by decide +kernel

/-! ### The step -/

/-- With no command waiting time passes, up to what comes next. -/
theorem test_idle_microtick :
    (after (step clear)).now = 1 ∧ (after (step (nodeAt 20))).tb.offset = 21 ∧
      (after (step (nodeAt 24))).sched.window.map Window.position = some 0 ∧
      after (step (run .pinReset clear)) = run .pinReset clear := by decide +kernel


/-! ### Witnesses: for each statement with hypotheses, states and operands that meet them, clause by clause -/

/-- Every command answers a next state. -/
theorem exec_run (c : Instr) (s : State) : exec c s = .next (run c s) := by cases c <;> rfl

/-- A record queue, sporadic queue, buffer pool or sync state in place of the node's. -/
def withRecords (q : RecordQueue) (s : State) : State := { s with recs := q }
def withPosts (es : List SporadicEntry) (s : State) : State := { s with spor := ⟨es, 24⟩ }
def withBuffer (n : Nat) (b : Buffer) (s : State) : State := { s with bufs := pool.set n b }
def withSync (y : Sync) (s : State) : State := { s with tb := { s.tb with sync := y } }
def withGroup (n : Nat) (g : Group) (s : State) : State := { s with notif := { s.notif with groups := s.notif.groups.set n g } }

/-- An EDIT bank that fails. -/
def misfit (s : State) : State :=
  { s with sched := { s.sched with edit := bank (some { sendEntry with cycles := 0 }) none none none } }

/-- Sixteen posts. -/
def sixteen : List SporadicEntry := (List.range 16).map fun i => ⟨i + 1, 20 + i, ab, 3, some 63, 255, false⟩

/-- A pool with SPORADIC buffers for them. -/
def sixteenPool : List Buffer :=
  List.replicate 20 Buffer.unused ++ List.replicate 16 ⟨[1], .sporadic 15⟩ ++ List.replicate 12 Buffer.unused

/-- The smallest and the largest CONFIG payload, and one that fails at each end. -/
def configLow : List Byte := [1, 1, 200, 0, 1, 1, 1, 1, 1, 4, 1, 1, 0]
def configHigh : List Byte := [63, 2, 0xE8, 0xFD, 8, 16, 10, 15, 2, 60, 255, 255, 1]

/-- An EPUT payload with every field at an end of its range. -/
def entryHigh : List Byte := [63, 63, 2, 3, 0xFF, 0xFF, 0xFF, 0xFF, 47, 0xFF, 32, 3] ++ List.replicate 8 0xFF

/-- What the clock asks of a state with no command waiting, clause by clause; in the last the next event is the launch's end. -/
theorem witness_StepRunsACommandOrTheClock :
    (let s := run .pinReset clear
     s.pending = [] ∧ s.resetting ≠ none) ∧
    (let s := { listeningMaster with now := 20000 }
     s.pending = [] ∧ s.resetting = none ∧ s.tb.startupListen = some 20000 ∧ 20000 ≤ s.now) ∧
    (let s := { nodeAt 2 with tb := { (nodeAt 2).tb with markUntil := some 500000 } }
     s.tb.startupListen = none ∧ s.tb.markUntil = some 500000 ∧ 500000 ≤ s.now) ∧
    (clear.tb.startupListen = none ∧ clear.tb.markUntil = none ∧ clear.tb.sync.running = false) ∧
    (let s := nodeIn 200 7 quietEntry (.quiet ab LaneSet.none LaneSet.none true)
     s.tb.sync.running = true ∧ s.launch = none ∧ s.sched.window = some ⟨7, quietEntry, 22, .quiet ab LaneSet.none LaneSet.none true⟩ ∧
      (⟨7, quietEntry, 22, .quiet ab LaneSet.none LaneSet.none true⟩ : Window).ends = s.tb.offset) ∧
    (let s := { nodeAt 31 with tb := { (nodeAt 31).tb with deadlinePassed := false } }
     s.sched.window = none ∧ deadlineDue s = true ∧ s.tb.offset = 21 + s.cfg.lockWindow) ∧
    (deadlineDue (nodeAt 10000) = false ∧ cycleEnds (nodeAt 10000) = true ∧ (nodeAt 10000).tb.offset = (nodeAt 10000).tb.length) ∧
    (cycleEnds (nodeAt 24) = true ∧ (nodeAt 24).tb.offset ≠ (nodeAt 24).tb.length ∧
      opens (nodeAt 24) .send 0 = some sendEntry ∧ opens (nodeAt 100) .expect 4 = some expectEntry ∧
      opens (nodeAt 160) .quiet 7 = some quietEntry ∧ opens (nodeAt 6000) .openSlot 8 = some openEntry) ∧
    (reaches (nodeAt 1000) 1001 = true ∧
      (let s := { sending with tb := { sending.tb with offset := 52 } }
       s.launch.map Launch.ends = some 52 ∧ reaches s 53 = false)) := by decide +kernel

theorem witness_CommandsLeaveTheQueue :
    exec (.reset 1 []) { clear with pending := [.windowEnd] } = .next (run (.reset 1 []) { clear with pending := [.windowEnd] }) :=
  exec_run _ _

theorem witness_QueriesAnswered :
    Ready 1 (nodeAt 100) ∧ (63 : Byte).toNat ≤ 63 ∧ 63 < (64 : Byte).toNat ∧ (0 : Byte) ≠ 1 ∧ (0 : Byte) ≠ 2 ∧
    (3 : Byte) ≠ 1 ∧ (3 : Byte) ≠ 2 ∧ validate (nodeAt 100).cfg (nodeAt 100).bufs (nodeAt 100).sched.edit = none ∧
    Ready 255 (misfit clear) ∧
    validate (misfit clear).cfg (misfit clear).bufs (misfit clear).sched.edit = some ⟨.cyclesEmpty, 0, none⟩ := by
  decide +kernel

theorem witness_CfggetAnswersTheStore :
    (Ready 1 clear ∧ ParamsSound clear.cfg) ∧
    (Ready 255 configured ∧ ParamsSound configured.cfg ∧ configured.cfg.nodeId ≠ 0) ∧
    (ParamsSound (configOf configLow) ∧ ParamsSound (configOf configHigh)) :=
  ⟨by decide +kernel, by decide +kernel, by decide +kernel⟩

theorem witness_LstatAnswersTheLanes : Ready 1 clear ∧ Ready 255 (nodeAt 100) := by decide +kernel

theorem witness_HandlerRefusals :
    Idle clear ∧ (1 : Byte) ≠ 0 ∧ tagInUse 1 [] clear.link.deferred = false ∧
    Code.ofByte 0x00 = none ∧ Code.ofByte 0x64 = none ∧ Code.ofByte 0xFF = none ∧
    ([] : List Byte).length ≠ Code.bwrite.required [] ∧ [(0 : Byte)].length ≠ Code.ident.required [0] ∧
    Idle committing ∧ (31 : Byte) ≠ 0 ∧ tagInUse 31 [] committing.link.deferred = true := by decide +kernel

theorem witness_ConfigStoresOrRefuses :
    Ready 1 (nodeAt 100) ∧ (nodeAt 100).tb.sync ≠ .offline ∧ Ready 1 configured ∧ configured.tb.sync = .offline ∧
    configLow.length = 13 ∧ configBad configLow = none ∧ configHigh.length = 13 ∧ configBad configHigh = none ∧
    configBad (configLow.set 0 0) = some 0 ∧ configBad (configHigh.set 12 2) = some 12 ∧
    configBad (configLow.set 2 199) = some 2 ∧ configBad (configHigh.set 9 61) = some 9 ∧
    validate (configOf configLow) configured.bufs configured.sched.active = none ∧
    (let s := { configured with sched := { Schedule.reset with active := table }, bufs := pool }
     Ready 1 s ∧ s.tb.sync = .offline ∧ validate (configOf configLow) s.bufs s.sched.active = some ⟨.pastTail, 7, none⟩) := by
  decide +kernel

/-- The node as a master, OFFLINE. -/
def master : State := { configured with cfg := { configured.cfg with role := .master } }

theorem witness_StartEntersListen :
    (Ready 1 (nodeAt 100) ∧ TenGroups (nodeAt 100) ∧ (nodeAt 100).tb.sync ≠ .offline) ∧
    (Ready 1 clear ∧ TenGroups clear ∧ clear.tb.sync = .offline ∧ clear.cfg.nodeId = 0) ∧
    (Ready 1 configured ∧ TenGroups configured ∧ configured.tb.sync = .offline ∧ configured.cfg.nodeId ≠ 0 ∧
      configured.cfg.role = .follower) ∧
    (Ready 1 master ∧ TenGroups master ∧ master.tb.sync = .offline ∧ master.cfg.nodeId ≠ 0 ∧ master.cfg.role = .master) := by
  decide +kernel

theorem committing_deferred : DeferredSound committing := And.intro rfl (And.intro rfl rfl)
theorem listening_deferred : DeferredSound listeningMaster :=
  And.intro rfl (And.intro rfl (And.intro rfl rfl))
theorem clear_deferred : DeferredSound clear := And.intro rfl rfl
theorem sending_deferred : DeferredSound sending := And.intro rfl rfl

theorem witness_StopEndsOffline :
    (Ready 33 clear ∧ TenGroups clear ∧ DeferredSound clear ∧ LinkSound clear.link ∧ clear.tb.sync = .offline) ∧
    (Ready 33 sending ∧ TenGroups sending ∧ DeferredSound sending ∧ LinkSound sending.link ∧ sending.tb.sync ≠ .offline) ∧
    (Ready 33 committing ∧ TenGroups committing ∧ DeferredSound committing ∧ LinkSound committing.link ∧
      committing.tb.sync ≠ .offline ∧ committing.sched.commitPending = true) ∧
    (Ready 33 listeningMaster ∧ TenGroups listeningMaster ∧ DeferredSound listeningMaster ∧
      LinkSound listeningMaster.link ∧ listeningMaster.tb.sync ≠ .offline) :=
  ⟨⟨by decide +kernel, by decide +kernel, clear_deferred, by decide +kernel, by decide +kernel⟩,
   ⟨by decide +kernel, by decide +kernel, sending_deferred, by decide +kernel, by decide +kernel⟩,
   ⟨by decide +kernel, by decide +kernel, committing_deferred, by decide +kernel, by decide +kernel⟩,
   ⟨by decide +kernel, by decide +kernel, listening_deferred, by decide +kernel, by decide +kernel⟩⟩

theorem witness_ResetRequestResets : Ready 1 (nodeAt 100) ∧ Ready 255 (hearing .sync sending) := by decide +kernel

/-- A state in which a reset of cause PIN is in force. -/
def held : State := run .pinReset (hearing (.body 4 [1]) sending)

theorem witness_OutsideResets :
    (held.resetting = some .pin ∧ ResetSound held) ∧
    (run .powerReset held).resetting = some .power ∧ ResetSound (run .powerReset held) := by decide +kernel

theorem witness_ResetHoldsThePart :
    ResetSound held ∧ held.resetting.isSome = true ∧ Instr.transactionEnd ≠ .resetEnd ∧
      exec .transactionEnd held = .next (run .transactionEnd held) :=
  ⟨by decide +kernel, by decide +kernel, by decide, exec_run _ _⟩

theorem witness_EditRequests :
    (Ready 32 committing ∧ committing.sched.commitPending = true ∧ entryHigh.length = 20) ∧
    Ready 1 (nodeAt 100) ∧ (nodeAt 100).sched.commitPending = false ∧ entryBad entryHigh = none ∧
    entryBad (entryHigh.set 0 64) = some 0 ∧ (entryHigh.set 0 64).length = 20 ∧ entryBad (entryHigh.set 10 33) = some 10 ∧
    (63 : Byte).toNat ≤ 63 ∧ 63 < (64 : Byte).toNat := by decide +kernel

theorem witness_EntryRoundTrip :
    63 ≤ 63 ∧ EntrySound sendEntry ∧ EntrySound expectEntry ∧ EntrySound quietEntry ∧ EntrySound openEntry ∧
      ∀ n, expectEntry.sender = some (.node n) → 1 ≤ n ∧ n ≤ 63 := by
  refine ⟨Nat.le_refl _, ?_, ?_, ?_, ?_, ?_⟩ <;> simp [sendEntry, expectEntry, quietEntry, openEntry] <;> decide

theorem witness_ValidationFollowsTheTests :
    (validate configured.cfg pool table = none ∧ (4 : Nat) ≠ 7 ∧ Bank.entryAt table 4 = some expectEntry ∧
      Bank.entryAt table 7 = some quietEntry ∧ expectEntry.activeIn 31 = true ∧ quietEntry.activeIn 31 = true) ∧
    (let v := fun e => validate configured.cfg pool (bank (some sendEntry) (some e) none none)
     v { expectEntry with cycles := 0, start := 23 } = some ⟨.cyclesEmpty, 4, none⟩ ∧
      v { expectEntry with start := 23 } = some ⟨.beforeBeacon, 4, none⟩ ∧
      v { expectEntry with start := 9925 } = some ⟨.pastTail, 4, none⟩ ∧
      v { expectEntry with length := 55 } = some ⟨.windowShort, 4, none⟩ ∧
      v { expectEntry with buffer := some 3 } = some ⟨.bufferKind, 4, none⟩ ∧
      v { expectEntry with sender := some (.node 5) } = some ⟨.senderSelf, 4, none⟩ ∧
      v { expectEntry with start := 79 } = some ⟨.overlap, 0, some 4⟩ ∧ v { expectEntry with start := 80 } = none ∧
      v { expectEntry with slot := 5 } = some ⟨.dupSlot, 0, some 4⟩) := by
  decide +kernel

theorem witness_CommitAtOnceOrPending :
    (Ready 32 committing ∧ TenGroups committing ∧ committing.sched.commitPending = true) ∧
    (Ready 1 (misfit clear) ∧ TenGroups (misfit clear) ∧ (misfit clear).sched.commitPending = false ∧
      (validate (misfit clear).cfg (misfit clear).bufs (misfit clear).sched.edit).isSome = true) ∧
    (Ready 1 (nodeAt 100) ∧ TenGroups (nodeAt 100) ∧ (nodeAt 100).sched.commitPending = false ∧
      validate (nodeAt 100).cfg (nodeAt 100).bufs (nodeAt 100).sched.edit = none ∧ (nodeAt 100).tb.sync.running = true) ∧
    (let s := withSync .listen (nodeAt 0)
     Ready 1 s ∧ TenGroups s ∧ s.sched.commitPending = false ∧ validate s.cfg s.bufs s.sched.edit = none ∧
      s.tb.sync.running = false) := by decide +kernel

theorem witness_CancelEndsTheCommit :
    (Ready 32 clear ∧ TenGroups clear ∧ LinkSound clear.link ∧ clear.sched.commitPending = false) ∧
    (Ready 32 committing ∧ TenGroups committing ∧ LinkSound committing.link ∧ committing.sched.commitPending = true ∧
      committing.link.deferred = some ⟨.tcommit, 31⟩) := by decide +kernel

theorem witness_BufferSetupAndRefusals :
    (let s := withPosts (posted false) (nodeAt 100)
     Ready 1 s ∧ 47 < (48 : Byte).toNat ∧ (47 : Byte).toNat ≤ 47 ∧ 3 < (4 : Byte).toNat ∧ (3 : Byte).toNat ≤ 3 ∧
      (3 : Byte) ≠ 1 ∧ (3 : Byte) ≠ 2 ∧ referenced s 3 = true ∧ referenced s 42 = false ∧ isHeld s 42 = true ∧
      referenced s 47 = false ∧ isHeld s 47 = false ∧
      (List.replicate 64 (0 : Byte)).length = 2 * (32 : Byte).toNat ∧ (32 : Byte).toNat ≤ 32 ∧
      (List.replicate 66 (0 : Byte)).length = 2 * (33 : Byte).toNat ∧ 32 < (33 : Byte).toNat ∧
      (bufferAt s 47).status = .unused ∧ (bufferAt s 10).status = .receive RxStatus.setup ∧
      (bufferAt s 42).status = .sporadic 7) := by decide +kernel

theorem witness_WriteThenRead :
    (let s := nodeAt 100
     Ready 1 s ∧ Ready 255 s ∧ s.link.outbound.length + s.link.reservations < 7 ∧ (42 : Byte).toNat < s.bufs.length ∧
      (42 : Byte).toNat ≤ 47 ∧ (List.replicate 32 (0xFFFF : Word)).length ≤ 32 ∧ isHeld s 42 = false ∧
      isHeld s 3 = false ∧ (bufferAt s 3).status = .send .fresh .repeat 4 0 ∧ (bufferAt s 42).status = .sporadic 7) := by
  decide +kernel

/-- A RECEIVE buffer that holds unread data. -/
def unread : RxStatus := ⟨.new, some 40, ab, false, some 5004, some 30, some 30, false, 6, 1⟩

theorem witness_ReadMarksRead :
    (let s := withBuffer 47 ⟨[7, 8, 9], .receive unread⟩ (nodeAt 100)
     Ready 1 s ∧ 47 < (48 : Byte).toNat ∧ (47 : Byte).toNat ≤ 47 ∧ (bufferAt s 0).status = .unused ∧
      (bufferAt s 47).status = .receive unread ∧ unread.state = .new ∧ (0 : Byte).getLsbD 0 = false ∧
      (1 : Byte).getLsbD 0 = true ∧ (bufferAt s 3).status ≠ .unused ∧
      8 < (9 : Byte).toNat ∧ 48 < (47 : Byte).toNat + (2 : Byte).toNat ∧ 1 ≤ (8 : Byte).toNat ∧ (8 : Byte).toNat ≤ 8 ∧
      (40 : Byte).toNat + (8 : Byte).toNat ≤ 48) := by decide +kernel

theorem witness_LaneDisableAndEnable :
    (let s := withLanes (unit .disabled 7) (unit .active 23) (listening 120)
     Ready 1 s ∧ TenGroups s ∧ (s.lanes.get .A).state = .disabled ∧ (s.lanes.get .B).state ≠ .disabled ∧
      (s.lanes.get .B).state = .active) ∧
    (let s := withLanes (unit .faulted 24) (unit .probation 0) (listening 120)
     Ready 1 s ∧ TenGroups s ∧ (s.lanes.get .A).state = .faulted ∧ (s.lanes.get .B).state = .probation) := by
  decide +kernel

theorem witness_LaneClear :
    (let s := withLanes (unit .active 24) (unit .disabled 7) clear
     Ready 1 s ∧ (s.lanes.get .A).state = .active ∧ (s.lanes.get .B).state ≠ .active) := by decide +kernel

theorem witness_OutcomeGradesItsLane :
    (let s := withLanes (unit .active 23) (unit .probation 0) clear
     1 ≤ s.cfg.debitLimit ∧ (gradeOutcome .A .check false none 0 s).lanes.a.state = .faulted ∧
      (gradeOutcome .B .good false none 0 s).lanes.b.good = true) := by decide +kernel

/-- The node with posts of these in the pool for sixteen. -/
def posts (es : List SporadicEntry) : State := { withPosts es (nodeAt 100) with bufs := sixteenPool }

theorem witness_PostAppends :
    (Ready 1 (posts sixteen) ∧ SporadicSound (posts sixteen) ∧ (posts sixteen).spor.entries.length = 16) ∧
    (let s := posts (sixteen.take 15)
     Ready 1 s ∧ SporadicSound s ∧ s.spor.entries.length < 16) ∧
    (let s := posts (sixteen.take 15)
     let p : List Byte := [35, 3, 3, 255, 255]
     p.length = 5 ∧ postBad p = none ∧ (bufferAt s (fieldAt p 0)).isSporadic = true ∧ isHeld s (fieldAt p 0) = false) ∧
    (let s := posts (sixteen.take 15)
     let p : List Byte := [20, 1, 0, 63, 1]
     p.length = 5 ∧ postBad p = none ∧ (bufferAt s (fieldAt p 0)).isSporadic = true ∧ isHeld s (fieldAt p 0) = true) ∧
    (let p : List Byte := [47, 2, 0, 1, 1]
     p.length = 5 ∧ postBad p = none ∧ (bufferAt (posts (sixteen.take 15)) (fieldAt p 0)).isSporadic = false) ∧
    (postBad [48, 1, 0, 63, 1] = some 0 ∧ postBad [47, 1, 0, 63, 0] = some 4 ∧ postBad [47, 1, 0, 64, 1] = some 3) :=
  ⟨by decide +kernel, by decide +kernel, by decide +kernel, by decide +kernel, by decide +kernel, by decide +kernel⟩

theorem witness_CancelByTicket :
    (let s := withPosts (posted true) (nodeAt 100)
     Ready 1 s ∧ SporadicSound s ∧ (∀ e ∈ s.spor.entries, e.ticket ≠ ((0 : Byte) ++ (25 : Byte)).toNat) ∧
      s.spor.entries = [] ++ (⟨23, 42, ab, 1, some 40, 5, true⟩ : SporadicEntry) :: (posted true).drop 1 ∧
      (23 : Nat) = ((0 : Byte) ++ (23 : Byte)).toNat ∧
      s.spor.entries = (posted true).take 1 ++ (⟨24, 43, LaneSet.single .A, 1, none, 7, false⟩ : SporadicEntry) :: [] ∧
      (24 : Nat) = ((0 : Byte) ++ (24 : Byte)).toNat) := by decide +kernel

theorem witness_FetchAndThreshold :
    Ready 1 (withRecords ⟨recordsFrom 310 13, 323, 0, 8⟩ clear) ∧ 1 ≤ (12 : Byte).toNat ∧ (12 : Byte).toNat ≤ 12 ∧
    12 < (13 : Byte).toNat ∧ 1 ≤ (128 : Byte).toNat ∧ (128 : Byte).toNat ≤ 128 ∧ 128 < (129 : Byte).toNat := by
  decide +kernel

theorem witness_RecordsFiledAndDropped :
    (let s := withRecords ⟨recordsFrom 1000 128, 1128, 3, 128⟩ clear
     Ready 1 s ∧ TenGroups s ∧ 128 < (129 : Byte).toNat ∧ 1 ≤ (128 : Byte).toNat ∧ (128 : Byte).toNat ≤ 128 ∧
      (128 : Byte).toNat ≤ s.recs.records.length ∧ s.recs.lost ≠ 0 ∧
      ¬ s.recs.records.length < 128) ∧
    (let s := withRecords ⟨recordsFrom 0 127, 127, 0, 128⟩ clear
     Ready 1 s ∧ TenGroups s ∧ s.recs.records.length < (128 : Byte).toNat ∧ (127 : Byte).toNat ≤ s.recs.records.length ∧
      s.recs.lost = 0 ∧ s.recs.records.length < 128 ∧ s.recs.records.length + 1 = s.recs.threshold) := by decide +kernel

/-- The clause of every statement on events in which no frame is composed has states of its own. -/
theorem witness_Raised :
    (∀ g ∈ clear.notif.groups, g.level ≤ clear.notif.mask) ∧
    (∀ g ∈ (withMask clear).notif.groups, g.level ≤ (withMask clear).notif.mask) := by decide +kernel

theorem witness_EventAccumulates :
    (TenGroups clear ∧ (let t := { clear with notif := clear.notif.accept .violation 0 ⟨0, 1, 0, 0⟩ }
      arbiterReady t = false)) ∧
    (let s := withGroup 9 ⟨1, 0x1F, 0, none, .idle, 0⟩ clear
     TenGroups s ∧ arbiterReady { s with notif := s.notif.accept .intakeOverflow 0 ⟨0, 1, 0, 0⟩ } = true) ∧
    (let g : Group := ⟨0, 0x8000, 0, none, .idle, 0⟩
     15 < 16 ∧ g.enable.getLsbD 15 = true ∧ g.enable.getLsbD 0 = false ∧ g.delivery = .idle) ∧
    (let g : Group := ⟨0, 0x8000, 0, none, .awaiting, 0⟩
     g.enable.getLsbD 15 = true ∧ g.delivery = .awaiting) ∧
    (let g : Group := ⟨0, 0x8000, 0, some ⟨1, 255, 0, 63, ⟨0, 0, 0, 0⟩⟩, .awaitingMore, 0⟩
     g.enable.getLsbD 15 = true ∧ g.delivery = .awaitingMore ∧ g.acc = some ⟨1, 255, 0, 63, ⟨0, 0, 0, 0⟩⟩) := by decide +kernel

/-- A group with an event to notify. -/
def waiting (level : Nat) : Group := ⟨level, 1, 1, some ⟨1, 1, 5, 5, ⟨6, 14, 5, 3⟩⟩, .pending, 255⟩

theorem witness_ArbiterChoosesTheHighestLevel :
    (let n : Notifier := ⟨((Notifier.reset.groups.set 4 (waiting 4)).set 6 (waiting 4)).set 8 (waiting 2), 1⟩
     n.chosen = some (4, waiting 4) ∧ n.groups[6]? = some (waiting 4) ∧ n.groups[8]? = some (waiting 2) ∧
      (waiting 4).delivery = .pending ∧ n.mask < (waiting 4).level ∧ n.mask < (waiting 2).level) := by decide +kernel

theorem witness_ArbiterComposes :
    (clear.link.intake = [] ∧ arbiterReady clear = false) ∧
    (let s := withGroup 9 (waiting 1) clear
     s.link.intake = [] ∧ arbiterReady s = true ∧ s.notif.chosen = some (9, waiting 1) ∧
      (waiting 1).acc = some ⟨1, 1, 5, 5, ⟨6, 14, 5, 3⟩⟩) := by decide +kernel

theorem witness_GroupAndMaskSettings :
    Ready 1 clear ∧ TenGroups clear ∧ groupBad [9, 7, 0x1F, 0] = none ∧ groupBad [10, 7, 0, 0] = some 0 ∧
    groupBad [9, 8, 0, 0] = some 1 ∧ groupBad [9, 7, 0x20, 0] = some 2 ∧ (7 : Byte).toNat ≤ 7 ∧ 7 < (8 : Byte).toNat := by
  decide +kernel

theorem witness_AcknowledgeAndReadMarks :
    (let g : Group := { waiting 1 with acc := none, delivery := .awaiting }
     let s := withGroup 9 g clear
     Ready 1 s ∧ (9 : Byte).toNat ≤ 9 ∧ s.notif.groups[(9 : Byte).toNat]? = some g ∧ g.delivery = .awaiting ∧
      g.sequence = 255 ∧ g.sequence ≠ 0 ∧ 9 < (10 : Byte).toNat) ∧
    (let g : Group := { waiting 1 with delivery := .awaitingMore }
     let s := withGroup 0 g clear
     Ready 1 s ∧ s.notif.groups[(0 : Byte).toNat]? = some g ∧ g.delivery = .awaitingMore ∧ g.sequence = 255) ∧
    (Ready 1 clear ∧ clear.notif.groups[(0 : Byte).toNat]? = some Group.reset ∧ Group.reset.delivery = .idle) := by
  decide +kernel

theorem witness_TransactionsBeginAndEnd :
    (Settled clear ∧ TenGroups clear ∧ clear.link.transaction = false ∧ clear.resetting = none) ∧
    (let s := hearing .sync clear
     Settled s ∧ TenGroups s ∧ s.link.transaction = true ∧ s.link.parser = .sync) ∧
    (let s := hearing (.check 3 [1, 2, 3] (some 0)) clear
     Settled s ∧ TenGroups s ∧ s.link.transaction = true ∧ s.link.parser = .check 3 [1, 2, 3] (some 0)) ∧
    (let s := hearing .length clear
     Settled s ∧ s.link.transaction = true ∧ s.link.parser = .length) ∧
    (let s := hearing (.body 3 []) clear
     Settled s ∧ s.link.transaction = true ∧ s.link.parser = .body 3 []) := by decide +kernel

/-- A parser in the middle of an inbound frame, one step on, and the byte between. -/
theorem parser_middle : TakesByte 0xC3 (.body 3 [1, 2]) (.check 3 [1, 2, 0xC3] none) :=
  Or.inr (Or.inr (Or.inl ⟨3, [1, 2], rfl, rfl⟩))

theorem witness_ExchangePassesOneByteEachWay :
    -- filler goes out, and the parser takes a byte in each of its states
    (let s := hearing .sync clear
     Settled s ∧ s.resetting = none ∧ s.link.transaction = true ∧ ByteSent s s.link) ∧
    (TakesByte 0xC3 .sync .length ∧ TakesByte 0xC2 .sync .sync ∧ TakesByte 3 .length (.body 3 []) ∧
      TakesByte 243 .length (.body 243 []) ∧ TakesByte 9 (.check 3 [1, 2, 3] none) (.check 3 [1, 2, 3] (some 9))) ∧
    -- the sync byte, the second byte, the last but one and the last of an answer go out, and a frame comes in meanwhile
    (let s := answering 0 none
     Settled s ∧ s.link.transaction = true ∧ ∃ k, k.delivered = 1 ∧ ByteSent s k) ∧
    (let s := answering 1 (some (4, 0xAA45))
     Settled s ∧ ∃ k, k.delivered = 2 ∧ ByteSent s k) ∧
    (let s := answering 6 (some (4, 0xAA45))
     Settled s ∧ ∃ k, k.delivered = 7 ∧ ByteSent s k) ∧
    (let s := answering 7 (some (4, 0xAA45))
     Settled s ∧ ∃ k, k.outbound = [] ∧ ByteSent s k) :=
  ⟨⟨by decide +kernel, rfl, rfl, Or.inl ⟨0, rfl, rfl⟩⟩,
   ⟨Or.inl ⟨rfl, rfl⟩, Or.inl ⟨rfl, rfl⟩, Or.inr (Or.inl ⟨rfl, by decide, by decide, rfl⟩),
    Or.inr (Or.inl ⟨rfl, by decide, by decide, rfl⟩), Or.inr (Or.inr (Or.inr ⟨3, [1, 2, 3], rfl, rfl⟩))⟩,
   ⟨by decide +kernel, rfl, _, rfl, Or.inr ⟨0, _, _, rfl, rfl, Or.inl ⟨rfl, rfl⟩⟩⟩,
   ⟨by decide +kernel, _, rfl, Or.inr ⟨0, _, _, rfl, rfl, Or.inr (Or.inl ⟨by decide, by decide, rfl⟩)⟩⟩,
   ⟨by decide +kernel, _, rfl, Or.inr ⟨0, _, _, rfl, rfl, Or.inr (Or.inl ⟨by decide, by decide, rfl⟩)⟩⟩,
   ⟨by decide +kernel, _, rfl, Or.inr ⟨0, _, _, rfl, rfl, Or.inr (Or.inr ⟨rfl, rfl, by decide +kernel, rfl⟩)⟩⟩⟩

/-- The parser stands here. -/
def duplex (p : Parser) (s : State) : State := { s with link := { s.link with parser := p } }

/-- R169, R170: full duplex: the sync byte of an answer goes out while the last body byte of a request comes in. -/
theorem test_full_duplex :
    let t := run (.exchangeComplete 0xC3) (duplex (.body 3 [1, 2]) (answering 0 none))
    t.link.parser = .check 3 [1, 2, 0xC3] none ∧ t.link.delivered = 1 ∧ t.link.exchange = some ⟨4, .frame⟩ := by
  decide +kernel

theorem witness_RequestFrameRoundTrip :
    (List.replicate 240 (0xC3 : Byte)).length ≤ 240 ∧ clear.link.parser = .sync := by decide +kernel

/-- A response whose sync byte is out. -/
def responseFrameFilled : OutFrame := ⟨.response, 20, 0, [], some (4, 0xAA45)⟩

/-- The outbound queue full of responses, of which the oldest has its last byte on the way out, and these requests waiting. -/
def full (requests : List Request) : State :=
  { clear with link := { Link.reset with
      outbound := responseFrameFilled :: List.replicate 7 (responseFrame 21 .ok []), delivered := 7, transaction := true
      intake := requests, exchange := some ⟨0, .frame⟩ } }

theorem witness_InboundFramesEnd :
    ((let s := { full [] with link := { (full []).link with parser := .sync } }
     Settled s ∧ s.resetting = none ∧ TenGroups s ∧ s.link.hasPlace = false ∧ s.link.intake.length < 4) ∧
    (let s := full (List.replicate 3 ⟨7, 0x50, []⟩)
     Settled s ∧ s.link.hasPlace = false ∧ s.link.intake.length < 4) ∧
    (let s := full (List.replicate 4 ⟨7, 0x50, []⟩)
     Settled s ∧ TenGroups s ∧ 4 ≤ s.link.intake.length) ∧
    (let s := hearing (.check 4 [1, 20, 0x61, 3] (some 0x79)) clear
     Settled s ∧ s.resetting = none ∧ TenGroups s ∧ s.link.transaction = true ∧ s.link.exchange = some ⟨0, .filler⟩ ∧
      s.link.parser = .check 4 [1, 20, 0x61, 3] (some 0x79) ∧
      (0x79 : Byte) ++ (0x65 : Byte) = linkCheck (byte 4 :: [1, 20, 0x61, 3]) ∧
      ¬ (0x79 : Byte) ++ (0x66 : Byte) = linkCheck (byte 4 :: [1, 20, 0x61, 3]) ∧ (20 : Byte) ≠ 0) ∧
    (let s := hearing (.check 3 [2, 0, 0] (some (highByte (linkCheck [3, 2, 0, 0])))) clear
     Settled s ∧ TenGroups s ∧ (2 : Byte) ≠ 1 ∧
      highByte (linkCheck [3, 2, 0, 0]) ++ lowByte (linkCheck [3, 2, 0, 0]) = linkCheck (byte 3 :: [2, 0, 0])) ∧
    (let s := hearing .length clear
     Settled s ∧ s.resetting = none ∧ TenGroups s ∧ s.link.transaction = true ∧ s.link.exchange = some ⟨0, .filler⟩ ∧ s.link.parser = .length ∧
      (2 : Byte).toNat < 3 ∧ 243 < (244 : Byte).toNat)) ∧
    -- the byte that goes out meanwhile: filler, the sync byte of an answer, or its last byte
    ByteSent (hearing .length clear) (hearing .length clear).link ∧
    (let s := duplex (.check 4 [1, 20, 0x61, 3] (some 0x79)) (answering 0 none)
     Settled s ∧ s.link.transaction = true ∧ ∃ k, k.delivered = 1 ∧ ByteSent s k) ∧
    (let s := duplex .length (answering 7 (some (4, 0xAA45)))
     Settled s ∧ s.link.transaction = true ∧ ∃ k, k.outbound = [] ∧ ByteSent s k) :=
  ⟨by decide +kernel, Or.inl ⟨0, rfl, rfl⟩,
   ⟨by decide +kernel, rfl, _, rfl, Or.inr ⟨0, _, _, rfl, rfl, Or.inl ⟨rfl, rfl⟩⟩⟩,
   ⟨by decide +kernel, rfl, _, rfl, Or.inr ⟨0, _, _, rfl, rfl, Or.inr (Or.inr ⟨rfl, rfl, by decide +kernel, rfl⟩)⟩⟩⟩

theorem witness_BytesClockedOut :
    TakesByte 0 .sync .sync ∧ TakesByte 0xC3 .sync .length ∧ TakesByte 0xC3 (.body 3 [1, 2]) (.check 3 [1, 2, 0xC3] none) ∧
    (let s := answering 0 none
     Settled s ∧ s.resetting = none ∧ s.link.transaction = true ∧ s.link.exchange = some ⟨0, .frame⟩ ∧
      s.link.parser = .sync ∧ s.link.outbound = responseFrame 20 .ok [] :: [] ∧ s.link.delivered = 0) ∧
    (let s := answering 1 (some (4, 0xAA45))
     Settled s ∧ 0 < s.link.delivered ∧ s.link.delivered + 1 < ([] : List Byte).length + 8) ∧
    (let s := answering 6 (some (4, 0xAA45))
     Settled s ∧ 0 < s.link.delivered ∧ s.link.delivered + 1 < ([] : List Byte).length + 8) ∧
    (let s := answering 7 (some (4, 0xAA45))
     Settled s ∧ s.link.delivered + 1 = ([] : List Byte).length + 8 ∧ s.link.intake = [] ∧ s.notif.chosen = none) ∧
    (let s := full [⟨7, 0x50, []⟩, ⟨8, 0x01, []⟩]
     Settled s ∧ s.resetting = none ∧ s.link.transaction = true ∧ s.link.exchange = some ⟨0, .frame⟩ ∧
      s.link.parser = .sync ∧ s.link.outbound = responseFrameFilled :: List.replicate 7 (responseFrame 21 .ok []) ∧
      s.link.delivered + 1 = responseFrameFilled.payload.length + 8 ∧
      s.link.intake = ⟨7, 0x50, []⟩ :: [⟨8, 0x01, []⟩] ∧ LinkSound s.link ∧ s.notif.chosen = none) ∧
    (Settled (full [⟨8, 0x01, []⟩]) ∧ LinkSound (full [⟨8, 0x01, []⟩]).link) :=
  ⟨Or.inl ⟨rfl, rfl⟩, Or.inl ⟨rfl, rfl⟩, parser_middle, by decide +kernel⟩

/-- R185: the request that waits is taken when the last byte of a frame frees a place. -/
theorem test_waiting_request :
    let t := settle (clockOut (full [⟨8, 0x21, []⟩, ⟨9, 0x01, []⟩]))
    t.link.intake = [⟨9, 0x01, []⟩] ∧ t.link.outbound.length = 8 ∧ reply t = some (8, 2, []) := by decide +kernel

/-- R176: with four requests waiting a fifth is discarded, and only the event tells of it. -/
theorem test_intake_overflow :
    let s := full (List.replicate 4 ⟨7, 0x50, []⟩)
    let t := run (.stat 9 []) s
    t.link = s.link ∧ (groupAt t 9).seen = 16 := by decide +kernel

theorem witness_CycleStarts :
    (let s := { withPosts (posted false) committing with tb := { committing.tb with offset := 6500 } }
     cycleEnds s = true ∧ s.resetting = none ∧ s.link.intake = [] ∧ TenGroups s ∧
      (s.spor.entries.map SporadicEntry.ticket).Nodup ∧ s.sched.commitPending = true) ∧
    (let s := { beaconing with launch := none, tb := { beaconing.tb with offset := 10000, cycle := 63 } }
     cycleEnds s = true ∧ s.resetting = none ∧ s.link.intake = [] ∧ TenGroups s ∧ s.tb.role = .master ∧
      s.tb.sync = .locked) := by decide +kernel

theorem witness_CycleStartReactionsAndPulse :
    (expiring.tb.atCycleStart = true ∧ expiring.resetting = none ∧ expiring.link.intake = [] ∧ TenGroups expiring ∧
      (expiring.spor.entries.map SporadicEntry.ticket).Nodup) ∧
    (let s := withLanes ⟨.faulted, 24, 16, 0, false⟩ ⟨.probation, 0, 0, 8, false⟩ (atStart (nodeAt 0))
     s.tb.atCycleStart = true ∧ s.resetting = none ∧ s.link.intake = [] ∧ TenGroups s ∧
      (s.lanes.get .A).state = .faulted ∧ s.cfg.autoReadmission = true ∧ s.cfg.holdTime ≤ (s.lanes.get .A).hold ∧
      (s.lanes.get .B).state = .probation ∧ s.cfg.probationCount ≤ (s.lanes.get .B).clean) ∧
    (let s := { nodeAt 1 with tb := { (nodeAt 1).tb with markUntil := some 500001 } }
     Settled s ∧ s.tb.markUntil = some 500001 ∧ s.now < 500001 ∧ reaches s (s.tb.offset + (500001 - s.now)) = true) ∧
    (let s := { nodeAt 2 with tb := { (nodeAt 2).tb with markUntil := some 500000 } }
     Settled s ∧ s.tb.markUntil = some 500000 ∧ 500000 ≤ s.now) := by decide +kernel

theorem witness_StartupListenExpires :
    (let s := listeningMaster
     s.tb.startupListen = some 20000 ∧ s.link.deferred = some ⟨.start, 9⟩ ∧ s.tb.role = .master ∧ s.resetting = none ∧
      s.link.intake = [] ∧ s.launch = none ∧ TenGroups s) := by decide +kernel

/-- The node before its deadline in a sync state, with this missed count. -/
def missing (y : Sync) (missed : Nat) (s : State) : State :=
  { s with tb := { s.tb with sync := y, missed := missed, beaconMark := false, deadlinePassed := false } }

theorem witness_DeadlineActsOnTheMissedBeacon :
    (let s := nodeAt 30
     deadlineDue s = true ∧ s.resetting = none ∧ s.link.intake = [] ∧ TenGroups s ∧ s.tb.beaconMark = true) ∧
    (let s := missing .locked 0 (nodeAt 31)
     deadlineDue s = true ∧ s.resetting = none ∧ s.link.intake = [] ∧ TenGroups s ∧ s.tb.beaconMark = false ∧
      s.tb.sync = .locked) ∧
    (let s := missing .holdover 2 sending
     deadlineDue s = true ∧ TenGroups s ∧ s.tb.sync = .holdover ∧ s.tb.missed + 1 < s.cfg.holdoverLimit) ∧
    (let s := missing .holdover 3 sending
     deadlineDue s = true ∧ TenGroups s ∧ s.tb.sync = .holdover ∧ s.cfg.holdoverLimit ≤ s.tb.missed + 1) ∧
    (let s := missing .acquire 0 { committing with tb := { committing.tb with offset := 24 } }
     deadlineDue s = true ∧ s.resetting = none ∧ s.link.intake = [] ∧ TenGroups s ∧ s.tb.sync = .acquire ∧
      s.sched.commitPending = true) := by decide +kernel

/-- A LOCKED master with a commit pending and a post in its last cycle. -/
def conflicted : State :=
  { withPosts [⟨30, 42, ab, 0, none, 1, false⟩] committing with
    cfg := { committing.cfg with role := .master }, tb := { committing.tb with role := .master } }

/-- A follower in HOLDOVER at offset 30, with a launch on lane A alone. -/
def drifting : State :=
  missing .holdover 2 { sending with launch := some ⟨.send, LaneSet.single .A, LaneSet.none, 24, 22, 0x8502, 0x1565, []⟩ }

/-- What BeaconAlignsHard and BeaconInWindowCorrects ask of a beacon of cycle 17. -/
def heardBeacon (l : Lane) (elapsed : Nat) (s : State) : Bool :=
  s.resetting.isNone && s.link.intake.isEmpty && decide (TenGroups s) && canPass elapsed s &&
    hearsFree (pass elapsed s) l 4 (beacon 17 0x0DE7) && !isTwin (pass elapsed s) && freeCheckRight (beacon 17 0x0DE7)

theorem beacon_header : (beacon 17 0x0DE7).header = some (0x4300, 0x0110) ∧ freeIsBeacon 0x4300 0x0110 = true := by
  decide

theorem witness_BeaconAlignsHard :
    (let s := listeningMaster
     let m := beacon 52 0x6B6D
     (s.tb.sync = .listen ∧ s.resetting = none ∧ s.link.intake = [] ∧ TenGroups s) ∧ DeferredSound s ∧
      (s.sched.window = none ∧ s.launch = none ∧ canPass 20000 s = true ∧ hearsFree (pass 20000 s) .B 4 m = true ∧
      isTwin (pass 20000 s) = false ∧ freeCheckRight m = true ∧ m.header = some (0x4300, 0x0340) ∧
      freeIsBeacon 0x4300 0x0340 = true ∧ s.tb.startupListen.isSome = true)) ∧
    (heardBeacon .B 0 conflicted = true ∧ conflicted.tb.sync = .locked ∧ conflicted.tb.role = .master ∧
      (conflicted.spor.entries.map SporadicEntry.ticket).Nodup) ∧
    (heardBeacon .B 0 (missing .acquire 0 (nodeAt 31)) = true ∧
      PhaseErrorIs (pass 0 (missing .acquire 0 (nodeAt 31))) 11 ∧ ((missing .acquire 0 (nodeAt 31)).cfg.lockWindow : Int) < 11) ∧
    (heardBeacon .B 1 drifting = true ∧ drifting.tb.sync = .holdover ∧ PhaseErrorIs (pass 1 drifting) 11) :=
  ⟨⟨by decide +kernel, listening_deferred, by decide +kernel⟩, by decide +kernel,
   ⟨by decide +kernel, ⟨15, 10000, Or.inl (by decide +kernel), by decide⟩, by decide⟩,
   ⟨by decide +kernel, by decide, ⟨15, 10000, Or.inl (by decide +kernel), by decide⟩⟩⟩

/-- Sections 2.4 and 2.10: what a master's conflict does besides: the commit takes effect, the post expires. -/
theorem test_conflict_in_locked :
    let t := run (.freeMessageEnd .B 0 ⟨4, beacon 17 0x0DE7⟩) conflicted
    t.tb.sync = .acquire ∧ t.tb.role = .follower ∧ t.tb.cycle = 17 ∧ t.tb.offset = 20 ∧ t.sched.active = table ∧
      t.spor.entries = [] ∧ (groupAt t 0).seen = 9 ∧ (groupAt t 1).seen = 1 ∧ (groupAt t 5).seen = 6 := by decide +kernel

/-- R36: out of window by one microsecond in HOLDOVER: the launch is cut, the window abandoned, the count cleared. -/
theorem test_out_of_window_in_holdover :
    let t := run (.freeMessageEnd .B 1 ⟨4, beacon 17 0x0DE7⟩) drifting
    t.tb.sync = .acquire ∧ t.tb.missed = 0 ∧ t.launch = none ∧ t.sched.window = none ∧ (groupAt t 0).seen = 1 := by
  decide +kernel

theorem witness_BeaconInWindowCorrects :
    (let s := missing .holdover 1 (nodeAt 14)
     s.tb.sync.running = true ∧ s.tb.role = .follower ∧ heardBeacon .A 16 s = true ∧ PhaseErrorIs (pass 16 s) 10 ∧
      -(s.cfg.lockWindow : Int) ≤ 10 ∧ 10 ≤ (s.cfg.lockWindow : Int)) ∧
    (newCycle.tb.role = .follower ∧ heardBeacon .A 10 newCycle = true ∧ PhaseErrorIs (pass 10 newCycle) (-10) ∧
      -(newCycle.cfg.lockWindow : Int) ≤ -10) :=
  ⟨⟨by decide +kernel, by decide +kernel, by decide +kernel, ⟨14, 10000, Or.inl (by decide +kernel), by decide⟩,
    by decide, by decide⟩,
   ⟨by decide +kernel, by decide +kernel,
    ⟨9994, 10000, Or.inr ⟨by decide +kernel, [], ⟨490000, 500000, 10000, 10000⟩, [], rfl, by decide +kernel,
      by decide +kernel, by simp, by decide +kernel, rfl⟩, by decide⟩, by decide⟩⟩

/-- The node with a beacon taken 20 microseconds before offset 47. -/
def twinned : State := { nodeAt 47 with tb := { (nodeAt 47).tb with lastTaken := some 499980 } }

/-- The node at the moment at which position 0's launch begins. -/
def begun : State := run (.sendWindowStart 0) (nodeAt 24)

/-- The node with a launch on lane A begun 10 microseconds before offset 1000. -/
def overtaken : State :=
  { nodeAt 1000 with rx := { (nodeAt 1000).rx with a := { Receiver.reset with busy := 499990, floor := 499990 } } }

/-- A message of two header words, its check right. -/
def bare (h1 h2 : Word) : Message := ⟨[h1, h2, busCheck [h1, h2]], .delimiter⟩

/-- What OtherFreeMessages asks of a message that a lane's receiver takes, k microseconds after its arrival. -/
def taken (l : Lane) (elapsed lead k : Nat) (m : Message) (s : State) : Bool :=
  s.resetting.isNone && s.link.intake.isEmpty && decide (TenGroups s) && canPass elapsed s && m.age == some k &&
    hearsFree (pass elapsed s) l lead m

theorem witness_OtherFreeMessages :
    -- a message that its lane's launch overtook, and one that ended as the launch began and is no beacon
    (let m : Message := ⟨goodWords, .delimiter⟩
     let p := pass 13 overtaken
     canPass 13 overtaken = true ∧ Settled overtaken ∧ m.age = some 24 ∧ p.now - 24 - 4 < (p.rx.get .A).busy ∧
      (p.rx.get .A).busy < p.now) ∧
    (let m := bare 0x4300 0x0510
     Settled begun ∧ begun.resetting = none ∧ begun.link.intake = [] ∧ TenGroups begun ∧ canPass 0 begun = true ∧
      m.age = some 16 ∧ txen (pass 0 begun) .A = true ∧ begun.now - 16 - 4 < (begun.rx.get .A).busy ∧ headerSlot 0x0510 ≠ 0) ∧
    -- one whose start delimiter was recognised in OFF, and one whose carrier was lost within it
    (let p := pass 5 awake
     canPass 5 awake = true ∧ Settled awake ∧ awake.resetting = none ∧ (⟨[0x4300], .cut 8⟩ : Message).age = some 8 ∧
      p.now - 8 + 2 < (p.rx.get .A).since ∧ (⟨[], .cut 1⟩ : Message).age = some 1) ∧
    -- of kind DATA; a BEACON of length 1, of slot 1, and of a spare bit; a twin
    (taken .A 24 4 24 ⟨goodWords, .delimiter⟩ (nodeAt 1000) = true ∧ headerKind 0x8C02 ≠ 1) ∧
    (taken .A 16 4 16 (bare 0x4300 0x0510) (nodeAt 1000) = true ∧ (bare 0x4300 0x0510).checkRight = true ∧
      (bare 0x4300 0x0510).header = some (0x4300, 0x0510) ∧ headerKind 0x4300 = 1 ∧ headerLength 0x4301 = 1 ∧
      headerSlot 0x0510 = 1 ∧ headerSpare 0x4340 ≠ 0 ∧ headerSender 0x4000 = 0) ∧
    (taken .B 0 4 16 (beacon 17 0x0DE7) twinned = true ∧ isTwin (pass 0 twinned) = true) ∧
    -- a cut message 12 microseconds after its arrival at 12, the same at 1012, and one at the first offset past the window
    (taken .A 4 2 12 ⟨[0x4300, 0x0110], .cut 12⟩ (nodeAt 20) = true ∧ ArrivalIs (pass 4 (nodeAt 20)) 12 12 10000 ∧
      12 < 20 + 2 * (nodeAt 20).cfg.tol) ∧
    (taken .A 4 2 12 ⟨[0x4300, 0x0110], .cut 12⟩ (nodeAt 1020) = true ∧ (pass 4 (nodeAt 1020)).tb.offset - 12 = 1012) ∧
    (taken .A 0 2 12 ⟨[0x4300, 0x0110], .cut 12⟩ (nodeAt 9992) = true ∧ ArrivalIs (pass 0 (nodeAt 9992)) 12 9980 10000) ∧
    -- out of window by one microsecond in LOCKED
    (heardBeacon .A 0 (nodeAt 31) = true ∧ (nodeAt 31).tb.sync = .locked ∧ (nodeAt 31).tb.role = .follower ∧
      PhaseErrorIs (pass 0 (nodeAt 31)) 11 ∧ ((nodeAt 31).cfg.lockWindow : Int) < 11) :=
  ⟨by decide +kernel, by decide +kernel, by decide +kernel, by decide +kernel, by decide +kernel, by decide +kernel,
   ⟨by decide +kernel, Or.inl (by decide +kernel), by decide⟩, ⟨by decide +kernel, by decide +kernel⟩,
   ⟨by decide +kernel, Or.inl (by decide +kernel)⟩,
   ⟨by decide +kernel, by decide +kernel, by decide +kernel, ⟨15, 10000, Or.inl (by decide +kernel), by decide⟩,
    by decide⟩⟩

/-- R15: by the table: a message of kind DATA is discarded; a beacon with another field out of line is FORMAT; one cut in the
beacon window is CHECK, and the same at offset 1012 is discarded. -/
theorem test_free_outcomes :
    let debit := fun m elapsed s => (run (.freeMessageEnd .A elapsed ⟨2, m⟩) s).lanes.a.debit
    let m : Message := ⟨[0x4300, 0x0110], .cut 12⟩
    debit ⟨goodWords, .delimiter⟩ 24 (nodeAt 1000) = 0 ∧ debit (bare 0x4300 0x0510) 16 (nodeAt 1000) = 2 ∧
      debit m 4 (nodeAt 20) = 2 ∧ debit m 4 (nodeAt 1020) = 0 := by decide +kernel

/-- R95: lane A sends from this very moment; a message that ends at it cannot charge the lane, unless it is a beacon. -/
theorem test_own_launch_is_not_charged :
    run (.freeMessageEnd .A 0 ⟨4, bare 0x4300 0x0510⟩) begun = begun ∧
      run (.freeMessageEnd .A 0 ⟨4, ⟨[0x4300, 0x0110], .cut 16⟩⟩) begun = begun ∧ txen begun .A = true := by
  decide +kernel

theorem witness_SendWindowLaunches :
    (let s := withSync .acquire (nodeAt 24)
     opens s .send 0 = some sendEntry ∧ s.resetting = none ∧ s.link.intake = [] ∧ TenGroups s ∧ s.tb.sync = .acquire) ∧
    (let s := withLanes (unit .faulted 24) (unit .disabled 0) (nodeAt 0)
     opens s .send 0 = some sendEntry ∧ s.tb.sync ≠ .acquire ∧ (sendEntry.lanes.inter (activeLanes s)).isEmpty = true) ∧
    (let s := withLanes (unit .faulted 24) (unit .active 23) (withBuffer 3 ⟨[1, 2], .send .stale .once 15 255⟩ (nodeAt 20))
     opens s .send 0 = some sendEntry ∧ s.tb.sync ≠ .acquire ∧ (sendEntry.lanes.inter (activeLanes s)).isEmpty = false ∧
      sendEntry.buffer = some 3 ∧ 3 < s.bufs.length ∧ sendEntry.maxWords = some 8 ∧
      (bufferAt s 3).status = .send .stale .once 15 255) := by decide +kernel

theorem witness_QuietAndExpectWindowsOpen :
    (Settled (nodeAt 60) ∧ (nodeAt 60).resetting = none ∧ (nodeAt 60).link.intake = [] ∧
      opens (nodeAt 60) .expect 4 = some expectEntry ∧ opens (nodeAt 160) .quiet 7 = some quietEntry) ∧
    (let s := watching true
     Settled s ∧ s.resetting = none ∧ s.link.intake = [] ∧ reaches s (160 + 40) = true ∧ s.launch = none ∧
      s.sched.window = some ⟨7, quietEntry, 22, .quiet ab LaneSet.none LaneSet.none true⟩) := by decide +kernel

theorem witness_OpenWindowLaunches :
    (let s := withSync .acquire (nodeAt 200)
     opens s .openSlot 8 = some openEntry ∧ Settled s ∧ s.resetting = none ∧ s.link.intake = [] ∧ s.tb.sync = .acquire) ∧
    (let s := withPosts [⟨25, 43, ab, 1, some 41, 9, false⟩] (nodeAt 6000)
     opens s .openSlot 8 = some openEntry ∧ Settled s ∧ s.tb.sync ≠ .acquire ∧
      ∀ x ∈ s.spor.entries, sporadicEligible s openEntry x = false) ∧
    (let s := withPosts (posted false) (nodeAt 200)
     opens s .openSlot 8 = some openEntry ∧ Settled s ∧ s.resetting = none ∧ s.link.intake = [] ∧
      (⟨24, 43, LaneSet.single .A, 1, none, 7, false⟩ : SporadicEntry) ∈ s.spor.entries ∧ s.tb.sync ≠ .acquire ∧
      sporadicEligible s openEntry ⟨24, 43, LaneSet.single .A, 1, none, 7, false⟩ = true ∧ SporadicSound s ∧
      s.bufs.length = 48) := by decide +kernel

theorem witness_QuietWindowBreached :
    (let s := watching false
     s.sched.window = some ⟨7, quietEntry, 22, .quiet ab LaneSet.none LaneSet.none false⟩ ∧ s.resetting = none ∧
      s.link.intake = [] ∧ TenGroups s ∧ Settled s ∧ (ab.minus LaneSet.none).has .A = true ∧ quietEntry.start ≤ 160 ∧
      199 < 160 + 40 ∧ reaches s 160 = true ∧ reaches s 199 = true ∧
      (s.rx.get .A).busy ≤ (passTo 160 s).now) ∧
    (watching true).sched.window = some ⟨7, quietEntry, 22, .quiet ab LaneSet.none LaneSet.none true⟩ ∧
      Settled (watching true) := by decide +kernel

/-- The EXPECT window of position 4, open. -/
def expectWindow : Window := ⟨4, expectEntry, 22, .expect ab LaneSet.none LaneSet.none⟩

/-- The two views of the window at its end. -/
def views (s : State) (a b : List Heard) : PerLane LaneView :=
  ⟨laneView (passTo 156 s) expectWindow .A a, laneView (passTo 156 s) expectWindow .B b⟩

theorem witness_ExpectWindowCloses :
    (let s := listening 120
     let v := views s [] [.message 100 102 ⟨goodWords, .delimiter⟩]
     s.sched.window = some expectWindow ∧ expectWindow.role.isExpect = true ∧ reaches s expectWindow.ends = true ∧
      s.resetting = none ∧ s.link.intake = [] ∧ TenGroups s ∧ s.launch = none ∧
      expectWindow.entry.buffer = some 10 ∧ 10 < s.bufs.length ∧ (combine s.cfg.preferredLane v).kind = .received ∧
      (bufferAt s 10).status = .receive RxStatus.setup ∧ expectWindow.entry.log = true ∧
      (sourceFacts (combine s.cfg.preferredLane v) v).header = some (0x8C02, 0x3166)) ∧
    (let s := listening 156
     let v := views s [nullMessage] []
     (combine s.cfg.preferredLane v).kind = .nullHeard ∧ reaches s expectWindow.ends = true ∧
      (sourceFacts (combine s.cfg.preferredLane v) v).header = some (0xCC00, 0x3166)) ∧
    (let s := listening 100
     (combine s.cfg.preferredLane (views s [] [])).kind = .missing ∧ reaches s expectWindow.ends = true) ∧
    (let s := listening 100
     (combine s.cfg.preferredLane (views s [.message 100 101 ⟨goodWords, .delimiter⟩] [])).kind = .faulty) := by decide +kernel

/-- A message of position 4 with these header words and no payload, its check right. -/
def short (h1 h2 : Word) : Heard := .message 100 104 ⟨[h1, h2, busCheck [h1, h2]], .delimiter⟩

/-- The second part of ExpectWindowCloses, test by test: the outcome of lane A. -/
theorem witness_ExpectWindowJudged :
    (expectWindow.delivering.has .A = true ∧ LaneSet.none.has .A = false ∧ expectEntry.maxWords = some 8 ∧
      expectEntry.sender = some (.node 12)) ∧
    (let o := fun h => (views (listening 120) h []).a.outcome
     o [.noise 100 156, .message 150 154 ⟨[], .inProgress⟩] = .silent ∧ o [.message 100 104 ⟨[], .cut 1⟩] = .silent ∧
      o [.message 149 153 ⟨[], .inProgress⟩] = .timing ∧
      o [.message 100 101 ⟨goodWords, .delimiter⟩] = .timing ∧ o [goodMessage 107] = .timing ∧
      o [.message 100 104 ⟨[0x8C02], .cut 8⟩] = .check ∧ o [.message 100 102 ⟨goodWords, .delimiter⟩] = .good ∧ o [goodMessage 106] = .good ∧
      o [.message 100 104 ⟨[0x8C09, 0x3166], .inProgress⟩] = .timing ∧
      o [.message 100 104 ⟨[0x8C00, 0x3166, 0], .delimiter⟩] = .check ∧ o [short 0x4C00 0x3166] = .format ∧
      o [short 0x8C40 0x3166] = .format ∧ o [short 0x8C00 0x3176] = .format ∧ o [short 0x8B00 0x3566] = .format ∧
      o [short 0x8B00 0x3166] = .sender ∧ o [short 0xCC00 0x3166] = .null ∧ o [short 0x8C00 0x3166] = .good) := by
  decide +kernel

/-- A considered lane with an outcome. -/
def view (o : Outcome) : LaneView := ⟨true, o, ⟨some 104, some 128, some (0x8C02, 0x3166), [1]⟩⟩

theorem witness_CombinationFollowsTheTable :
    ((view .good).considered = true ∧ (view .good).outcome = .good ∧ (view .null).outcome ≠ .good ∧
      (view .null).outcome = .null ∧ (view .silent).outcome ≠ .good ∧ (view .silent).outcome ≠ .null ∧
      (view .check).outcome ≠ .silent ∧ (view .check).outcome ≠ .null) ∧
    (combine .A ⟨view .silent, view .silent⟩).kind = .missing ∧
    (combine .A ⟨view .null, view .good⟩) = ⟨.received, LaneSet.single .B, true, some .B⟩ ∧
    (combine .A ⟨view .check, view .good⟩) = ⟨.received, LaneSet.single .B, false, some .B⟩ ∧
    (combine .B ⟨view .good, { view .good with facts := ⟨some 104, some 128, some (0x8C02, 0x3166), [2]⟩ }⟩).disagree = true := by
  decide +kernel

theorem witness_LaunchesEnd :
    (let s := beaconing
     s.launch = some ⟨.beacon, ab, LaneSet.none, 0, 23, 0x4500, 0x0170, []⟩ ∧ reaches s 20 = true ∧ s.resetting = none ∧
      s.link.intake = [] ∧ TenGroups s ∧ 1 ≤ s.cfg.debitLimit ∧ s.sched.window = none) ∧
    (let s := sending
     s.launch = some ⟨.send, ab, LaneSet.none, 24, 22, 0x8502, 0x1565, [0x1111, 0x2222]⟩ ∧ reaches s 52 = true ∧
      s.sched.window = some ⟨0, sendEntry, 22, .send ab .inProgress⟩ ∧ s.resetting = none ∧ s.link.intake = [] ∧
      TenGroups s) ∧
    (let s := sendingSporadic
     s.launch = some ⟨.sporadic, ab, LaneSet.none, 6000, 22, 0x8504, 0xA168, [1, 2, 3, 4]⟩ ∧ reaches s 6036 = true ∧
      s.sched.window = some ⟨8, openEntry, 22, .openSlot ab .inProgress⟩ ∧
      s.spor.entries = [] ++ (⟨23, 42, ab, 1, some 40, 5, true⟩ : SporadicEntry) :: (posted true).drop 1 ∧
      (∀ y ∈ [] ++ (posted true).drop 1, y.onAir = false) ∧ (s.spor.entries.map SporadicEntry.ticket).Nodup) := by
  decide +kernel

theorem entries_sound : ∀ e ∈ [sendEntry, expectEntry, quietEntry, openEntry], EntrySound e := by
  simp [sendEntry, expectEntry, quietEntry, openEntry]; decide

theorem table_sound : BankSound table := by
  refine ⟨by decide +kernel, fun p hp e he => entries_sound e ?_⟩
  have empty : ∀ q ∈ Bank.empty, q = none := fun q hq => List.eq_of_mem_replicate hq
  rcases List.mem_or_eq_of_mem_set hp with hp | rfl
  · rcases List.mem_or_eq_of_mem_set hp with hp | rfl
    · rcases List.mem_or_eq_of_mem_set hp with hp | rfl
      · rcases List.mem_or_eq_of_mem_set hp with hp | rfl
        · simp [empty p hp] at he
        · simp_all
      · simp_all
    · simp_all
  · simp_all

theorem pool_sound : ∀ b ∈ pool, BufferSound b := by
  intro b hb
  rcases List.mem_or_eq_of_mem_set hb with hb | rfl
  · rcases List.mem_or_eq_of_mem_set hb with hb | rfl
    · rcases List.mem_or_eq_of_mem_set hb with hb | rfl
      · rcases List.mem_or_eq_of_mem_set hb with hb | rfl
        · rw [List.eq_of_mem_replicate hb]; simp [BufferSound, Buffer.unused]
        · simp [BufferSound]
      · simp [BufferSound, RxStatus.setup]
    · simp [BufferSound]
  · simp [BufferSound]

/-- The node with its sporadic launch on the air meets the invariant. -/
theorem sendingSporadic_sound : Inv sendingSporadic where
  params := by decide +kernel
  link := by decide +kernel
  delivery := And.intro rfl (And.intro rfl (by intro x hx; cases hx))
  frames := by decide +kernel
  parser := trivial
  deferred := And.intro rfl rfl
  still := by decide +kernel
  cycle := by decide +kernel
  clock := by decide +kernel
  sync := And.intro rfl (by decide)
  active := table_sound
  edit := table_sound
  table := by decide +kernel
  window := by
    intro w hw
    cases hw
    exact ⟨by decide +kernel, by decide, by decide, by decide, trivial, by decide +kernel⟩
  launch := by decide +kernel
  onAir := And.intro rfl rfl
  receiverA := by decide +kernel
  receiverB := by decide +kernel
  laneA := by decide +kernel
  laneB := by decide +kernel
  buffers := ⟨by decide +kernel, pool_sound⟩
  sporadic := by decide +kernel
  records := by decide +kernel
  groups := by decide +kernel
  held := by decide +kernel
  settled := by decide +kernel

/-- Every step answers a next state. -/
theorem step_run (s : State) : step s = .next (after (step s)) := by
  unfold step
  split
  · exact exec_run _ _
  · split
    · exact exec_run _ _
    · rfl

/-- For LinkStaysSound, TimebaseStaysSound, TablesStayValid, BusSideStaysSound, BuffersAndPostsStaySound,
RecordsAndGroupsStaySound and StepsStaySettledAndHeld: with a command at the front of the queue, and with none. -/
theorem witness_StepsKeepTheInvariant :
    Inv sendingSporadic ∧ step sendingSporadic = .next (after (step sendingSporadic)) ∧
    (let s := { sendingSporadic with pending := [.sporadicLaunchEnd noEcho noEcho] }
     Inv s ∧ step s = .next (after (step s))) :=
  ⟨sendingSporadic_sound, step_run _, { sendingSporadic_sound with held := by decide +kernel }, step_run _⟩

end Sys2Proof.Tests
end

section
/-! What a command posts, said once for every operation that raises events or answers a request: the state it leads to but for
the notification unit, the outbound frames and the count of free choices; the responses that joined the outbound queue; and the
events that were raised. -/
namespace Sys2Proof.Machine

/-! ### The groups after several events -/

/-- The seen marks of the groups, once an event has set its own (R139). -/
def Notice.mark (marks : List Word) (e : Notice) : List Word :=
  marks.modify e.event.group (· ||| BitVec.twoPow 16 e.event.number)

/-- The seen marks of the groups after these events (R139). -/
def marksAfter (notices : List Notice) (marks : List Word) : List Word := notices.foldl Notice.mark marks

/-- What one index of a list holds after changes at several indices: the changes at that index, in their order. -/
theorem getElem?_foldl_modify {α ε : Type} (key : ε → Nat) (f : ε → α → α) (es : List ε) (l : List α) (i : Nat) :
    (es.foldl (fun l e => l.modify (key e) (f e)) l)[i]? =
      l[i]?.map fun x => (es.filter fun e => key e = i).foldl (fun x e => f e x) x := by
  induction es generalizing l with
  | nil => simp
  | cons e es ih =>
    rw [List.foldl_cons, ih, List.getElem?_modify]
    by_cases h : key e = i <;> simp [h, Function.comp_def]

theorem accept_groups (n : Notifier) (e : Event) (c : BitVec 6) (d : Detail) :
    (n.accept e c d).groups = n.groups.modify e.group (·.accept e.number c d) := by
  unfold Notifier.accept
  split
  next g hg => simp [List.modify_eq_set_getElem?, hg]
  next hg => simp [List.modify_eq_set_getElem?, hg]

@[simp] theorem accept_mask (n : Notifier) (e : Event) (c : BitVec 6) (d : Detail) : (n.accept e c d).mask = n.mask := by
  unfold Notifier.accept; split <;> rfl

@[simp] theorem acceptAll_mask (n : Notifier) (notices : List Notice) : (n.acceptAll notices).mask = n.mask := by
  unfold Notifier.acceptAll
  induction notices generalizing n with
  | nil => rfl
  | cons e es ih => rw [List.foldl_cons, ih, accept_mask]

theorem acceptAll_groups (n : Notifier) (notices : List Notice) :
    (n.acceptAll notices).groups =
      notices.foldl (fun l e => l.modify e.event.group (·.accept e.event.number e.cycle e.detail)) n.groups := by
  unfold Notifier.acceptAll
  induction notices generalizing n with
  | nil => rfl
  | cons e es ih => rw [List.foldl_cons, ih, accept_groups, List.foldl_cons]

theorem acceptAll_append (n : Notifier) (es fs : List Notice) : n.acceptAll (es ++ fs) = (n.acceptAll es).acceptAll fs :=
  List.foldl_append

@[simp] theorem accept_seen (g : Group) (k : Nat) (c : BitVec 6) (d : Detail) :
    (g.accept k c d).seen = g.seen ||| BitVec.twoPow 16 k := by
  unfold Group.accept Group.accumulate
  simp only
  split
  · split <;> rfl
  · rfl

@[simp] theorem accept_level (g : Group) (k : Nat) (c : BitVec 6) (d : Detail) : (g.accept k c d).level = g.level := by
  unfold Group.accept Group.accumulate
  simp only
  split
  · split <;> rfl
  · rfl

/-- The events of each group, in their order, are the same in both lists. -/
def SameByGroup (es fs : List Notice) : Prop :=
  ∀ i, (es.filter fun e => e.event.group = i) = fs.filter fun e => e.event.group = i

theorem SameByGroup.refl (es : List Notice) : SameByGroup es es := fun _ => rfl

theorem SameByGroup.acceptAll {es fs : List Notice} (h : SameByGroup es fs) (n : Notifier) :
    n.acceptAll es = n.acceptAll fs := by
  have hg : (n.acceptAll es).groups = (n.acceptAll fs).groups := by
    refine List.ext_getElem? fun i => ?_
    rw [acceptAll_groups, acceptAll_groups]
    rw [getElem?_foldl_modify (fun e : Notice => e.event.group), getElem?_foldl_modify (fun e : Notice => e.event.group), h i]
  have hm : (n.acceptAll es).mask = (n.acceptAll fs).mask := by simp
  cases hx : n.acceptAll es; cases hy : n.acceptAll fs
  simp_all

theorem SameByGroup.marksAfter {es fs : List Notice} (h : SameByGroup es fs) (marks : List Word) :
    marksAfter es marks = marksAfter fs marks := by
  refine List.ext_getElem? fun i => ?_
  unfold Machine.marksAfter Notice.mark
  rw [getElem?_foldl_modify (fun e : Notice => e.event.group), getElem?_foldl_modify (fun e : Notice => e.event.group), h i]

/-- Events of one group, seen from any group. -/
theorem filter_group {es : List Notice} {g : Nat} (h : ∀ e ∈ es, e.event.group = g) (i : Nat) :
    (es.filter fun e => e.event.group = i) = if g = i then es else [] := by
  split
  next hi => exact List.filter_eq_self.2 fun e he => by simp [h e he, hi]
  next hi => exact List.filter_eq_nil_iff.2 fun e he => by simp [h e he, hi]

/-- Events of two groups may change places. -/
theorem SameByGroup.swap {es fs : List Notice} {g k : Nat} (hes : ∀ e ∈ es, e.event.group = g)
    (hfs : ∀ e ∈ fs, e.event.group = k) (hgk : g ≠ k) : SameByGroup (es ++ fs) (fs ++ es) := by
  intro i
  simp only [List.filter_append, filter_group hes, filter_group hfs]
  split <;> split <;> simp_all

theorem SameByGroup.append {es fs gs hs : List Notice} (h : SameByGroup es fs) (k : SameByGroup gs hs) :
    SameByGroup (es ++ gs) (fs ++ hs) := by
  intro i
  rw [List.filter_append, List.filter_append, h i, k i]

/-! ### What the notification unit hears -/

/-- From n to m these events were raised and frames may have been composed: levels and mask level stay, each event has set its
seen mark, and a unit in which no level lies above the mask level has accepted just these events (R139, R143). -/
structure Hears (notices : List Notice) (n m : Notifier) : Prop where
  mask : m.mask = n.mask
  levels : m.groups.map Group.level = n.groups.map Group.level
  seen : m.groups.map Group.seen = marksAfter notices (n.groups.map Group.seen)
  calm : (∀ g ∈ n.groups, g.level ≤ n.mask) → m = n.acceptAll notices

theorem Hears.refl (n : Notifier) : Hears [] n n := ⟨rfl, rfl, rfl, fun _ => rfl⟩

/-- That no level lies above the mask level is told by the levels alone. -/
theorem calm_iff (n : Notifier) : (∀ g ∈ n.groups, g.level ≤ n.mask) ↔ ∀ k ∈ n.groups.map Group.level, k ≤ n.mask := by
  simp

theorem Hears.trans {es fs : List Notice} {n m k : Notifier} (h : Hears es n m) (g : Hears fs m k) :
    Hears (es ++ fs) n k where
  mask := g.mask.trans h.mask
  levels := g.levels.trans h.levels
  seen := by rw [g.seen, h.seen, marksAfter, marksAfter, marksAfter, List.foldl_append]
  calm hn := by
    have hm : ∀ g ∈ m.groups, g.level ≤ m.mask := by
      rw [calm_iff, h.levels, h.mask, ← calm_iff]; exact hn
    rw [g.calm hm, h.calm hn, acceptAll_append]

theorem Hears.reorder {es fs : List Notice} {n m : Notifier} (h : Hears es n m) (e : SameByGroup es fs) : Hears fs n m :=
  ⟨h.mask, h.levels, by rw [h.seen, e.marksAfter], fun hn => by rw [h.calm hn, e.acceptAll]⟩

/-- A map that the change at one index does not touch. -/
theorem map_modify_of_eq {α β : Type} (f : α → β) (g : α → α) (h : ∀ x, f (g x) = f x) (l : List α) (i : Nat) :
    (l.modify i g).map f = l.map f := by
  refine List.ext_getElem? fun j => ?_
  rw [List.getElem?_map, List.getElem?_map, List.getElem?_modify]
  cases l[j]? with
  | none => rfl
  | some x => by_cases hj : i = j <;> simp [hj, h]

theorem accept_hears (n : Notifier) (e : Event) (c : BitVec 6) (d : Detail) : Hears [⟨e, c, d⟩] n (n.accept e c d) where
  mask := accept_mask n e c d
  levels := by rw [accept_groups]; exact map_modify_of_eq _ _ (fun g => accept_level g _ _ _) _ _
  seen := by
    rw [accept_groups]
    simp only [marksAfter, List.foldl_cons, List.foldl_nil, Notice.mark]
    refine List.ext_getElem? fun i => ?_
    simp only [List.getElem?_map, List.getElem?_modify]
    cases n.groups[i]? with
    | none => rfl
    | some g => by_cases hi : e.group = i <;> simp [hi]
  calm _ := rfl

/-- The chosen group stands in the list at its number, and is eligible (R145). -/
theorem chooseGroup_some {mask : Nat} {gs : List Group} {i j : Nat} {g : Group} (h : chooseGroup mask gs i = some (j, g)) :
    i ≤ j ∧ gs[j - i]? = some g ∧ g.eligible mask = true := by
  induction gs generalizing i with
  | nil => simp [chooseGroup] at h
  | cons x xs ih =>
    have later {k : Nat × Group} (hk : chooseGroup mask xs (i + 1) = some k) (he : some k = some (j, g)) :
        i ≤ j ∧ (x :: xs)[j - i]? = some g ∧ g.eligible mask = true := by
      obtain ⟨hij, hg, hel⟩ := ih (hk.trans he)
      refine ⟨by omega, ?_, hel⟩
      rw [show j - i = j - (i + 1) + 1 by omega, List.getElem?_cons_succ, hg]
    rw [chooseGroup] at h
    split at h
    next hn =>
      split at h
      next he =>
        obtain ⟨rfl, rfl⟩ : i = j ∧ x = g := by simpa using h
        simpa using he
      next => cases h
    next k hk hs =>
      split at h
      next he =>
        obtain ⟨rfl, rfl⟩ : i = j ∧ x = g := by simpa using h
        have he := (Bool.and_eq_true _ _ ▸ he).1
        simpa using he
      next => exact later hs h

theorem compose_hears (s : State) : Hears [] s.notif (compose s).notif := by
  unfold compose
  split
  next i g hc =>
    obtain ⟨-, hg, he⟩ := chooseGroup_some (Notifier.chosen.eq_1 _ ▸ hc)
    rw [Nat.sub_zero] at hg
    have hset : s.notif.groups.set i { g with acc := none, delivery := .awaiting } =
        s.notif.groups.modify i fun g => { g with acc := none, delivery := .awaiting } := by
      simp [List.modify_eq_set_getElem?, hg]
    refine ⟨rfl, ?_, ?_, fun hn => ?_⟩
    · rw [hset]; exact map_modify_of_eq Group.level _ (by intro; rfl) _ _
    · rw [hset]; exact map_modify_of_eq Group.seen _ (by intro; rfl) _ _
    · have hl := hn g (List.mem_of_getElem? hg)
      simp only [Group.eligible, Bool.and_eq_true, decide_eq_true_eq] at he
      omega
  next => exact .refl _

theorem composeAll_hears (s : State) : Hears [] s.notif (composeAll s).notif := by
  unfold composeAll
  split
  · simp only
    split
    · exact (compose_hears s).trans (compose_hears _)
    · exact compose_hears s
  · simp only
    split
    · exact compose_hears s
    · exact .refl _

theorem raise_hears (e : Event) (d : Detail) (s : State) : Hears [⟨e, s.tb.cycle, d⟩] s.notif (raise e d s).notif := by
  unfold raise
  refine (accept_hears s.notif e s.tb.cycle d).trans (fs := []) ?_
  simp only
  split
  · split
    · exact composeAll_hears (countRace { s with notif := s.notif.accept e s.tb.cycle d })
    · exact .refl _
  · exact .refl _

/-- The seen mark of one group after these events, as the statements write it. -/
theorem marksAfter_getElem? (notices : List Notice) (marks : List Word) (i : Nat) :
    (marksAfter notices marks)[i]? = marks[i]?.map fun m =>
      notices.foldl (fun m e => if e.event.group = i then m ||| BitVec.twoPow 16 e.event.number else m) m := by
  unfold marksAfter Notice.mark
  rw [getElem?_foldl_modify (fun e : Notice => e.event.group)]
  congr 1
  funext m
  rw [List.foldl_filter]
  simp

/-- What the unit heard is what the statements call raised. -/
theorem Hears.raised {notices : List Notice} {s t : State} (h : Hears notices s.notif t.notif) (ten : TenGroups s) :
    Raised notices s t := by
  refine ⟨fun i hi => ?_, h.calm⟩
  have hseen : (t.notif.groups[i]?).map Group.seen =
      ((s.notif.groups[i]?).map Group.seen).map fun m =>
        notices.foldl (fun m e => if e.event.group = i then m ||| BitVec.twoPow 16 e.event.number else m) m := by
    rw [← List.getElem?_map, h.seen, marksAfter_getElem?, List.getElem?_map]
  have hs : s.notif.groups[i]? = some s.notif.groups[i] := List.getElem?_eq_getElem (by omega)
  rw [hs] at hseen
  obtain ⟨g, hg, hgs⟩ := Option.map_eq_some_iff.1 hseen
  simp only [groupAt, hg, hs, Option.getD_some, hgs]

/-! ### What a command posts -/

/-- The state with another notification unit, another outbound queue and another count of free choices. -/
def State.noted (n : Notifier) (o : List OutFrame) (r : Nat) (s : State) : State :=
  { s with notif := n, link := { s.link with outbound := o }, races := r }

section
variable (n : Notifier) (o : List OutFrame) (r : Nat) (s : State)

@[simp] theorem noted_cfg : (s.noted n o r).cfg = s.cfg := rfl
@[simp] theorem noted_tb : (s.noted n o r).tb = s.tb := rfl
@[simp] theorem noted_sched : (s.noted n o r).sched = s.sched := rfl
@[simp] theorem noted_lanes : (s.noted n o r).lanes = s.lanes := rfl
@[simp] theorem noted_launch : (s.noted n o r).launch = s.launch := rfl
@[simp] theorem noted_rx : (s.noted n o r).rx = s.rx := rfl
@[simp] theorem noted_bufs : (s.noted n o r).bufs = s.bufs := rfl
@[simp] theorem noted_spor : (s.noted n o r).spor = s.spor := rfl
@[simp] theorem noted_recs : (s.noted n o r).recs = s.recs := rfl
@[simp] theorem noted_notif : (s.noted n o r).notif = n := rfl
@[simp] theorem noted_link : (s.noted n o r).link = { s.link with outbound := o } := rfl
@[simp] theorem noted_now : (s.noted n o r).now = s.now := rfl

end

/-- A change of state that neither reads nor changes the notification unit, the outbound queue and the count of choices. -/
def Blind (f : State → State) : Prop := ∀ n o r s, f (s.noted n o r) = (f s).noted n o r

theorem Blind.comp {f g : State → State} (hf : Blind f) (hg : Blind g) : Blind (f ∘ g) := fun n o r s => by
  simp only [Function.comp_apply, hg n o r s, hf n o r]

theorem Blind.notif {f : State → State} (hf : Blind f) (s : State) : (f s).notif = s.notif := by
  have h : f s = (f s).noted s.notif s.link.outbound s.races := hf s.notif s.link.outbound s.races s
  rw [h, noted_notif]

theorem Blind.outbound {f : State → State} (hf : Blind f) (s : State) : (f s).link.outbound = s.link.outbound := by
  have h : f s = (f s).noted s.notif s.link.outbound s.races := hf s.notif s.link.outbound s.races s
  rw [h, noted_link]

/-- t is x but for the notification unit, the count of free choices and the outbound queue, which these responses joined in
this order, with NOTIFY frames among them; and the unit has heard these events. -/
def Posts (responses : List OutFrame) (notices : List Notice) (x t : State) : Prop :=
  ∃ n new r, t = x.noted n (x.link.outbound ++ new) r ∧ new.filter (fun f => f.kind == .response) = responses ∧
    (∀ f ∈ new, f.kind = .response ∨ f.kind = .notify) ∧ Hears notices x.notif n

section
variable {responses more : List OutFrame} {notices : List Notice} {x t u : State}

theorem Posts.refl (x : State) : Posts [] [] x x :=
  ⟨x.notif, [], x.races, by simp [State.noted], rfl, by simp, .refl _⟩

theorem Posts.trans {later : List Notice} (h : Posts responses notices x t) (k : Posts more later t u) :
    Posts (responses ++ more) (notices ++ later) x u := by
  obtain ⟨n, new, r, rfl, hr, hk, hh⟩ := h
  obtain ⟨m, new', q, rfl, hr', hk', hh'⟩ := k
  refine ⟨m, new ++ new', q, by simp [State.noted], by rw [List.filter_append, hr, hr'], ?_, hh.trans hh'⟩
  intro f hf
  rcases List.mem_append.1 hf with hf | hf
  · exact hk f hf
  · exact hk' f hf

theorem Posts.of_notifies (h : Notifies x t) (hh : Hears notices x.notif t.notif) : Posts [] notices x t := by
  obtain ⟨n, new, r, rfl, hn⟩ := h
  refine ⟨n, new, r, rfl, ?_, fun f hf => .inr (hn f hf), hh⟩
  exact List.filter_eq_nil_iff.2 fun f hf => by simp [hn f hf]

theorem Posts.map {f : State → State} (hf : Blind f) (h : Posts responses notices x t) :
    Posts responses notices (f x) (f t) := by
  obtain ⟨n, new, r, rfl, hr, hk, hh⟩ := h
  exact ⟨n, new, r, by rw [hf, hf.outbound], hr, hk, by rwa [hf.notif]⟩

theorem Posts.reorder {later : List Notice} (h : Posts responses notices x t) (e : SameByGroup notices later) :
    Posts responses later x t := by
  obtain ⟨n, new, r, ht, hr, hk, hh⟩ := h
  exact ⟨n, new, r, ht, hr, hk, hh.reorder e⟩

/-- A further operation, of which is known what it posts on any state. -/
theorem Posts.andThen {op f : State → State} {resp : State → List OutFrame} {said : State → List Notice}
    (h : Posts responses notices x t) (hop : ∀ y, Posts (resp y) (said y) (f y) (op y)) (hf : Blind f)
    (hr : ∀ n o r, resp (x.noted n o r) = resp x) (hs : ∀ n o r, said (x.noted n o r) = said x) :
    Posts (responses ++ resp x) (notices ++ said x) (f x) (op t) := by
  refine (h.map hf).trans ?_
  have := hop t
  obtain ⟨n, new, r, rfl, -⟩ := h
  rwa [hr, hs] at this

theorem Posts.raise (h : Posts responses notices x t) (e : Event) (d : Detail) :
    Posts responses (notices ++ [⟨e, x.tb.cycle, d⟩]) x (raise e d t) := by
  have := h.andThen (op := Machine.raise e d) (f := id) (fun y => .of_notifies (raise_notifies e d y) (raise_hears e d y))
    (fun _ _ _ _ => rfl) (fun _ _ _ => rfl) (fun _ _ _ => rfl)
  simpa using this

theorem Posts.composeAll (h : Posts responses notices x t) : Posts responses notices x (composeAll t) := by
  have := h.trans (.of_notifies (composeAll_notifies t) (composeAll_hears t))
  simpa using this

/-- The command ends with the handler idle and the arbiter having moved (R144). -/
theorem Posts.settle (h : Posts responses notices x t) (hi : x.link.intake = []) :
    Posts responses notices x (settle t) := by
  have ht : t.link.intake = [] := by obtain ⟨n, new, r, rfl, -⟩ := h; exact hi
  rw [settle_empty ht]
  exact h.composeAll

theorem Posts.answers {s : State} (h : Posts responses notices x t) (ho : x.link.outbound = s.link.outbound) :
    Answers responses x s t := by
  obtain ⟨n, new, r, rfl, hr, hk, -⟩ := h
  exact ⟨rfl, new, by rw [← ho]; rfl, hr, hk⟩

theorem Posts.raised {s : State} (h : Posts responses notices x t) (hn : x.notif = s.notif) (ten : TenGroups s) :
    Raised notices s t := by
  obtain ⟨n, new, r, rfl, -, -, hh⟩ := h
  exact Hears.raised (hn ▸ hh) ten

theorem Posts.tb_eq (h : Posts responses notices x t) : t.tb = x.tb := by obtain ⟨n, new, r, rfl, -⟩ := h; rfl
theorem Posts.now_eq (h : Posts responses notices x t) : t.now = x.now := by obtain ⟨n, new, r, rfl, -⟩ := h; rfl
theorem Posts.lanes_eq (h : Posts responses notices x t) : t.lanes = x.lanes := by obtain ⟨n, new, r, rfl, -⟩ := h; rfl
theorem Posts.bufs_eq (h : Posts responses notices x t) : t.bufs = x.bufs := by obtain ⟨n, new, r, rfl, -⟩ := h; rfl

end

end Sys2Proof.Machine
end

section
/-! What each operation that several commands share does: the plain change of state it makes, the responses it queues and the
events it raises. -/
namespace Sys2Proof.Machine

/-! ### Operations and what they post -/

/-- On every state `op` makes the change `f`, queues the responses `resp` and raises the events `said`; and none of the three
reads what notifications change. -/
structure Does (op f : State → State) (resp : State → List OutFrame) (said : State → List Notice) : Prop where
  posts : ∀ s, Posts (resp s) (said s) (f s) (op s)
  blind : Blind f
  respBlind : ∀ n o r s, resp (s.noted n o r) = resp s
  saidBlind : ∀ n o r s, said (s.noted n o r) = said s

section
variable {op f op' f' : State → State} {resp resp' : State → List OutFrame} {said said' : State → List Notice}

/-- A change of state that raises nothing. -/
theorem Does.plain (hf : Blind f) : Does f f (fun _ => []) (fun _ => []) :=
  ⟨fun _ => .refl _, hf, fun _ _ _ _ => rfl, fun _ _ _ _ => rfl⟩

theorem Does.after {responses : List OutFrame} {notices : List Notice} {x t : State} (d : Does op f resp said)
    (h : Posts responses notices x t) : Posts (responses ++ resp x) (notices ++ said x) (f x) (op t) :=
  h.andThen d.posts d.blind (fun n o r => d.respBlind n o r x) (fun n o r => d.saidBlind n o r x)

/-- One operation after another. -/
theorem Does.comp (d' : Does op' f' resp' said') (d : Does op f resp said) :
    Does (op' ∘ op) (f' ∘ f) (fun s => resp s ++ resp' (f s)) (fun s => said s ++ said' (f s)) where
  posts s := d'.after (d.posts s)
  blind := d'.blind.comp d.blind
  respBlind n o r s := by simp only [d.respBlind, d.blind n o r s, d'.respBlind]
  saidBlind n o r s := by simp only [d.saidBlind, d.blind n o r s, d'.saidBlind]

end

theorem raise_does (e : Event) (d : Detail) : Does (raise e d) id (fun _ => []) (fun s => [⟨e, s.tb.cycle, d⟩]) :=
  ⟨fun s => .of_notifies (raise_notifies e d s) (raise_hears e d s), fun _ _ _ _ => rfl, fun _ _ _ _ => rfl,
    fun _ _ _ _ => rfl⟩

/-! ### Records (R126 to R129) -/

/-- A record has been handed to the queue. -/
def filed (r : Record) (s : State) : State := { s with recs := s.recs.filed r }

theorem fileRecord_does (r : Record) :
    Does (fileRecord r) (filed r) (fun _ => []) (fun s => s.recs.filingNotices s.tb.cycle r) where
  posts s := by
    unfold fileRecord insertRecord filed RecordQueue.filed RecordQueue.filingNotices Config.recordCapacity
    split
    next hl =>
      simp only
      split
      · exact (raise_does _ _).posts _
      · exact .refl _
    next hl =>
      simp only
      split
      · exact (raise_does _ _).posts _
      · exact .refl _
  blind _ _ _ _ := rfl
  respBlind _ _ _ _ := rfl
  saidBlind _ _ _ _ := rfl

theorem filingNotices_group (q : RecordQueue) (c : BitVec 6) (r : Record) :
    ∀ e ∈ q.filingNotices c r, e.event.group = 6 := by
  unfold RecordQueue.filingNotices
  split <;> split <;> simp [Event.group]

theorem filingNoticesAll_group (c : BitVec 6) (rs : List Record) (q : RecordQueue) :
    ∀ e ∈ RecordQueue.filingNoticesAll c rs q, e.event.group = 6 := by
  induction rs generalizing q with
  | nil => simp [RecordQueue.filingNoticesAll]
  | cons r rs ih =>
    intro e he
    rcases List.mem_append.1 he with he | he
    · exact filingNotices_group q c r e he
    · exact ih _ e he

/-! ### Lanes: values of one lane -/

section
variable {α : Type}

@[simp] theorem get_set_same (p : PerLane α) (l : Lane) (x : α) : (p.set l x).get l = x := by cases l <;> rfl

theorem get_set_other {l k : Lane} (h : k ≠ l) (p : PerLane α) (x : α) : (p.set l x).get k = p.get k := by
  cases l <;> cases k
  · exact absurd rfl h
  · rfl
  · rfl
  · exact absurd rfl h

@[simp] theorem set_get_same (p : PerLane α) (l : Lane) : p.set l (p.get l) = p := by cases l <;> rfl

@[simp] theorem set_set_same (p : PerLane α) (l : Lane) (x y : α) : (p.set l x).set l y = p.set l y := by cases l <;> rfl

theorem update_eq_set (p : PerLane α) (l : Lane) (f : α → α) : p.update l f = p.set l (f (p.get l)) := rfl

/-- What one lane holds after a change on the lanes of a set. -/
theorem get_on (p : PerLane α) (s : LaneSet) (f : α → α) (l : Lane) :
    (p.on s f).get l = if s.has l then f (p.get l) else p.get l := by cases l <;> rfl

theorem on_none (p : PerLane α) (f : α → α) : p.on LaneSet.none f = p := rfl

end

/-! ### Launches cut and lanes leaving (R9, R10) -/

theorem cutLaunch_blind (lanes : LaneSet) : Blind (cutLaunch lanes) := by
  intro n o r s
  unfold cutLaunch
  simp only [noted_launch]
  cases s.launch with
  | none => rfl
  | some x =>
    simp only
    split
    · by_cases hb : x.kind = .beacon
      · simp only [hb, if_true]; rfl
      · simp only [hb, if_false]; rfl
    · rfl

theorem laneLeaves_blind (l : Lane) : Blind (laneLeaves l) := by
  intro n o r s
  unfold laneLeaves
  rw [cutLaunch_blind]
  rfl

/-- With no launch in progress a lane leaves the open window alone (R10). -/
theorem laneLeaves_of_no_launch {l : Lane} {s : State} (h : s.launch = none) :
    laneLeaves l s = { s with sched := { s.sched with window := s.sched.window.map fun w => { w with role := w.role.without l } } } := by
  have hc : cutLaunch (LaneSet.single l) s = s := by
    rcases cutLaunch_cases (LaneSet.single l) s with ⟨-, hc⟩ | ⟨x, hx, -⟩
    · exact hc
    · rw [h] at hx; cases hx
  rw [laneLeaves, hc]

section
variable (l : Lane) (s : State)

@[simp] theorem laneLeaves_cfg : (laneLeaves l s).cfg = s.cfg := by rw [laneLeaves_keeps]
@[simp] theorem laneLeaves_tb : (laneLeaves l s).tb = s.tb := by rw [laneLeaves_keeps]
@[simp] theorem laneLeaves_lanes : (laneLeaves l s).lanes = s.lanes := by rw [laneLeaves_keeps]
@[simp] theorem laneLeaves_recs : (laneLeaves l s).recs = s.recs := by rw [laneLeaves_keeps]
@[simp] theorem laneLeaves_bufs : (laneLeaves l s).bufs = s.bufs := by rw [laneLeaves_keeps]
@[simp] theorem laneLeaves_now : (laneLeaves l s).now = s.now := by rw [laneLeaves_keeps]
@[simp] theorem laneLeaves_link : (laneLeaves l s).link = s.link := by rw [laneLeaves_keeps]
@[simp] theorem laneLeaves_notif : (laneLeaves l s).notif = s.notif := by rw [laneLeaves_keeps]

end

/-! ### Lane units (R91 to R98) -/

/-- A lane unit has new values. -/
def setUnit (l : Lane) (u : LaneUnit) (s : State) : State := { s with lanes := s.lanes.set l u }

theorem setUnit_blind (l : Lane) (u : LaneUnit) : Blind (setUnit l u) := fun _ _ _ _ => rfl

@[simp] theorem setUnit_self (l : Lane) (s : State) : setUnit l (s.lanes.get l) s = s := by simp [setUnit]

@[simp] theorem setUnit_setUnit (l : Lane) (u v : LaneUnit) (s : State) : setUnit l v (setUnit l u s) = setUnit l v s := by
  simp [setUnit]

@[simp] theorem setUnit_get (l : Lane) (u : LaneUnit) (s : State) : (setUnit l u s).lanes.get l = u := by simp [setUnit]

theorem setDebit_eq (l : Lane) (d : Nat) (s : State) : setDebit l d s = setUnit l { s.lanes.get l with debit := d } s := rfl

/-- What a lane's leaving changes does not depend on the lane units. -/
theorem laneLeaves_setUnit (l k : Lane) (u : LaneUnit) (s : State) :
    laneLeaves l (setUnit k u s) = setUnit k u (laneLeaves l s) := by
  unfold laneLeaves cutLaunch
  cases hx : s.launch with
  | none => simp only [setUnit, hx]
  | some x =>
    simp only [setUnit, hx]
    split
    · by_cases hb : x.kind = .beacon
      · simp only [hb, if_true]
      · simp only [hb, if_false]; rfl
    · rfl

/-- The lane's STATE_CHANGED (R106). -/
def laneNotice (l : Lane) (old new : LaneState) (cause : LaneCause) (debit : Nat) (stamp : BitVec 6) : Notice :=
  ⟨.laneChanged l, stamp, ⟨old.code, new.code, cause.code, byte debit⟩⟩

theorem changeLane_does (l : Lane) (cause : LaneCause) (u : LaneUnit) :
    Does (changeLane l cause u) (setUnit l u) (fun _ => [])
      (fun s => [laneNotice l (s.lanes.get l).state u.state cause u.debit s.tb.cycle]) :=
  ⟨fun s => (raise_does _ _).posts (setUnit l u s), fun _ _ _ _ => rfl, fun _ _ _ _ => rfl, fun _ _ _ _ => rfl⟩

/-- The lane has entered FAULTED and left what it was in (R95). -/
def faulted (l : Lane) (s : State) : State := setUnit l (LaneUnit.faultedAt s.cfg.debitLimit) (laneLeaves l s)

theorem faulted_blind (l : Lane) : Blind (faulted l) := fun n o r s => by
  unfold faulted
  rw [laneLeaves_blind, noted_cfg, setUnit_blind]

@[simp] theorem faulted_setUnit (l : Lane) (u : LaneUnit) (s : State) : faulted l (setUnit l u s) = faulted l s := by
  unfold faulted
  rw [laneLeaves_setUnit]
  simp [setUnit]

theorem faultLane_does (l : Lane) (cause : LaneCause) :
    Does (faultLane l cause) (faulted l) (fun _ => [])
      (fun s => [laneNotice l (s.lanes.get l).state .faulted cause s.cfg.debitLimit s.tb.cycle]) where
  posts s := by
    have := (changeLane_does l cause (LaneUnit.faultedAt s.cfg.debitLimit)).posts (laneLeaves l s)
    rwa [laneLeaves_lanes, laneLeaves_tb] at this
  blind := faulted_blind l
  respBlind _ _ _ _ := rfl
  saidBlind _ _ _ _ := rfl

/-- An ACTIVE lane's debit has been increased: below the limit it stands higher, at the limit the lane is FAULTED (R91, R92). -/
def charged (l : Lane) (amount : Nat) (s : State) : State :=
  if s.cfg.debitLimit ≤ (s.lanes.get l).debit + amount then faulted l s
  else setUnit l { s.lanes.get l with debit := (s.lanes.get l).debit + amount } s

/-- The report comes with the debit after the increase; where that reaches the limit, the lane is faulted after it (R92, R106). -/
theorem chargeLane_posts (l : Lane) (amount : Nat) (report : Nat → State → State) (said : Nat → List Notice) (s : State)
    (h : ∀ d y, y.tb = s.tb → Posts [] (said d) y (report d y)) :
    Posts [] (said ((s.lanes.get l).raisedDebit s.cfg.debitLimit amount) ++
        (if s.cfg.debitLimit ≤ (s.lanes.get l).debit + amount then
          [laneNotice l (s.lanes.get l).state .faulted .debitLimit s.cfg.debitLimit s.tb.cycle] else []))
      (charged l amount s) (chargeLane l amount report s) := by
  unfold chargeLane charged LaneUnit.raisedDebit
  simp only [setDebit_eq]
  split
  next hd =>
    rw [min_eq_left hd]
    have := (faultLane_does l .debitLimit).after
      (h s.cfg.debitLimit (setUnit l { s.lanes.get l with debit := s.cfg.debitLimit } s) rfl)
    rw [faulted_setUnit, setUnit_get] at this
    exact this
  next hd =>
    rw [min_eq_right (by omega), List.append_nil]
    exact h _ _ rfl

/-! #### Outcomes (R91, R97) -/

/-- A lane outcome or beacon outcome has acted on its lane. -/
def graded (l : Lane) (o : Outcome) (proved : Bool) (s : State) : State :=
  setUnit l ((s.lanes.get l).after s.cfg.debitLimit o proved)
    (if (s.lanes.get l).faults s.cfg.debitLimit o proved then laneLeaves l s else s)

section
variable {u : LaneUnit} {limit : Nat} {o : Outcome} {proved : Bool}

/-- The table of R91 and R97, read by the lane state and the class of the outcome. -/
theorem after_eq (u : LaneUnit) (limit : Nat) (o : Outcome) (proved : Bool) :
    u.after limit o proved =
      if u.state = .active then
        if o.isClean then { u with debit := u.debit - 1 }
        else if o.isError ∨ (o = .silent ∧ proved = true) then u.charged limit 2 else u
      else if u.state = .probation then
        if o.isClean then { u with good := true } else if o.isError then LaneUnit.faultedAt limit else u
      else u := by
  cases hu : u.state <;> cases o <;> simp [LaneUnit.after, hu, Outcome.isClean, Outcome.isError]

theorem after_active_clean (hu : u.state = .active) (ho : o.isClean = true) :
    u.after limit o proved = { u with debit := u.debit - 1 } := by
  rw [after_eq, if_pos hu, if_pos ho]

theorem after_active_charged (hu : u.state = .active) (hc : o.isClean = false)
    (h : o.isError = true ∨ (o = .silent ∧ proved = true)) : u.after limit o proved = u.charged limit 2 := by
  rw [after_eq, if_pos hu, if_neg (by simp [hc]), if_pos h]

theorem after_active_other (hu : u.state = .active) (hc : o.isClean = false)
    (h : ¬(o.isError = true ∨ (o = .silent ∧ proved = true))) : u.after limit o proved = u := by
  rw [after_eq, if_pos hu, if_neg (by simp [hc]), if_neg h]

theorem after_probation_clean (hu : u.state = .probation) (ho : o.isClean = true) :
    u.after limit o proved = { u with good := true } := by
  rw [after_eq, if_neg (by simp [hu]), if_pos hu, if_pos ho]

theorem after_probation_error (hu : u.state = .probation) (hc : o.isClean = false) (ho : o.isError = true) :
    u.after limit o proved = LaneUnit.faultedAt limit := by
  rw [after_eq, if_neg (by simp [hu]), if_pos hu, if_neg (by simp [hc]), if_pos ho]

theorem after_probation_other (hu : u.state = .probation) (hc : o.isClean = false) (he : o.isError = false) :
    u.after limit o proved = u := by
  rw [after_eq, if_neg (by simp [hu]), if_pos hu, if_neg (by simp [hc]), if_neg (by simp [he])]

theorem after_off (ha : u.state ≠ .active) (hp : u.state ≠ .probation) : u.after limit o proved = u := by
  rw [after_eq, if_neg ha, if_neg hp]

theorem isError_iff : o.isError = true ↔ o = .timing ∨ o = .check ∨ o = .format := by cases o <;> simp [Outcome.isError]

theorem isError_of_isClean (h : o.isClean = true) : o.isError = false := by cases o <;> simp_all [Outcome.isClean, Outcome.isError]

/-- A charged unit is FAULTED exactly when its debit reached the limit (R92). -/
theorem charged_state_faulted (hu : u.state = .active) (amount : Nat) :
    ((u.charged limit amount).state == .faulted) = decide (limit ≤ u.debit + amount) := by
  unfold LaneUnit.charged
  split
  next h => simp [LaneUnit.faultedAt, h]
  next h => simp [hu, h]

/-- A unit that keeps its state is not faulted by the outcome. -/
theorem faults_of_state_eq (h : (u.after limit o proved).state = u.state) : u.faults limit o proved = false := by
  simp [LaneUnit.faults, h]

/-- The events of an outcome that is no error and faults nothing: none. -/
theorem outcomeNotices_none (l : Lane) (position : Option Nat) (stamp cycle : BitVec 6) (he : o.isError = false)
    (hf : u.faults limit o proved = false) : u.outcomeNotices l limit o proved position stamp cycle = [] := by
  have he' : ¬(o = .timing ∨ o = .check ∨ o = .format) := fun h => by simp [isError_iff.2 h] at he
  unfold LaneUnit.outcomeNotices
  simp [he', hf]

end

theorem graded_blind (l : Lane) (o : Outcome) (proved : Bool) : Blind (graded l o proved) := by
  intro n q r s
  unfold graded
  rw [noted_lanes, noted_cfg, laneLeaves_blind]
  cases (s.lanes.get l).faults s.cfg.debitLimit o proved <;> rfl

/-- An outcome that keeps the lane's state changes the lane unit alone. -/
theorem graded_eq_setUnit {l : Lane} {o : Outcome} {proved : Bool} {s : State} {u : LaneUnit}
    (ha : (s.lanes.get l).after s.cfg.debitLimit o proved = u) (hu : u.state = (s.lanes.get l).state) :
    graded l o proved s = setUnit l u s := by
  unfold graded
  rw [faults_of_state_eq (by rw [ha, hu]), ha]
  simp

/-- An outcome that charges an ACTIVE lane by 2 changes it as the charge does. -/
theorem graded_eq_charged {l : Lane} {o : Outcome} {proved : Bool} {s : State} (hu : (s.lanes.get l).state = .active)
    (ha : (s.lanes.get l).after s.cfg.debitLimit o proved = (s.lanes.get l).charged s.cfg.debitLimit 2) :
    graded l o proved s = charged l 2 s := by
  unfold graded charged LaneUnit.faults
  rw [ha, charged_state_faulted hu]
  split
  next hf =>
    have hd : s.cfg.debitLimit ≤ (s.lanes.get l).debit + 2 := by simpa [hu] using hf
    simp only [hd, if_true, LaneUnit.charged, faulted]
  next hf =>
    have hd : ¬s.cfg.debitLimit ≤ (s.lanes.get l).debit + 2 := by simpa [hu] using hf
    simp only [hd, if_false, LaneUnit.charged]

theorem optByte_eq (position : Option Nat) : optByte position = (position.map byte).getD 0xFF := by
  cases position <;> rfl

theorem reportReceiveError_posts (l : Lane) (o : Outcome) (position : Option Nat) (cycle : BitVec 6) (debit : Nat) (s : State) :
    Posts [] [⟨.receiveError l, s.tb.cycle, ⟨o.code, (position.map byte).getD 0xFF, cycleByte cycle, byte debit⟩⟩] s
      (reportReceiveError l o position cycle debit s) := by
  rw [← optByte_eq]
  exact (raise_does _ _).posts s

/-- An outcome acts on its lane by the lane's state (R91, R97), and raises RECEIVE_ERROR and STATE_CHANGED where the rules say
(R106). -/
theorem gradeOutcome_does (l : Lane) (o : Outcome) (proved : Bool) (position : Option Nat) (cycle : BitVec 6) :
    Does (gradeOutcome l o proved position cycle) (graded l o proved) (fun _ => [])
      (fun s => (s.lanes.get l).outcomeNotices l s.cfg.debitLimit o proved position s.tb.cycle cycle) where
  posts s := by
    have plain : ∀ {u : LaneUnit}, (s.lanes.get l).after s.cfg.debitLimit o proved = u → u.state = (s.lanes.get l).state →
        o.isError = false → Posts [] ((s.lanes.get l).outcomeNotices l s.cfg.debitLimit o proved position s.tb.cycle cycle)
          (graded l o proved s) (setUnit l u s) := fun ha hu he => by
      rw [outcomeNotices_none _ _ _ _ he (faults_of_state_eq (by rw [ha, hu])), graded_eq_setUnit ha hu]
      exact .refl _
    unfold gradeOutcome
    split
    next hu =>
      split
      next hc => exact plain (after_active_clean hu hc) rfl (isError_of_isClean hc)
      next hc =>
        have hc : o.isClean = false := by simpa using hc
        split
        next he =>
          have ha := after_active_charged (limit := s.cfg.debitLimit) (proved := proved) hu hc (.inl he)
          rw [graded_eq_charged hu ha]
          have hp := chargeLane_posts l 2 (reportReceiveError l o position cycle) _ s
            fun d y hy => hy ▸ reportReceiveError_posts l o position cycle d y
          simpa [LaneUnit.outcomeNotices, LaneUnit.faults, ha, charged_state_faulted hu, hu, isError_iff.1 he, laneNotice]
            using hp
        next he =>
          split
          next hs =>
            have ha := after_active_charged (limit := s.cfg.debitLimit) hu hc (.inr hs)
            obtain ⟨rfl, rfl⟩ := hs
            rw [graded_eq_charged hu ha]
            have hp := chargeLane_posts l 2 (fun _ t => t) (fun _ => []) s fun _ y _ => .refl y
            simpa [LaneUnit.outcomeNotices, LaneUnit.faults, ha, charged_state_faulted hu, hu, laneNotice] using hp
          next hs =>
            have := plain (after_active_other hu hc (not_or.2 ⟨he, hs⟩)) rfl (by simpa using he)
            rwa [setUnit_self] at this
    next hu =>
      split
      next hc => exact plain (after_probation_clean hu hc) rfl (isError_of_isClean hc)
      next hc =>
        have hc : o.isClean = false := by simpa using hc
        split
        next he =>
          have ha := after_probation_error (limit := s.cfg.debitLimit) (proved := proved) hu hc he
          have hf : (s.lanes.get l).faults s.cfg.debitLimit o proved = true := by
            simp [LaneUnit.faults, ha, hu, LaneUnit.faultedAt]
          have hg : graded l o proved s = faulted l s := by simp [graded, hf, ha, faulted]
          rw [hg]
          have hp := (faultLane_does l .probationError).after
            (reportReceiveError_posts l o position cycle s.cfg.debitLimit s)
          simpa [LaneUnit.outcomeNotices, hf, hu, isError_iff.1 he, laneNotice] using hp
        next he =>
          have := plain (after_probation_other hu hc (by simpa using he)) rfl (by simpa using he)
          rwa [setUnit_self] at this
    all_goals
      next hu =>
        have ha := after_off (u := s.lanes.get l) (limit := s.cfg.debitLimit) (o := o) (proved := proved) (by simp [hu])
          (by simp [hu])
        have hf := faults_of_state_eq (congrArg LaneUnit.state ha)
        have hn : (s.lanes.get l).outcomeNotices l s.cfg.debitLimit o proved position s.tb.cycle cycle = [] := by
          simp [LaneUnit.outcomeNotices, hf, hu]
        rw [hn, graded_eq_setUnit ha rfl, setUnit_self]
        exact .refl _
  blind := graded_blind l o proved
  respBlind _ _ _ _ := rfl
  saidBlind _ _ _ _ := rfl

/-! #### Echoes (R91, R94) -/

/-- An echo outcome has acted on its lane. -/
def echoed (l : Lane) (o : Outcome) (s : State) : State :=
  setUnit l ((s.lanes.get l).afterEcho s.cfg.debitLimit o)
    (if (s.lanes.get l).state = .active ∧ o = .echoFault ∧ s.cfg.debitLimit ≤ (s.lanes.get l).debit + 4 then laneLeaves l s
      else s)

theorem echoed_blind (l : Lane) (o : Outcome) : Blind (echoed l o) := by
  intro n q r s
  unfold echoed
  rw [noted_lanes, noted_cfg, laneLeaves_blind]
  by_cases h : (s.lanes.get l).state = .active ∧ o = .echoFault ∧ s.cfg.debitLimit ≤ (s.lanes.get l).debit + 4
  · rw [if_pos h, if_pos h, setUnit_blind]
  · rw [if_neg h, if_neg h, setUnit_blind]

theorem reportTransmitFault_posts (l : Lane) (k : LaunchKind) (position : Option Nat) (cycle : BitVec 6) (debit : Nat)
    (s : State) :
    Posts [] [⟨.transmitFault l, s.tb.cycle, ⟨k.code, (position.map byte).getD 0xFF, cycleByte cycle, byte debit⟩⟩] s
      (reportTransmitFault l k position cycle debit s) := by
  rw [← optByte_eq]
  exact (raise_does _ _).posts s

/-- The echo rows of R91, read by the lane state and the outcome. -/
theorem afterEcho_eq (u : LaneUnit) (limit : Nat) (o : Outcome) :
    u.afterEcho limit o =
      if u.state = .active then
        if o = .echoOk then { u with debit := u.debit - 1 } else if o = .echoFault then u.charged limit 4 else u
      else u := by
  cases hu : u.state <;> cases o <;> simp [LaneUnit.afterEcho, hu]

/-- An echo outcome lowers an ACTIVE lane's debit or charges it by 4 with TRANSMIT_FAULT (R91, R94, R106). -/
theorem gradeEcho_does (l : Lane) (o : Outcome) (k : LaunchKind) (position : Option Nat) (cycle : BitVec 6) :
    Does (gradeEcho l o k position cycle) (echoed l o) (fun _ => [])
      (fun s => (s.lanes.get l).echoNotices l s.cfg.debitLimit o k position s.tb.cycle cycle) where
  posts s := by
    have idle : (s.lanes.get l).afterEcho s.cfg.debitLimit o = s.lanes.get l →
        ¬((s.lanes.get l).state = .active ∧ o = .echoFault) →
        Posts [] ((s.lanes.get l).echoNotices l s.cfg.debitLimit o k position s.tb.cycle cycle) (echoed l o s) s := by
      intro ha hn
      have he : echoed l o s = s := by
        unfold echoed
        rw [ha, if_neg fun h => hn ⟨h.1, h.2.1⟩, setUnit_self]
      rw [LaneUnit.echoNotices, if_neg hn, he]
      exact .refl _
    unfold gradeEcho
    split
    next hu =>
      split
      next ho =>
        subst ho
        have he : echoed l .echoOk s = creditLane l s := by
          simp [echoed, afterEcho_eq, hu, creditLane, setDebit_eq]
        rw [he, LaneUnit.echoNotices, if_neg (by simp)]
        exact .refl _
      next ho =>
        split
        next hf =>
          subst hf
          have he : echoed l .echoFault s = charged l 4 s := by
            unfold echoed charged faulted
            rw [afterEcho_eq, if_pos hu, if_neg (by simp), if_pos rfl, LaneUnit.charged]
            simp only [hu, true_and]
            split <;> rfl
          rw [he]
          have hp := chargeLane_posts l 4 (reportTransmitFault l k position cycle) _ s
            fun d y hy => hy ▸ reportTransmitFault_posts l k position cycle d y
          simpa [LaneUnit.echoNotices, hu, laneNotice] using hp
        next hf =>
          refine idle ?_ (by simp [hf])
          rw [afterEcho_eq, if_pos hu, if_neg ho, if_neg hf]
    next hu =>
      refine idle ?_ (by simp [hu])
      rw [afterEcho_eq, if_neg hu]
  blind := echoed_blind l o
  respBlind _ _ _ _ := rfl
  saidBlind _ _ _ _ := rfl

/-- The echo outcomes act on both lanes. -/
theorem gradeEchoes_does (k : LaunchKind) (position : Option Nat) (cycle : BitVec 6) (o : PerLane Outcome) :
    Does (gradeEchoes k position cycle o) (echoed .B o.b ∘ echoed .A o.a) (fun _ => [])
      (fun s => (s.lanes.get .A).echoNotices .A s.cfg.debitLimit o.a k position s.tb.cycle cycle ++
        ((echoed .A o.a s).lanes.get .B).echoNotices .B (echoed .A o.a s).cfg.debitLimit o.b k position
          (echoed .A o.a s).tb.cycle cycle) :=
  (gradeEcho_does .B o.b k position cycle).comp (gradeEcho_does .A o.a k position cycle)

/-! #### Cycle-start events (R96, R98) -/

/-- A lane unit in PROBATION with nothing counted yet (R97). -/
def LaneUnit.fresh (st : LaneState) : LaneUnit := { state := st, debit := 0, hold := 0, clean := 0, good := false }

/-- The lane has entered PROBATION, and its receiver left OFF (R10, R97). -/
def readmit (l : Lane) (s : State) : State :=
  setUnit l (LaneUnit.fresh .probation) { s with rx := s.rx.update l (Receiver.listen s.now) }

theorem enterProbation_does (l : Lane) (cause : LaneCause) :
    Does (enterProbation l cause) (readmit l) (fun _ => [])
      (fun s => [laneNotice l (s.lanes.get l).state .probation cause 0 s.tb.cycle]) :=
  ⟨fun s => (changeLane_does l cause (LaneUnit.fresh .probation)).posts { s with rx := s.rx.update l (Receiver.listen s.now) },
    fun _ _ _ _ => rfl, fun _ _ _ _ => rfl, fun _ _ _ _ => rfl⟩

theorem promoteLane_does (l : Lane) :
    Does (promoteLane l) (setUnit l (LaneUnit.fresh .active)) (fun _ => [])
      (fun s => [laneNotice l (s.lanes.get l).state .active .probationPassed 0 s.tb.cycle]) :=
  changeLane_does l .probationPassed (LaneUnit.fresh .active)

/-- A lane unit has reacted to a cycle-start event; a lane taken from FAULTED to PROBATION listens from now on. -/
def lived (l : Lane) (s : State) : State :=
  setUnit l ((s.lanes.get l).afterCycle s.cfg)
    (if (readmitted s.cfg s.lanes).has l then { s with rx := s.rx.update l (Receiver.listen s.now) } else s)

theorem lived_blind (l : Lane) : Blind (lived l) := by
  intro n o r s
  unfold lived
  rw [noted_lanes, noted_cfg]
  cases (readmitted s.cfg s.lanes).has l <;> rfl

theorem readmitted_has (p : Params) (lanes : PerLane LaneUnit) (l : Lane) :
    (readmitted p lanes).has l = ((lanes.get l).state == .faulted && ((lanes.get l).afterCycle p).state == .probation) := by
  cases l <;> rfl

/-- The hold count of a FAULTED lane at a cycle-start event (R96). -/
def LaneUnit.held (u : LaneUnit) : LaneUnit := { u with hold := min 255 (u.hold + 1) }

/-- The clean count of a PROBATION lane at a cycle-start event (R98). -/
def LaneUnit.judged (u : LaneUnit) : LaneUnit :=
  { u with clean := if u.good then min 255 (u.clean + 1) else u.clean, good := false }

section
variable {l : Lane} {s : State}

theorem laneCycleStart_faulted (hu : (s.lanes.get l).state = .faulted) :
    laneCycleStart l s = if s.cfg.autoReadmission = true ∧ s.cfg.holdTime ≤ (s.lanes.get l).held.hold then
      enterProbation l .holdExpired (setUnit l (s.lanes.get l).held s) else setUnit l (s.lanes.get l).held s := by
  have hserved : holdServed (setUnit l (s.lanes.get l).held s) l = true ↔
      s.cfg.autoReadmission = true ∧ s.cfg.holdTime ≤ (s.lanes.get l).held.hold := by
    simp only [holdServed, setUnit_get, LaneUnit.held, hu, beq_self_eq_true, Bool.true_and, Bool.and_eq_true,
      decide_eq_true_eq]
    exact .rfl
  unfold laneCycleStart
  simp only
  split
  · exact if_congr hserved rfl rfl
  all_goals simp_all

theorem laneCycleStart_probation (hu : (s.lanes.get l).state = .probation) :
    laneCycleStart l s = if s.cfg.probationCount ≤ (s.lanes.get l).judged.clean then
      promoteLane l (setUnit l (s.lanes.get l).judged s) else setUnit l (s.lanes.get l).judged s := by
  have hserved : probationServed (setUnit l (s.lanes.get l).judged s) l = true ↔
      s.cfg.probationCount ≤ (s.lanes.get l).judged.clean := by
    simp only [probationServed, setUnit_get, LaneUnit.judged, hu, beq_self_eq_true, Bool.true_and, decide_eq_true_eq]
    exact .rfl
  unfold laneCycleStart
  simp only
  split
  next hf => simp [hu] at hf
  · exact if_congr hserved rfl rfl
  all_goals simp_all

theorem laneCycleStart_other (hu : (s.lanes.get l).state = .active ∨ (s.lanes.get l).state = .disabled) :
    laneCycleStart l s = s := by
  unfold laneCycleStart
  rcases hu with hu | hu <;> simp only [hu]

end

section
variable {u : LaneUnit} (p : Params)

theorem afterCycle_faulted (hu : u.state = .faulted) :
    u.afterCycle p = if p.autoReadmission = true ∧ p.holdTime ≤ u.held.hold then LaneUnit.fresh .probation else u.held := by
  unfold LaneUnit.afterCycle
  split
  · rfl
  all_goals simp_all

theorem afterCycle_probation (hu : u.state = .probation) :
    u.afterCycle p = if p.probationCount ≤ u.judged.clean then LaneUnit.fresh .active else u.judged := by
  unfold LaneUnit.afterCycle
  split
  next hf => simp [hu] at hf
  · rfl
  all_goals simp_all

theorem afterCycle_other (hu : u.state = .active ∨ u.state = .disabled) : u.afterCycle p = u := by
  unfold LaneUnit.afterCycle
  rcases hu with hu | hu <;> simp only [hu]

/-- Where a cycle-start event leaves the lane's state, it raises no event of the lane. -/
theorem cycleNotices_none (l : Lane) (stamp : BitVec 6) (h : (u.afterCycle p).state = u.state) :
    u.cycleNotices l p stamp = [] := by
  rw [LaneUnit.cycleNotices, if_pos h]

end

theorem lived_eq_setUnit {l : Lane} {s : State} {u : LaneUnit} (ha : (s.lanes.get l).afterCycle s.cfg = u)
    (h : (s.lanes.get l).state = .faulted → u.state ≠ .probation) : lived l s = setUnit l u s := by
  have hr : (readmitted s.cfg s.lanes).has l = false := by
    rw [readmitted_has, ha]
    simpa using h
  rw [lived, hr, ha]
  rfl

/-- A lane unit reacts to a cycle-start event: holds and probations are counted, and STATE_CHANGED comes with the count that
reaches its number (R96, R98, R106). -/
theorem laneCycleStart_does (l : Lane) :
    Does (laneCycleStart l) (lived l) (fun _ => []) (fun s => (s.lanes.get l).cycleNotices l s.cfg s.tb.cycle) where
  posts s := by
    cases hu : (s.lanes.get l).state with
    | faulted =>
      rw [laneCycleStart_faulted hu]
      have ha := afterCycle_faulted s.cfg hu
      split
      next h =>
        rw [if_pos h] at ha
        have hr : (readmitted s.cfg s.lanes).has l = true := by rw [readmitted_has, ha, hu]; rfl
        have hp := (enterProbation_does l .holdExpired).posts (setUnit l (s.lanes.get l).held s)
        have hl : readmit l (setUnit l (s.lanes.get l).held s) = lived l s := by
          simp [readmit, lived, hr, ha, setUnit]
        rw [hl, setUnit_get] at hp
        rw [LaneUnit.cycleNotices, ha, hu, if_neg (by simp [LaneUnit.fresh]), if_pos rfl]
        rw [show (s.lanes.get l).held.state = .faulted from hu] at hp
        exact hp
      next h =>
        rw [if_neg h] at ha
        have hs : (s.lanes.get l).held.state = (s.lanes.get l).state := rfl
        rw [cycleNotices_none _ _ _ (by rw [ha, hs]), lived_eq_setUnit ha (by simp [hs, hu])]
        exact .refl _
    | probation =>
      rw [laneCycleStart_probation hu]
      have ha := afterCycle_probation s.cfg hu
      split
      next h =>
        rw [if_pos h] at ha
        have hp := (promoteLane_does l).posts (setUnit l (s.lanes.get l).judged s)
        rw [setUnit_get, setUnit_setUnit] at hp
        rw [LaneUnit.cycleNotices, ha, hu, if_neg (by simp [LaneUnit.fresh]), if_neg (by simp),
          lived_eq_setUnit ha (by simp [LaneUnit.fresh])]
        rw [show (s.lanes.get l).judged.state = .probation from hu] at hp
        exact hp
      next h =>
        rw [if_neg h] at ha
        have hs : (s.lanes.get l).judged.state = (s.lanes.get l).state := rfl
        rw [cycleNotices_none _ _ _ (by rw [ha, hs]), lived_eq_setUnit ha (by simp [hu])]
        exact .refl _
    | active | disabled =>
      have ha := afterCycle_other s.cfg (u := s.lanes.get l) (by simp [hu])
      rw [laneCycleStart_other (by simp [hu]), cycleNotices_none _ _ _ (by rw [ha]), lived_eq_setUnit ha (by simp [hu]),
        setUnit_self]
      exact .refl _
  blind := lived_blind l
  respBlind _ _ _ _ := rfl
  saidBlind _ _ _ _ := rfl

/-! ### Deferred answers and the commit (R52, R53, R183) -/

/-- The deferred request of this kind is gone, and its reservation with it. -/
def undefer (kind : DeferredKind) (s : State) : State := { s with link := s.link.withoutDeferred kind }

theorem undefer_blind (kind : DeferredKind) : Blind (undefer kind) := by
  intro n o r s
  unfold undefer Link.withoutDeferred
  simp only [noted_link]
  split
  · split <;> rfl
  · rfl

theorem answerDeferred_does (kind : DeferredKind) (r : Result) :
    Does (answerDeferred kind r) (undefer kind) (fun s => s.link.deferredAnswer kind r) (fun _ => []) where
  posts s := by
    rcases answerDeferred_cases kind r s with ⟨tag, hd, h⟩ | ⟨hd, h⟩
    · have hu : undefer kind s = { s with link := { s.link with deferred := none, reservations := s.link.reservations - 1 } } := by
        simp [undefer, Link.withoutDeferred, hd]
      have ha : s.link.deferredAnswer kind r = [responseFrame tag r []] := by simp [Link.deferredAnswer, hd]
      rw [h, hu, ha]
      exact ⟨s.notif, [responseFrame tag r []], s.races, rfl, rfl, by simp [responseFrame], .refl _⟩
    · have hk : undefer kind s = s ∧ s.link.deferredAnswer kind r = [] := by
        unfold undefer Link.withoutDeferred Link.deferredAnswer
        cases hx : s.link.deferred with
        | none => exact ⟨rfl, rfl⟩
        | some d => simp [hd d hx]
      rw [h, hk.1, hk.2]
      exact .refl _
  blind := undefer_blind kind
  respBlind _ _ _ _ := rfl
  saidBlind _ _ _ _ := rfl

/-- A pending commit has taken effect. -/
def committed (s : State) : State := if s.sched.commitPending then undefer .tcommit (copyEdit s) else s

theorem committed_blind : Blind committed := by
  intro n o r s
  unfold committed
  rw [noted_sched]
  cases s.sched.commitPending with
  | true => exact undefer_blind .tcommit n o r (copyEdit s)
  | false => rfl

theorem settleCommit_does (cause : CommitCause) :
    Does (settleCommit cause) committed
      (fun s => if s.sched.commitPending then s.link.deferredAnswer .tcommit .ok else [])
      (fun s => commitNotices cause s.tb.cycle s) where
  posts s := by
    unfold settleCommit committed commitNotices
    split
    next hp =>
      have h := (answerDeferred_does .tcommit .ok).posts (copyEdit s)
      have hd := (raise_does .commitDone ⟨cause.code, cycleByte (answerDeferred .tcommit .ok (copyEdit s)).tb.cycle,
        byte (answerDeferred .tcommit .ok (copyEdit s)).sched.active.occupied, 0⟩).after h
      obtain ⟨n, new, r, ht, -⟩ := h
      have htb : (answerDeferred .tcommit .ok (copyEdit s)).tb = s.tb := by rw [ht]; rfl
      have hsc : (answerDeferred .tcommit .ok (copyEdit s)).sched.active = s.sched.edit := by rw [ht]; rfl
      rw [htb, hsc, List.append_nil] at hd
      unfold raiseCommitDone
      rw [htb, hsc]
      exact hd
    next hp => exact .refl _
  blind := committed_blind
  respBlind _ _ _ _ := rfl
  saidBlind _ _ _ _ := rfl

/-! ### Expiry (R118, R122) -/

/-- The EXPIRED event of an entry (R122). -/
def expiredNotice (c : BitVec 6) (e : SporadicEntry) : Notice :=
  ⟨.expired, c, ⟨lowByte (BitVec.ofNat 16 e.ticket), highByte (BitVec.ofNat 16 e.ticket), byte e.buffer, cycleByte c⟩⟩

/-- An entry has expired: it is gone, and its record was handed to the queue. -/
def expiredOne (e : SporadicEntry) (s : State) : State := filed (expiredRecord e s.tb.cycle) (removeTicket e.ticket s)

theorem expireEntry_does (e : SporadicEntry) :
    Does (expireEntry e) (expiredOne e) (fun _ => [])
      (fun s => s.recs.filingNotices s.tb.cycle (expiredRecord e s.tb.cycle) ++ [expiredNotice s.tb.cycle e]) where
  posts s := by
    have h := (fileRecord_does (expiredRecord e s.tb.cycle)).posts (removeTicket e.ticket s)
    exact (raise_does .expired (detailWord (BitVec.ofNat 16 e.ticket) (byte e.buffer) (cycleByte s.tb.cycle))).after h
  blind _ _ _ _ := rfl
  respBlind _ _ _ _ := rfl
  saidBlind _ _ _ _ := rfl

/-- The entries of a list have expired, one after the other. -/
def expiredAll (gone : List SporadicEntry) (s : State) : State := gone.foldl (fun s e => expiredOne e s) s

/-- Several expiries: the EXPIRED events in order, and the events of filing in order; they stand in different groups. -/
theorem expireAll_posts (gone : List SporadicEntry) {x t : State} {responses : List OutFrame} {notices : List Notice}
    (h : Posts responses notices x t) :
    Posts responses (notices ++ (gone.map (expiredNotice x.tb.cycle) ++
        RecordQueue.filingNoticesAll x.tb.cycle (gone.map fun e => expiredRecord e x.tb.cycle) x.recs))
      (expiredAll gone x) (gone.foldl (fun t e => expireEntry e t) t) := by
  induction gone generalizing x t notices with
  | nil => simpa [RecordQueue.filingNoticesAll, expiredAll] using h
  | cons e gone ih =>
    have one := (expireEntry_does e).after h
    rw [List.append_nil] at one
    have rest := ih one
    refine rest.reorder ?_
    rw [List.append_assoc, List.append_assoc]
    refine (SameByGroup.refl notices).append ?_
    have hexpired : ∀ n ∈ (e :: gone).map (expiredNotice x.tb.cycle), n.event.group = 5 := by
      simp [expiredNotice, Event.group]
    have hswap := (SameByGroup.swap (filingNotices_group x.recs x.tb.cycle (expiredRecord e x.tb.cycle)) hexpired
      (by decide)).append (.refl (RecordQueue.filingNoticesAll x.tb.cycle (gone.map fun e => expiredRecord e x.tb.cycle)
        (x.recs.filed (expiredRecord e x.tb.cycle))))
    have hx : (expiredOne e x).tb = x.tb ∧ (expiredOne e x).recs = x.recs.filed (expiredRecord e x.tb.cycle) := ⟨rfl, rfl⟩
    simpa [RecordQueue.filingNoticesAll, hx] using hswap

/-- Entries that have expired are gone, their records handed on; nothing else has changed. -/
theorem expiredAll_eq (gone : List SporadicEntry) (s : State) :
    expiredAll gone s =
      { s with
        spor := { s.spor with entries := s.spor.entries.filter fun e => gone.all fun g => e.ticket != g.ticket }
        recs := (gone.map fun e => expiredRecord e s.tb.cycle).foldl RecordQueue.filed s.recs } := by
  induction gone generalizing s with
  | nil => simp [expiredAll]
  | cons e gone ih =>
    change expiredAll gone (expiredOne e s) = _
    rw [ih]
    simp [expiredOne, filed, removeTicket, List.filter_filter, Bool.and_comm]

/-- Among entries with different tickets, those whose ticket is not one of the selected entries' are the others. -/
theorem filter_other_tickets {entries : List SporadicEntry} (h : (entries.map SporadicEntry.ticket).Nodup)
    (p : SporadicEntry → Bool) :
    (entries.filter fun e => (entries.filter p).all fun g => e.ticket != g.ticket) = entries.filter fun e => !p e := by
  refine List.filter_congr fun e he => ?_
  cases hp : p e with
  | true =>
    have : ((entries.filter p).all fun g => e.ticket != g.ticket) = false :=
      List.all_eq_false.2 ⟨e, List.mem_filter.2 ⟨he, hp⟩, by simp⟩
    rw [this]; rfl
  | false =>
    have : ((entries.filter p).all fun g => e.ticket != g.ticket) = true := by
      refine List.all_eq_true.2 fun g hg => ?_
      obtain ⟨hg, hpg⟩ := List.mem_filter.1 hg
      have hne : e ≠ g := fun heq => by rw [heq, hpg] at hp; cases hp
      simpa using fun ht => hne (List.inj_on_of_nodup_map h he hg ht)
    rw [this]; rfl

/-- Every entry whose life has run out is gone. -/
def expiredDue (s : State) : State :=
  { s with
    spor := { s.spor with entries := s.spor.entries.filter fun e => e.onAir || e.life != 0 }
    recs := (s.spor.due.map fun e => expiredRecord e s.tb.cycle).foldl RecordQueue.filed s.recs }

theorem expiredDue_blind : Blind expiredDue := fun _ _ _ _ => rfl

theorem expiryNotices_nil (left : List SporadicEntry) (c : BitVec 6) : expiryNotices [] left c = [] := rfl

/-- QUEUE_EMPTY follows the last expiry where no entry is left (R122). -/
theorem expiryNotices_last {gone : List SporadicEntry} {e : SporadicEntry} (h : gone.getLast? = some e) (c : BitVec 6) :
    expiryNotices gone [] c = gone.map (expiredNotice c) ++
      [⟨.queueEmpty, c, detailWord (BitVec.ofNat 16 e.ticket) 2 (cycleByte c)⟩] := by
  unfold expiryNotices
  rw [h]
  rfl

theorem expiryNotices_cons (gone : List SporadicEntry) (e : SporadicEntry) (left : List SporadicEntry) (c : BitVec 6) :
    expiryNotices gone (e :: left) c = gone.map (expiredNotice c) := by
  unfold expiryNotices
  cases gone.getLast? <;> simp [expiredNotice]

/-- The expiries at one moment and what they raise (R118, R122). -/
theorem expireDue_posts {s : State} (hn : (s.spor.entries.map SporadicEntry.ticket).Nodup) :
    Posts [] (expiryNotices s.spor.due (expiredDue s).spor.entries s.tb.cycle ++
        RecordQueue.filingNoticesAll s.tb.cycle (s.spor.due.map fun e => expiredRecord e s.tb.cycle) s.recs)
      (expiredDue s) (expireDue s) := by
  have hall := expireAll_posts s.spor.due (.refl s)
  have hleft : expiredAll s.spor.due s = expiredDue s := by
    rw [expiredAll_eq, SporadicQueue.due, filter_other_tickets hn, expiredDue]
    simp [SporadicQueue.due, bne]
  rw [List.nil_append, hleft] at hall
  have hspor : (s.spor.due.foldl (fun t e => expireEntry e t) s).spor = (expiredDue s).spor := by
    obtain ⟨n, new, r, ht, -⟩ := hall
    rw [ht]
    rfl
  unfold expireDue
  split
  next hd =>
    rw [List.getLast?_eq_none_iff.1 hd] at hall ⊢
    exact hall
  next last hd =>
    simp only [raiseQueueEmpty, hspor]
    cases hl : (expiredDue s).spor.entries with
    | nil =>
      rw [expiryNotices_last hd]
      refine (hall.raise .queueEmpty _).reorder ?_
      rw [List.append_assoc, List.append_assoc]
      exact (SameByGroup.refl _).append
        (SameByGroup.swap (g := 6) (k := 5) (filingNoticesAll_group _ _ _) (by simp [Event.group]) (by decide))
    | cons e es =>
      rw [expiryNotices_cons]
      exact hall

end Sys2Proof.Machine
end

section
/-! Cycle-start reactions that are commands of their own, the CYCLE_MARK pulse, and the breach of a QUIET window. -/
namespace Sys2Proof.Machine

/-! ### From what an operation posts to what a command answers -/

/-- A command that ends in what is known to post these responses and events answers with them. -/
theorem answers_of_posts {c : Instr} {s x y : State} {responses : List OutFrame} {notices : List Notice}
    (hc : exec c s = finish y) (h : Posts responses notices x y) (hi : x.link.intake = []) (hn : x.notif = s.notif)
    (ho : x.link.outbound = s.link.outbound) (ten : TenGroups s) :
    ∃ t, exec c s = .next t ∧ Posts responses notices x t ∧ Raised notices s t ∧ Answers responses x s t :=
  have h := h.settle hi
  ⟨_, hc, h, h.raised hn ten, h.answers ho⟩

/-- A command that ends in what is known to raise these events and to answer nothing. -/
theorem effect_of_posts {c : Instr} {s x y : State} {notices : List Notice} (hc : exec c s = finish y)
    (h : Posts [] notices x y) (hi : x.link.intake = []) (hn : x.notif = s.notif) (ten : TenGroups s) :
    ∃ t, exec c s = .next t ∧ Raised notices s t ∧ Effect x t :=
  have h := h.settle hi
  ⟨_, hc, h.raised hn ten, h.answers rfl⟩

/-- What settling looks at: the notification unit, the link and the reset in force. -/
theorem finish_of_settled {s t : State} (h : Settled s) (hn : t.notif = s.notif) (hl : t.link = s.link)
    (hr : t.resetting = s.resetting) : finish t = .next t := by
  have hh : handlerReady t = handlerReady s := by simp only [handlerReady, hl, hr]
  have ha : arbiterReady t = arbiterReady s := by simp only [arbiterReady, hn, hl, hr]
  rw [finish, settle_settled (hh.trans h.1) (ha.trans h.2)]

/-! ### Reactions still due at a cycle start, and the pulse -/

/-- EXPIRY takes the entries whose life has run out, with a record and EXPIRED each (R118). -/
theorem expiry_effect {s : State} (hs : s.tb.atCycleStart = true) (hi : s.link.intake = []) (ten : TenGroups s)
    (hn : (s.spor.entries.map SporadicEntry.ticket).Nodup) :
    ∃ t, exec .expiry s = .next t ∧
      Raised (expiryNotices s.spor.due (expiredDue s).spor.entries s.tb.cycle ++
        RecordQueue.filingNoticesAll s.tb.cycle (s.spor.due.map fun e => expiredRecord e s.tb.cycle) s.recs) s t ∧
      Effect (expiredDue s) t :=
  effect_of_posts (y := expireDue s) (show execExpiry s = _ by rw [execExpiry, if_pos hs]) (expireDue_posts hn) hi rfl ten

/-- HOLD_EXPIRED makes a lane that has served its hold PROBATION (R96). -/
theorem holdExpired_effect {l : Lane} {s : State} (hs : s.tb.atCycleStart = true) (hi : s.link.intake = [])
    (ten : TenGroups s) (hu : (s.lanes.get l).state = .faulted) (hauto : s.cfg.autoReadmission = true)
    (hh : s.cfg.holdTime ≤ (s.lanes.get l).hold) :
    ∃ t, exec (.holdExpired l) s = .next t ∧ Raised [laneNotice l .faulted .probation .holdExpired 0 s.tb.cycle] s t ∧
      Effect (readmit l s) t :=
  effect_of_posts (y := enterProbation l .holdExpired s) (show execHoldExpired l s = _ by simp [execHoldExpired, hs, holdServed, hu, hauto, hh])
    (hu ▸ (enterProbation_does l .holdExpired).posts s) hi rfl ten

/-- PROBATION_PASSED makes a lane that has passed its probation ACTIVE (R98). -/
theorem probationPassed_effect {l : Lane} {s : State} (hs : s.tb.atCycleStart = true) (hi : s.link.intake = [])
    (ten : TenGroups s) (hu : (s.lanes.get l).state = .probation) (hc : s.cfg.probationCount ≤ (s.lanes.get l).clean) :
    ∃ t, exec (.probationPassed l) s = .next t ∧
      Raised [laneNotice l .probation .active .probationPassed 0 s.tb.cycle] s t ∧
      Effect (setUnit l (LaneUnit.fresh .active) s) t :=
  effect_of_posts (y := promoteLane l s) (show execProbationPassed l s = _ by simp [execProbationPassed, hs, probationServed, hu, hc])
    (hu ▸ (promoteLane_does l).posts s) hi rfl ten

theorem Effect.lanes_eq {x t : State} (h : Effect x t) : t.lanes = x.lanes := by rw [h.1]

/-- A pulse whose end is still to come: time passes to it (R18). -/
theorem pulseEnd_to_come {m : Nat} {s : State} (h : Settled s) (hm : s.tb.markUntil = some m) (hlt : s.now < m)
    (hr : reaches s (s.tb.offset + (m - s.now)) = true) :
    exec .cycleMarkPulseEnd s = .next { s with now := m, tb := { s.tb with
      offset := s.tb.offset + (m - s.now), atCycleStart := false, markUntil := none } } := by
  have hend : endPulse m s = { s with now := m, tb := { s.tb with
      offset := s.tb.offset + (m - s.now), atCycleStart := false, markUntil := none } } := by
    have hnow : s.now + (m - s.now) = m := by omega
    have hoff : ¬m - s.now = 0 := by omega
    simp [endPulse, hlt, hr, clearMark, passTo, setTimebase, hnow, hoff]
  change execCycleMarkPulseEnd s = _
  simp only [execCycleMarkPulseEnd, hm, hend]
  exact finish_of_settled h rfl rfl rfl

/-- A pulse that has run its time (R18). -/
theorem pulseEnd_over {m : Nat} {s : State} (h : Settled s) (hm : s.tb.markUntil = some m) (hle : m ≤ s.now) :
    exec .cycleMarkPulseEnd s = .next { s with tb := { s.tb with markUntil := none } } := by
  have hend : endPulse m s = { s with tb := { s.tb with markUntil := none } } := by
    rw [endPulse, if_neg (by omega)]
    rfl
  change execCycleMarkPulseEnd s = _
  simp only [execCycleMarkPulseEnd, hm, hend]
  exact finish_of_settled h rfl rfl rfl

/-- Settles O41, row by row from the effect of each. -/
theorem cycleStartReactionsAndPulse : Obligations.CycleStartReactionsAndPulse := by
  refine ⟨fun l s hs _ hi ten => ⟨fun hn => expiry_effect hs hi ten hn, fun hu hauto hh => ?_, fun hu hc => ?_⟩,
    fun m s h hm => ⟨pulseEnd_to_come h hm, pulseEnd_over h hm⟩⟩
  · exact holdExpired_effect hs hi ten hu hauto hh
  · obtain ⟨t, ht, hraised, heff⟩ := probationPassed_effect hs hi ten hu hc
    have hlane : laneOff t l = false := by
      rw [laneOff, heff.lanes_eq, setUnit_get]
      rfl
    exact ⟨t, ht, hraised, hlane, heff⟩

/-! ### The breach of a QUIET window (R63) -/

/-- The breach has been noted: the mark is set, its lane was busy up to now, and its record was handed to the queue. -/
def breached (w : Window) (l : Lane) (m : Nat) (s : State) : State :=
  filed (breachRecord w l m) { s with
    sched := { s.sched with window := some { w with role := w.role.breach } }
    rx := s.rx.update l (Receiver.occupy s.now) }

theorem breachAt_posts (w : Window) (l : Lane) (m : Nat) (s : State) :
    Posts [] (⟨.violation, s.tb.cycle, ⟨byte w.position, l.code, lowByte (BitVec.ofNat 16 m), highByte (BitVec.ofNat 16 m)⟩⟩ ::
        s.recs.filingNotices s.tb.cycle (breachRecord w l m))
      (breached w l m s) (breachAt w l m s) := by
  have h := ((fileRecord_does (breachRecord w l m)).posts { s with
    sched := { s.sched with window := some { w with role := w.role.breach } }
    rx := s.rx.update l (Receiver.occupy s.now) }).raise .violation
      ⟨byte w.position, l.code, lowByte (BitVec.ofNat 16 m), highByte (BitVec.ofNat 16 m)⟩
  exact h.reorder (SameByGroup.swap (g := 6) (k := 7) (filingNotices_group _ _ _) (by simp [Event.group]) (by decide))

/-- Settles O50: a breached window is not a watching one, and the first breach is `breachAt` at its offset. -/
theorem quietWindowBreached : Obligations.QuietWindowBreached := by
  intro l offset w taking onProbation left mark s hw hrole _ hi ten hset hwatch hlo hhi hreach
  refine ⟨fun hb => ?_, fun hb hbusy => ?_⟩
  · have hno : w.watching.has l = false := by
      rw [Window.watching, hrole, hb]
      cases l <;> rfl
    have hc : carrierStart l offset s = s := by simp [carrierStart, hw, isBreach, hno]
    change execBreach l offset s = _
    rw [execBreach, hc]
    exact finish_of_settled hset rfl rfl rfl
  · have hyes : w.watching.has l = true := by rw [Window.watching, hrole, hb]; exact hwatch
    have hbreach : isBreach s w l offset = true := by
      have hbusy' : (s.rx.get l).busy ≤ s.now + (offset - s.tb.offset) := hbusy
      simp [isBreach, hyes, hreach, hlo, hhi, hbusy']
    have hc : exec (.breach l offset) s = finish (breachAt w l offset (passTo offset s)) := by
      change execBreach l offset s = _
      simp [execBreach, carrierStart, hw, hbreach]
    have hp : w.onProbation l = onProbation.has l := by rw [Window.onProbation, hrole]
    have := effect_of_posts hc (breachAt_posts w l offset (passTo offset s)) hi rfl ten
    simp only [breached, breachRecord, plainRecord, hp, hrole, WindowRole.breach] at this
    exact this

end Sys2Proof.Machine
end

section
/-! The ends of launches (R8, R16, R26, R59, R115): the echoes act on the lanes, and then the launch's kind files and raises
what is its own. -/
namespace Sys2Proof.Machine

/-! ### Lanes graded with no launch on the air -/

/-- A lane that neither sends nor listens or watches in the open window has nothing to leave. -/
theorem laneLeaves_idle {l : Lane} {s : State} (hl : s.launch = none)
    (hw : ∀ w ∈ s.sched.window, w.role.without l = w.role) : laneLeaves l s = s := by
  rw [laneLeaves_of_no_launch hl]
  have : (s.sched.window.map fun w => { w with role := w.role.without l }) = s.sched.window := by
    cases hx : s.sched.window with
    | none => rfl
    | some w => simp [hw w hx]
  rw [this]

theorem echoed_idle {l : Lane} {s : State} (o : Outcome) (hl : s.launch = none)
    (hw : ∀ w ∈ s.sched.window, w.role.without l = w.role) :
    echoed l o s = setUnit l ((s.lanes.get l).afterEcho s.cfg.debitLimit o) s := by
  rw [echoed, laneLeaves_idle hl hw, ite_self]

/-- Both lanes have been graded by their echoes. -/
def echoedBoth (o : PerLane Outcome) (s : State) : State :=
  { s with lanes := ⟨s.lanes.a.afterEcho s.cfg.debitLimit o.a, s.lanes.b.afterEcho s.cfg.debitLimit o.b⟩ }

/-- The events of both lanes' echoes. -/
def echoNoticesBoth (k : LaunchKind) (position : Option Nat) (cycle : BitVec 6) (o : PerLane Outcome) (s : State) :
    List Notice :=
  s.lanes.a.echoNotices .A s.cfg.debitLimit o.a k position s.tb.cycle cycle ++
    s.lanes.b.echoNotices .B s.cfg.debitLimit o.b k position s.tb.cycle cycle

theorem gradeEchoes_posts (k : LaunchKind) (position : Option Nat) (cycle : BitVec 6) (o : PerLane Outcome) {s : State}
    (hl : s.launch = none) (hw : ∀ w ∈ s.sched.window, ∀ l, w.role.without l = w.role) :
    Posts [] (echoNoticesBoth k position cycle o s) (echoedBoth o s) (gradeEchoes k position cycle o s) := by
  have h := (gradeEchoes_does k position cycle o).posts s
  have ha := echoed_idle o.a hl fun w h => hw w h .A
  have hb := echoed_idle (s := setUnit .A (s.lanes.a.afterEcho s.cfg.debitLimit o.a) s) o.b hl fun w h => hw w h .B
  have hs : (echoed .B o.b ∘ echoed .A o.a) s = echoedBoth o s := by
    rw [Function.comp_apply, ha]
    exact hb
  rw [hs, ha] at h
  exact h

/-! ### The echo of each lane (R9, R16) -/

theorem onAir_has (x : Launch) (l : Lane) : x.onAir.has l = true ↔ x.lanes.has l = true ∧ x.cut.has l = false := by
  cases l <;> simp [Launch.onAir, LaneSet.minus, LaneSet.has]

/-- The echo outcome of one lane: none where the lane is not on the air. -/
def echoOf (x : Launch) (l : Lane) (e : Echo) : Outcome :=
  if x.lanes.has l = true ∧ x.cut.has l = false then echoOutcome x e else .notUsed

/-- Both lanes' echo outcomes. -/
def echoesOf (x : Launch) (a b : Echo) : PerLane Outcome := ⟨echoOf x .A a, echoOf x .B b⟩

theorem echoOutcomes_eq (x : Launch) (a b : Echo) : echoOutcomes x a b = echoesOf x a b := by
  unfold echoOutcomes echoesOf echoOf
  rw [if_congr (onAir_has x .A) rfl rfl, if_congr (onAir_has x .B) rfl rfl]

/-! ### What each kind of launch does at its end -/

section
variable {a b : Echo} {x : Launch} {s : State}

/-- The end of a launch is reached: what its kind does at that moment (R8). -/
theorem launchEnd_eq {kind : LaunchKind} (stop : Launch → State → State) (hx : s.launch = some x) (hk : x.kind = kind)
    (hr : reaches s x.ends = true) : launchEnd kind stop s = stop x (passTo x.ends s) := by
  simp [launchEnd, hx, hk, hr]

theorem endBeacon_posts (hw : s.sched.window = none) :
    Posts [] (echoNoticesBoth .beacon none x.cycle (echoesOf x a b) s)
      (echoedBoth (echoesOf x a b) (releaseLaunch x s)) (endBeacon x a b s) := by
  rw [endBeacon, echoOutcomes_eq]
  exact gradeEchoes_posts (s := releaseLaunch x s) _ _ _ _ rfl fun w h => by simp [hw] at h

/-- The open window with its launch ended. -/
def Window.afterLaunch (w : Window) : Window := { w with role := w.role.launched .ended }

/-- The state of a window's launch at its end, its lanes graded. -/
def launchOver (x : Launch) (w : Window) (o : PerLane Outcome) (s : State) : State :=
  echoedBoth o { s with
    launch := none, rx := s.rx.on x.onAir (Receiver.resume s.now)
    sched := { s.sched with window := some w.afterLaunch } }

theorem endLaunch_eq {w : Window} (hw : s.sched.window = some w) :
    endLaunch x s = { s with
      launch := none, rx := s.rx.on x.onAir (Receiver.resume s.now)
      sched := { s.sched with window := some w.afterLaunch } } := by
  simp [endLaunch, releaseLaunch, receivers, setLaunchState, hw, Window.afterLaunch]

/-- At the end of a SEND or OPEN window's launch both lanes are graded. -/
theorem gradeLaunch_posts {w : Window} (k : LaunchKind) (o : PerLane Outcome) (hw : s.sched.window = some w)
    (hrole : ∀ l, w.afterLaunch.role.without l = w.afterLaunch.role) :
    Posts [] (echoNoticesBoth k (some w.position) x.cycle o s) (launchOver x w o s)
      (gradeEchoes k (s.sched.window.map Window.position) x.cycle o (endLaunch x s)) := by
  have h := gradeEchoes_posts k (some w.position) x.cycle o (s := endLaunch x s) rfl (by
    rw [endLaunch_eq hw]
    rintro _ ⟨⟩ l
    exact hrole l)
  rw [endLaunch_eq hw] at h ⊢
  rw [hw]
  exact h

/-- The SENT record of a SEND launch (R59, R128). -/
def sentRecord (w : Window) (x : Launch) (node : Nat) (o : PerLane Outcome) : Record :=
  launchRecord .sent w x node o (byte (headerKind x.header1), (headerSequence x.header2).setWidth 8)

theorem endSend_posts {w : Window} {u : LaneSet} {st : LaunchState} (hw : s.sched.window = some w) (hrole : w.role = .send u st) :
    Posts [] (echoNoticesBoth .send (some w.position) x.cycle (echoesOf x a b) s ++
        (if w.entry.log then s.recs.filingNotices s.tb.cycle (sentRecord w x s.cfg.nodeId (echoesOf x a b)) else []))
      (if w.entry.log then
          filed (sentRecord w x s.cfg.nodeId (echoesOf x a b)) (launchOver x w (echoesOf x a b) s)
        else launchOver x w (echoesOf x a b) s)
      (endSend x a b s) := by
  have h := gradeLaunch_posts (x := x) .send (echoesOf x a b) hw fun l => by rw [Window.afterLaunch, hrole]; rfl
  unfold endSend
  simp only [hw, echoOutcomes_eq] at h ⊢
  split
  · exact (fileRecord_does (sentRecord w x s.cfg.nodeId (echoesOf x a b))).after h
  · simpa using h

/-- The sporadic entry on the air has been sent: it is gone, and its record was handed to the queue. -/
def completed (w : Window) (x : Launch) (e : SporadicEntry) (o : PerLane Outcome) (s : State) : State :=
  filed (launchRecord .sporadicSent w x s.cfg.nodeId o (ticketDetail e.ticket)) (removeTicket e.ticket s)

/-- SENT, and QUEUE_EMPTY where no entry is left (R115, R122). -/
def sentNotices (w : Window) (e : SporadicEntry) (left : List SporadicEntry) (stamp : BitVec 6) : List Notice :=
  [⟨.sent, stamp, detailWord (BitVec.ofNat 16 e.ticket) (byte w.entry.slot) (cycleByte w.cycle)⟩] ++
    (if left = [] then [⟨.queueEmpty, stamp, detailWord (BitVec.ofNat 16 e.ticket) 1 (cycleByte w.cycle)⟩] else [])

/-- The completion of a sporadic entry and what it raises (R115, R122). -/
theorem completeSporadic_does (w : Window) (x : Launch) (e : SporadicEntry) (o : PerLane Outcome) :
    Does (completeSporadic w x e o) (completed w x e o) (fun _ => [])
      (fun s => s.recs.filingNotices s.tb.cycle
          (launchRecord .sporadicSent w x s.cfg.nodeId o (ticketDetail e.ticket)) ++
        sentNotices w e (completed w x e o s).spor.entries s.tb.cycle) where
  posts s := by
    let r := launchRecord .sporadicSent w x s.cfg.nodeId o (ticketDetail e.ticket)
    let sent := detailWord (BitVec.ofNat 16 e.ticket) (byte w.entry.slot) (cycleByte w.cycle)
    have h := ((fileRecord_does r).posts (removeTicket e.ticket s)).raise .sent sent
    have hspor : (raise .sent sent (fileRecord r (removeTicket e.ticket s))).spor = (completed w x e o s).spor := by
      obtain ⟨n, new, q, ht, -⟩ := h
      rw [ht]
      rfl
    unfold completeSporadic raiseQueueEmpty sentNotices
    simp only [sent, r] at hspor
    simp only [hspor]
    cases hl : (completed w x e o s).spor.entries with
    | nil =>
      have h := h.raise .queueEmpty (detailWord (BitVec.ofNat 16 e.ticket) 1 (cycleByte w.cycle))
      rw [List.append_assoc] at h
      exact h
    | cons y ys => exact h
  blind _ _ _ _ := rfl
  respBlind _ _ _ _ := rfl
  saidBlind _ _ _ _ := rfl

/-- Among entries with different tickets, removing one entry's ticket leaves the others in their order. -/
theorem filter_ticket_of_nodup {entries before after : List SporadicEntry} {e : SporadicEntry}
    (he : entries = before ++ e :: after) (hn : (entries.map SporadicEntry.ticket).Nodup) :
    entries.filter (fun y => y.ticket != e.ticket) = before ++ after := by
  subst he
  simp only [List.map_append, List.map_cons] at hn
  have hn' := List.nodup_middle.1 hn
  have hother : ∀ y ∈ before ++ after, (y.ticket != e.ticket) = true := fun y hy => by
    have hmem : y.ticket ∈ before.map SporadicEntry.ticket ++ after.map SporadicEntry.ticket := by
      rw [← List.map_append]
      exact List.mem_map_of_mem hy
    have hnot := (List.nodup_cons.1 hn').1
    simp only [bne_iff_ne, ne_eq]
    exact fun heq => hnot (heq ▸ hmem)
  have hb : before.filter (fun y => y.ticket != e.ticket) = before :=
    List.filter_eq_self.2 fun y hy => hother y (List.mem_append_left _ hy)
  have ha : after.filter (fun y => y.ticket != e.ticket) = after :=
    List.filter_eq_self.2 fun y hy => hother y (List.mem_append_right _ hy)
  simp [hb, ha]

/-- The entry on the air is the one that is found. -/
theorem find_onAir {entries before after : List SporadicEntry} {e : SporadicEntry} (he : entries = before ++ e :: after)
    (hon : e.onAir = true) (hoff : ∀ y ∈ before, y.onAir = false) :
    entries.find? SporadicEntry.onAir = some e := by
  have hb : before.find? SporadicEntry.onAir = none := List.find?_eq_none.2 fun y hy => by simp [hoff y hy]
  rw [he, List.find?_append, hb, Option.none_or, List.find?_cons_of_pos hon]

theorem endSporadic_posts {w : Window} {u : LaneSet} {st : LaunchState} {e : SporadicEntry}
    (hw : s.sched.window = some w) (hrole : w.role = .openSlot u st) (he : s.spor.entries.find? SporadicEntry.onAir = some e) :
    Posts [] (echoNoticesBoth .sporadic (some w.position) x.cycle (echoesOf x a b) s ++
        (s.recs.filingNotices s.tb.cycle
            (launchRecord .sporadicSent w x s.cfg.nodeId (echoesOf x a b) (ticketDetail e.ticket)) ++
          sentNotices w e (removeTicket e.ticket s).spor.entries s.tb.cycle))
      (completed w x e (echoesOf x a b) (launchOver x w (echoesOf x a b) s)) (endSporadic x a b s) := by
  have h := gradeLaunch_posts (x := x) .sporadic (echoesOf x a b) hw fun l => by rw [Window.afterLaunch, hrole]; rfl
  unfold endSporadic
  simp only [hw, he, echoOutcomes_eq] at h ⊢
  exact (completeSporadic_does w x e (echoesOf x a b)).after h

end

/-- Settles O53, kind by kind: the launch's end is `endBeacon`, `endSend` or `endSporadic` at its offset. -/
theorem launchesEnd : Obligations.LaunchesEnd := by
  intro a b x s hx hr _ hi ten
  refine ⟨fun hk hw => ?_, fun w u hk hw hrole => ?_, fun w u e before after hk hw hrole he hon hoff hn => ?_⟩
  · have hc : exec (.beaconLaunchEnd a b) s = finish (endBeacon x a b (passTo x.ends s)) := by
      change execBeaconLaunchEnd a b s = _
      rw [execBeaconLaunchEnd, launchEnd_eq _ hx hk hr]
    rw [hk]
    exact effect_of_posts hc (endBeacon_posts hw) hi rfl ten
  · have hc : exec (.sendLaunchEnd a b) s = finish (endSend x a b (passTo x.ends s)) := by
      change execSendLaunchEnd a b s = _
      rw [execSendLaunchEnd, launchEnd_eq _ hx hk hr]
    have hp := endSend_posts (x := x) (a := a) (b := b) (s := passTo x.ends s) hw hrole
    have hafter : w.afterLaunch = { w with role := .send u .ended } := by rw [Window.afterLaunch, hrole]; rfl
    rw [hk]
    cases hlog : w.entry.log with
    | true =>
      simp only [hlog, if_true, launchOver, hafter] at hp
      exact effect_of_posts hc hp hi rfl ten
    | false =>
      simp only [hlog, if_false, Bool.false_eq_true, launchOver, hafter] at hp
      exact effect_of_posts hc hp hi rfl ten
  · have hc : exec (.sporadicLaunchEnd a b) s = finish (endSporadic x a b (passTo x.ends s)) := by
      change execSporadicLaunchEnd a b s = _
      rw [execSporadicLaunchEnd, launchEnd_eq _ hx hk hr]
    have hfind := find_onAir he hon fun y hy => hoff y (List.mem_append_left _ hy)
    have hp := endSporadic_posts (x := x) (a := a) (b := b) (s := passTo x.ends s) hw hrole hfind
    have hafter : w.afterLaunch = { w with role := .openSlot u .ended } := by rw [Window.afterLaunch, hrole]; rfl
    have hleft := filter_ticket_of_nodup he hn
    have hremove (y : State) (hy : y.spor = s.spor) :
        removeTicket e.ticket y = { y with spor := { s.spor with entries := before ++ after } } := by
      rw [removeTicket, hy, hleft]
    unfold completed at hp
    rw [hremove (launchOver x w (echoesOf x a b) (passTo x.ends s)) rfl, hremove (passTo x.ends s) rfl, launchOver, hafter] at hp
    rw [sentNotices, ← List.append_assoc, ← List.append_assoc] at hp
    rw [hk]
    exact effect_of_posts hc hp hi rfl ten

end Sys2Proof.Machine
end

section
/-! The end of an EXPECT window (R12 to R14, R61, R87 to R91, R128): what its steps raise, and how a lane is judged. -/
namespace Sys2Proof.Machine

/-! ### Grading both lanes of a window that is closed -/

theorem graded_idle {l : Lane} {s : State} (o : Outcome) (proved : Bool) (hl : s.launch = none)
    (hw : ∀ w ∈ s.sched.window, w.role.without l = w.role) :
    graded l o proved s = setUnit l ((s.lanes.get l).after s.cfg.debitLimit o proved) s := by
  rw [graded, laneLeaves_idle hl hw, ite_self]

/-- Both lanes have been graded by their outcomes. -/
def gradedBoth (v : PerLane LaneView) (s : State) : State :=
  { s with lanes := ⟨s.lanes.a.after s.cfg.debitLimit v.a.outcome v.b.provesMessage,
    s.lanes.b.after s.cfg.debitLimit v.b.outcome v.a.provesMessage⟩ }

theorem gradeWindow_posts (w : Window) (v : PerLane LaneView) {s : State} (hl : s.launch = none)
    (hw : s.sched.window = none) :
    Posts [] (s.lanes.a.outcomeNotices .A s.cfg.debitLimit v.a.outcome v.b.provesMessage (some w.position) s.tb.cycle w.cycle ++
        s.lanes.b.outcomeNotices .B s.cfg.debitLimit v.b.outcome v.a.provesMessage (some w.position) s.tb.cycle w.cycle)
      (gradedBoth v s) (gradeWindow w v s) := by
  have hno (l : Lane) : ∀ x ∈ s.sched.window, x.role.without l = x.role := fun x hx => by simp [hw] at hx
  have h := ((gradeOutcome_does .B v.b.outcome v.a.provesMessage (some w.position) w.cycle).comp
    (gradeOutcome_does .A v.a.outcome v.b.provesMessage (some w.position) w.cycle)).posts s
  have ha := graded_idle v.a.outcome v.b.provesMessage hl (hno .A)
  have hb := graded_idle (s := setUnit .A (s.lanes.a.after s.cfg.debitLimit v.a.outcome v.b.provesMessage) s)
    v.b.outcome v.a.provesMessage hl (hno .B)
  have hs : (graded .B v.b.outcome v.a.provesMessage ∘ graded .A v.a.outcome v.b.provesMessage) s = gradedBoth v s := by
    rw [Function.comp_apply, ha]
    exact hb
  rw [hs, ha] at h
  exact h

/-! ### What follows from the combined outcome -/

/-- The detail of the window's own events (R107). -/
def Window.detail (w : Window) (last : Byte) : Detail := ⟨byte w.position, byte w.entry.slot, cycleByte w.cycle, last⟩

theorem reportDisagree_does (w : Window) (c : Combined) :
    Does (reportDisagree w c) id (fun _ => []) (fun s => if c.kind = .received ∧ c.disagree = true then
      [⟨.disagree, s.tb.cycle, w.detail (if c.good = LaneSet.both then 1 else 2)⟩] else []) where
  posts s := by
    unfold reportDisagree
    split
    · exact (raise_does _ _).posts s
    · exact .refl s
  blind _ _ _ _ := rfl
  respBlind _ _ _ _ := rfl
  saidBlind _ _ _ _ := rfl

theorem reportAlarm_does (w : Window) (c : Combined) (v : PerLane LaneView) :
    Does (reportAlarm w c v) id (fun _ => []) (fun s =>
      (if w.entry.alarm = true ∧ c.kind = .missing then [⟨.missing, s.tb.cycle, w.detail w.listening.code⟩] else []) ++
        (if w.entry.alarm = true ∧ c.kind = .faulty then [⟨.faulty, s.tb.cycle, w.detail (errorSet v)⟩] else [])) where
  posts s := by
    unfold reportAlarm
    cases w.entry.alarm with
    | false => simpa using Posts.refl s
    | true =>
      cases c.kind with
      | missing => simpa [Window.detail] using (raise_does .missing (w.detail w.listening.code)).posts s
      | faulty => simpa [Window.detail] using (raise_does .faulty (w.detail (errorSet v))).posts s
      | received | nullHeard => simpa using Posts.refl s
  blind _ _ _ _ := rfl
  respBlind _ _ _ _ := rfl
  saidBlind _ _ _ _ := rfl

/-- The buffer of the window's entry after the combined outcome (R76, R77). -/
def Buffer.afterWindow (w : Window) (c : Combined) (f : Facts) (b : Buffer) : Buffer :=
  match c.kind with
  | .received => b.store (receptionOf w c f)
  | .nullHeard => b.heardNull w.cycle
  | .missing | .faulty => b

/-- The pool after the combined outcome. -/
def poolAfter (w : Window) (c : Combined) (f : Facts) (n : Nat) (s : State) : List Buffer :=
  match c.kind with
  | .received | .nullHeard => s.bufs.set n ((bufferAt s n).afterWindow w c f)
  | .missing | .faulty => s.bufs

/-- The buffer pool has applied the combined outcome to buffer n. -/
def appliedTo (w : Window) (c : Combined) (f : Facts) (n : Nat) (s : State) : State := { s with bufs := poolAfter w c f n s }

theorem applyToBuffer_posts {w : Window} {n : Nat} (c : Combined) (f : Facts) (s : State) (hn : w.entry.buffer = some n) :
    Posts [] (if c.kind = .received ∧ (bufferAt s n).isNew = true then
        [⟨.receiveOverrun, s.tb.cycle, ⟨byte n, byte w.position, byte w.entry.slot, cycleByte w.cycle⟩⟩] else [])
      (appliedTo w c f n s) (applyToBuffer w c f s) := by
  unfold applyToBuffer appliedTo poolAfter Buffer.afterWindow
  rw [hn]
  cases c.kind with
  | received =>
    have stored (y : State) (hy : y.bufs = s.bufs) :
        setBuffer n ((bufferAt y n).store (receptionOf w c f)) y =
          { y with bufs := s.bufs.set n ((bufferAt s n).store (receptionOf w c f)) } := by
      simp [setBuffer, bufferAt, hy]
    by_cases hnew : (bufferAt s n).isNew = true
    · have h := (raise_does .receiveOverrun ⟨byte n, byte w.position, byte w.entry.slot, cycleByte w.cycle⟩).posts s
      simp only [hnew, if_true, and_self]
      rw [stored _ h.bufs_eq]
      exact h.map (f := fun y => { y with bufs := s.bufs.set n ((bufferAt s n).store (receptionOf w c f)) })
        fun _ _ _ _ => rfl
    · simp only [hnew, if_false, and_false, Bool.false_eq_true]
      rw [stored s rfl]
      exact .refl _
  | nullHeard => simpa [setBuffer] using Posts.refl _
  | missing | faulty => simpa using Posts.refl s

theorem applyToBuffer_does {w : Window} {n : Nat} (c : Combined) (f : Facts) (hn : w.entry.buffer = some n) :
    Does (applyToBuffer w c f) (appliedTo w c f n) (fun _ => [])
      (fun s => if c.kind = .received ∧ (bufferAt s n).isNew = true then
        [⟨.receiveOverrun, s.tb.cycle, ⟨byte n, byte w.position, byte w.entry.slot, cycleByte w.cycle⟩⟩] else []) :=
  ⟨fun s => applyToBuffer_posts c f s hn, fun _ _ _ _ => rfl, fun _ _ _ _ => rfl, fun _ _ _ _ => rfl⟩

/-- A record is filed when the window is logged. -/
theorem logRecord_does (logged : Bool) (r : Record) :
    Does (fun s => if logged then fileRecord r s else s) (fun s => { s with recs := if logged then s.recs.filed r else s.recs })
      (fun _ => []) (fun s => if logged then s.recs.filingNotices s.tb.cycle r else []) := by
  cases logged with
  | true => exact fileRecord_does r
  | false => exact .plain fun _ _ _ _ => rfl

/-! ### The record (R128) -/

/-- No facts. -/
def Facts.absent : Facts := ⟨none, none, none, []⟩

/-- The facts that the window's record shows: those of the source lane, or of the reporting lane of a FAULTY one. -/
def windowFacts (first : Lane) (c : Combined) (v : PerLane LaneView) : Facts :=
  match c.kind, c.source with
  | .received, some l | .nullHeard, some l => (v.get l).facts
  | .faulty, _ => reportedFacts first v
  | _, _ => Facts.absent

/-- A RECEIVED or NULL_HEARD outcome has a source lane (R87). -/
theorem combine_source (first : Lane) (v : PerLane LaneView)
    (h : (combine first v).kind = .received ∨ (combine first v).kind = .nullHeard) : (combine first v).source.isSome = true := by
  revert h
  unfold combine
  simp only
  repeat' split
  all_goals simp

theorem sourceFacts_eq {first : Lane} {c : Combined} {v : PerLane LaneView}
    (hs : c.kind = .received ∨ c.kind = .nullHeard → c.source.isSome = true) (hk : c.kind = .received ∨ c.kind = .nullHeard) :
    sourceFacts c v = windowFacts first c v := by
  obtain ⟨l, hl⟩ := Option.isSome_iff_exists.1 (hs hk)
  rcases hk with hk | hk <;> simp [sourceFacts, windowFacts, hk, hl]

/-- The record of an EXPECT window by its combined outcome, in the terms of R128. -/
theorem expectRecord_eq (first : Lane) (w : Window) (c : Combined) (v : PerLane LaneView) (probation : Bool)
    (hs : c.kind = .received ∨ c.kind = .nullHeard → c.source.isSome = true) :
    expectRecord first w c v probation =
      { kind := match c.kind with
          | .received => .received
          | .nullHeard => .nullHeard
          | .missing => .missing
          | .faulty => .faulty
        number := 0, cycle := w.cycle, slot := w.entry.slot, position := some w.position
        outcomes := ⟨v.a.outcome, v.b.outcome⟩
        sender := (windowFacts first c v).header.map fun h => headerSender h.1
        words := (windowFacts first c v).header.map fun h => headerLength h.1
        arrival := (windowFacts first c v).arrival, endOffset := (windowFacts first c v).endOffset
        detail := match c.kind with
          | .received | .nullHeard =>
            ((headerSequence ((windowFacts first c v).header.getD (0, 0)).2).setWidth 8, 0)
          | .missing => (0, 0)
          | .faulty => (errorSet v, 0)
        disagree := decide (c.kind = .received) && c.disagree, probation := probation } := by
  unfold expectRecord
  cases hk : c.kind with
  | received => simp [sourceFacts_eq hs (.inl hk) (first := first), Record.withFacts, plainRecord]
  | nullHeard => simp [sourceFacts_eq hs (.inr hk) (first := first), Record.withFacts, plainRecord]
  | missing => simp [hk, plainRecord, windowFacts, Facts.absent]
  | faulty => simp [hk, plainRecord, Record.withFacts, windowFacts]

theorem probationMark_eq (s : State) (w : Window) :
    probationMark s w = ((w.delivering.a && s.lanes.a.state == .probation) || (w.delivering.b && s.lanes.b.state == .probation)) := by
  simp [probationMark, LaneSet.isEmpty, LaneSet.inter, probationLanes, LaneSet.filter, PerLane.get]

/-! ### The window's end -/

/-- What each lane brings to the window's end. -/
def viewsOf (s : State) (w : Window) (a b : List Heard) : PerLane LaneView := ⟨laneView s w .A a, laneView s w .B b⟩

/-- Everything an EXPECT window's end changes. -/
def expectOver (w : Window) (n : Nat) (a b : List Heard) (s : State) : State :=
  let v := viewsOf s w a b
  let c := combine s.cfg.preferredLane v
  let r := expectRecord s.cfg.preferredLane w c v (probationMark s w)
  let t := appliedTo w c (sourceFacts c v) n (gradedBoth v (closeHeard w a b s))
  { t with recs := if w.entry.log then t.recs.filed r else t.recs }

/-- Everything an EXPECT window's end raises. -/
def expectNotices (w : Window) (n : Nat) (a b : List Heard) (s : State) : List Notice :=
  let v := viewsOf s w a b
  let c := combine s.cfg.preferredLane v
  let r := expectRecord s.cfg.preferredLane w c v (probationMark s w)
  s.lanes.a.outcomeNotices .A s.cfg.debitLimit v.a.outcome v.b.provesMessage (some w.position) s.tb.cycle w.cycle ++
    s.lanes.b.outcomeNotices .B s.cfg.debitLimit v.b.outcome v.a.provesMessage (some w.position) s.tb.cycle w.cycle ++
    (if c.kind = .received ∧ c.disagree = true then
      [⟨.disagree, s.tb.cycle, w.detail (if c.good = LaneSet.both then 1 else 2)⟩] else []) ++
    (if c.kind = .received ∧ (bufferAt s n).isNew = true then
      [⟨.receiveOverrun, s.tb.cycle, ⟨byte n, byte w.position, byte w.entry.slot, cycleByte w.cycle⟩⟩] else []) ++
    (if w.entry.log then s.recs.filingNotices s.tb.cycle r else []) ++
    ((if w.entry.alarm = true ∧ c.kind = .missing then [⟨.missing, s.tb.cycle, w.detail w.listening.code⟩] else []) ++
      (if w.entry.alarm = true ∧ c.kind = .faulty then [⟨.faulty, s.tb.cycle, w.detail (errorSet v)⟩] else []))

theorem endExpect_posts {w : Window} {n : Nat} (a b : List Heard) {s : State} (hl : s.launch = none)
    (hn : w.entry.buffer = some n) :
    Posts [] (expectNotices w n a b s) (expectOver w n a b s) (endExpect w a b s) := by
  let v := viewsOf s w a b
  let c := combine s.cfg.preferredLane v
  let r := expectRecord s.cfg.preferredLane w c v (probationMark s w)
  have h := gradeWindow_posts w v (s := closeHeard w a b s) hl rfl
  have h := (reportDisagree_does w c).after h
  have h := (applyToBuffer_does c (sourceFacts c v) hn).after h
  have h := (logRecord_does w.entry.log r).after h
  exact (reportAlarm_does w c v).after h

/-! ### The judgement of a lane (R12 to R14) -/

/-- A carrier without a start delimiter recognised before the window end m. -/
def Heard.silent (m : Nat) (h : Heard) : Prop :=
  ∀ start arrival x, h = .message start arrival x → m ≤ arrival + 2 ∨ ∃ k, x.age = some k ∧ k < 2

theorem recognised_iff (x : Message) : x.recognised = true ↔ ∀ k, x.age = some k → 2 ≤ k := by
  unfold Message.recognised Config.delimiterTime
  cases x.age <;> simp

theorem judged_silent {m : Nat} {hs : List Heard} (h : ∀ x ∈ hs, Heard.silent m x) : judged m hs = none := by
  induction hs with
  | nil => rfl
  | cons x hs ih =>
    have ih := ih fun y hy => h y (List.mem_cons_of_mem _ hy)
    cases x with
    | noise start lost => exact ih
    | message start arrival body =>
      have hx := h _ List.mem_cons_self start arrival body rfl
      rw [judged, if_neg ?_, ih]
      simp only [Bool.and_eq_true, recognised_iff, decide_eq_true_eq, not_and]
      have hd : Config.delimiterTime = 2 := rfl
      rintro hrec hlt
      rcases hx with hx | ⟨k, hk, hk2⟩
      · omega
      · have := hrec k hk; omega

/-- The judged message is the first with a start delimiter recognised in the window. -/
theorem judged_first {m start arrival : Nat} {x : Message} {before after : List Heard}
    (h : ∀ y ∈ before, Heard.silent m y) (hlt : arrival + 2 < m) (hrec : ∀ k, x.age = some k → 2 ≤ k) :
    judged m (before ++ .message start arrival x :: after) = some ⟨arrival, x.upTo (m - arrival)⟩ := by
  induction before with
  | nil =>
    rw [List.nil_append, judged, if_pos ?_]
    rw [Bool.and_eq_true, recognised_iff, decide_eq_true_eq]
    exact ⟨hrec, hlt⟩
  | cons y ys ih =>
    have ih := ih fun z hz => h z (List.mem_cons_of_mem _ hz)
    cases y with
    | noise s' lost => exact ih
    | message s' arrival' body =>
      have hy := h _ List.mem_cons_self s' arrival' body rfl
      rw [List.cons_append, judged, if_neg ?_, ih]
      simp only [Bool.and_eq_true, recognised_iff, decide_eq_true_eq, not_and]
      have hd : Config.delimiterTime = 2 := rfl
      rintro hrec' hlt'
      rcases hy with hy | ⟨k, hk, hk2⟩
      · omega
      · have := hrec' k hk; omega

/-! #### A message as it stood after a time -/

theorem upTo_ending (x : Message) (k : Nat) :
    (x.upTo k).ending = if ∃ a, x.age = some a ∧ a ≤ k then x.ending else .inProgress := by
  unfold Message.upTo
  refine if_congr ?_ rfl rfl
  simp [Option.any_eq_true]

/-- The first words of a list that reaches over them are the list's own. -/
theorem header_take (ws : List Word) (e f : Ending) {j : Nat} (h : 2 ≤ j) :
    Message.header ⟨ws.take j, e⟩ = Message.header ⟨ws, f⟩ := by
  obtain ⟨i, rfl⟩ : ∃ i, j = i + 2 := ⟨j - 2, by omega⟩
  rcases ws with _ | ⟨a, _ | ⟨b, ws⟩⟩ <;> rfl

theorem length_take (ws : List Word) (e f : Ending) {j : Nat} (h : 1 ≤ j) :
    Message.length ⟨ws.take j, e⟩ = Message.length ⟨ws, f⟩ := by
  obtain ⟨i, rfl⟩ : ∃ i, j = i + 1 := ⟨j - 1, by omega⟩
  rcases ws with _ | ⟨a, ws⟩ <;> rfl

/-- A message that has ended with its delimiter by then has all its words by then. -/
theorem upTo_whole {x : Message} {k : Nat} (he : x.ending = .delimiter) (hk : x.airAfter ≤ k) :
    (x.upTo k).ending = .delimiter ∧ (x.upTo k).length = x.length ∧ (x.upTo k).header = x.header ∧
      (x.upTo k).payload = x.payload ∧ (x.upTo k).checkRight = x.checkRight := by
  have hj : 3 + x.length ≤ (k - 2) / 4 := by unfold Message.airAfter at hk; omega
  have hend : (x.upTo k).ending = .delimiter := by
    rw [upTo_ending, if_pos ⟨x.airAfter, by simp [Message.age, he], hk⟩, he]
  have hlen : (x.upTo k).length = x.length := length_take _ _ _ (by omega)
  have hhead : (x.upTo k).header = x.header := header_take _ _ _ (by omega)
  have hpay : (x.upTo k).payload = x.payload := by
    unfold Message.payload
    rw [hlen, Message.upTo, List.drop_take, List.take_take, min_eq_left (by omega)]
  have hcheck : (x.upTo k).checkWord = x.checkWord := by
    unfold Message.checkWord
    rw [hlen, Message.upTo, List.getElem?_take_of_lt (by omega)]
  refine ⟨hend, hlen, hhead, hpay, ?_⟩
  unfold Message.checkRight
  rw [hhead, hcheck, hpay]

/-! #### The tests of R13 -/

theorem formatFails_iff {e : Entry} {k : Nat} (hk : e.maxWords = some k) (cycle : BitVec 6) (h1 h2 : Word) :
    formatFails e cycle h1 h2 = true ↔
      headerKind h1 = 1 ∨ headerKind h1 = 0 ∨ headerSpare h1 ≠ 0 ∨ headerSender h1 = 0 ∨ headerSlot h2 ≠ e.slot ∨
        k < headerLength h1 ∨ (headerKind h1 = 3 ∧ headerLength h1 ≠ 0) ∨ headerCycle h2 ≠ cycle := by
  unfold formatFails
  simp only [hk, Option.getD_some, Bool.or_eq_true, Bool.and_eq_true, decide_eq_true_eq, or_assoc]
  exact .rfl

theorem senderFails_iff (e : Entry) (h1 : Word) :
    senderFails e h1 = true ↔ ∃ i, e.sender = some (.node i) ∧ headerSender h1 ≠ i := by
  unfold senderFails
  split
  next n hn => simp [hn]
  next hn =>
    simp only [Bool.false_eq_true, false_iff, not_exists, not_and]
    exact fun i hi => absurd hi (hn i)

/-- The judged message fails test 2 (R13): it arrived out of range, or had not ended. -/
def Judged.late (e : Entry) (tol : Nat) (j : Judged) : Bool :=
  !arrivalInRange e tol j.arrival || j.body.ending == .inProgress

section
variable {e : Entry} {tol : Nat} {cycle : BitVec 6} {j : Judged}

theorem judge_late (h : j.late e tol = true) : judge e tol cycle (some j) = .timing := by
  simp only [judge]
  exact if_pos h

theorem judge_check (h : j.late e tol = false) (hw : j.body.ending ≠ .delimiter ∨ j.body.checkRight = false) :
    judge e tol cycle (some j) = .check := by
  have hcut : (Ending.isCut j.body.ending || !j.body.checkRight) = true := by
    rcases hw with hw | hw
    · have hend : j.body.ending ≠ .inProgress := by
        intro hi
        simp [Judged.late, hi] at h
      cases hx : j.body.ending <;> simp_all [Ending.isCut]
    · simp [hw]
  simp only [judge]
  rw [if_neg (by simpa [Judged.late] using h), if_pos hcut]

/-- The outcome of a message that came in time with its check right, by the tests on its header. -/
theorem judge_header {h1 h2 : Word} (h : j.late e tol = false) (he : j.body.ending = .delimiter)
    (hc : j.body.checkRight = true) (hh : j.body.header = some (h1, h2)) :
    judge e tol cycle (some j) =
      if formatFails e cycle h1 h2 then .format
      else if senderFails e h1 then .sender
      else if headerKind h1 = kindNull then .null else .good := by
  simp only [judge]
  rw [if_neg (by simpa [Judged.late] using h), if_neg (by simp [he, hc, Ending.isCut])]
  simp only [hh]

end

/-- The judged message of a window that ends at offset m: the message x that arrived at this offset, as it stood at m. -/
def judgedAt (m arrival : Nat) (x : Message) : Judged := ⟨arrival, x.upTo (m - arrival)⟩

section
variable {e : Entry} {tol m arrival : Nat} {x : Message}

theorem inProgress_iff (h : arrival < m) : (x.upTo (m - arrival)).ending = .inProgress ↔ ∀ k, x.age = some k → m < arrival + k := by
  rw [upTo_ending]
  constructor
  · intro hi k hk
    by_contra hle
    rw [if_pos ⟨k, hk, by omega⟩] at hi
    simp [Message.age, hi] at hk
  · intro hi
    rw [if_neg]
    rintro ⟨k, hk, hle⟩
    have := hi k hk
    omega

theorem late_iff (h : arrival < m) : (judgedAt m arrival x).late e tol = true ↔
    arrival + tol < e.start + 4 ∨ e.start + 4 + tol < arrival ∨ ∀ k, x.age = some k → m < arrival + k := by
  rw [← inProgress_iff h]
  change (!(decide (e.start + 4 ≤ arrival + tol) && decide (arrival ≤ e.start + 4 + tol)) ||
    (x.upTo (m - arrival)).ending == .inProgress) = true ↔ _
  simp only [Bool.or_eq_true, Bool.not_eq_true', Bool.and_eq_false_iff, decide_eq_false_iff_not, not_le, beq_iff_eq, or_assoc]

/-- The end offset is that of the message's end delimiter, if it came by then (R11, R14). -/
theorem endOffset_judgedAt (h : arrival < m) : (judgedAt m arrival x).endOffset =
    if x.ending = .delimiter ∧ arrival + 16 + 4 * x.length ≤ m then some (arrival + 16 + 4 * x.length) else none := by
  unfold Judged.endOffset judgedAt
  split
  next hd =>
    have hx : x.ending = .delimiter := by
      rw [upTo_ending] at hd
      split at hd
      · exact hd
      · cases hd
    have hle : x.airAfter ≤ m - arrival := by
      by_contra hgt
      have := (inProgress_iff (x := x) h).2 fun k hk => by
        have : k = x.airAfter := by simpa [Message.age, hx] using hk.symm
        omega
      rw [hd] at this
      cases this
    have hlen := (upTo_whole hx hle).2.1
    unfold Message.airAfter at hle ⊢
    rw [if_pos ⟨hx, by omega⟩, hlen, ← Nat.add_assoc]
  next hd =>
    rw [if_neg]
    rintro ⟨hx, hle⟩
    exact hd (upTo_whole hx (by unfold Message.airAfter; omega)).1

/-- A message in time with its delimiter stands whole at the window end. -/
theorem whole_of_not_late (h : arrival < m) (hl : (judgedAt m arrival x).late e tol = false) (he : x.ending = .delimiter) :
    x.airAfter ≤ m - arrival := by
  have hnot : ¬∀ k, x.age = some k → m < arrival + k := fun hk => by
    rw [(late_iff h).2 (.inr (.inr hk))] at hl
    cases hl
  have hage : x.age = some x.airAfter := by simp [Message.age, he]
  by_contra hgt
  exact hnot fun k hk => by rw [hage] at hk; cases hk; omega

/-- In time, a message is wrong at the window end exactly when it is wrong. -/
theorem wrong_of_not_late (h : arrival < m) (hl : (judgedAt m arrival x).late e tol = false)
    (hw : x.ending ≠ .delimiter ∨ x.checkRight = false) :
    (judgedAt m arrival x).body.ending ≠ .delimiter ∨ (judgedAt m arrival x).body.checkRight = false := by
  by_cases he : x.ending = .delimiter
  · have hc := hw.resolve_left (not_not.2 he)
    exact .inr ((upTo_whole he (whole_of_not_late h hl he)).2.2.2.2.trans hc)
  · refine .inl fun hd => ?_
    change (x.upTo (m - arrival)).ending = .delimiter at hd
    rw [upTo_ending] at hd
    split at hd
    · exact he hd
    · cases hd

end

/-! ### The two parts of O51 -/

section
variable {s : State} {w : Window} {l : Lane} {heard : List Heard}

theorem laneView_not_delivering (h : w.delivering.has l = false) :
    laneView s w l heard = ⟨false, .notUsed, Facts.absent⟩ := by
  rw [laneView, if_neg (by simp [h])]
  rfl

theorem laneView_delivering (h : w.delivering.has l = true) {j : Option Judged}
    (hj : judged w.ends (heard.filter (startedIn s w (s.rx.get l))) = j) :
    laneView s w l heard = ⟨(s.lanes.get l).state == .active, judge w.entry s.cfg.tol w.cycle j,
      factsOf (judge w.entry s.cfg.tol w.cycle j) j⟩ := by
  rw [laneView, if_pos h, hj]

end

/-- The first part of O51: what an EXPECT window's end changes and raises. -/
theorem expectWindowEnd_effect {a b : List Heard} {w : Window} {n : Nat} {s : State} (hw : s.sched.window = some w)
    (he : w.role.isExpect = true) (hr : reaches s w.ends = true) (hi : s.link.intake = []) (ten : TenGroups s)
    (hl : s.launch = none) (hn : w.entry.buffer = some n) :
    ∃ t, exec (.expectWindowEnd a b) s = .next t ∧ Effect (expectOver w n a b (passTo w.ends s)) t ∧
      Raised (expectNotices w n a b (passTo w.ends s)) s t := by
  have hc : exec (.expectWindowEnd a b) s = finish (endExpect w a b (passTo w.ends s)) := by
    change execExpectWindowEnd a b s = _
    simp [execExpectWindowEnd, closeExpect, hw, he, hr]
  obtain ⟨t, ht, hraised, heff⟩ :=
    effect_of_posts hc (endExpect_posts a b (s := passTo w.ends s) hl hn) hi rfl ten
  exact ⟨t, ht, heff, hraised⟩

theorem reportedFacts_eq (first : Lane) (v : PerLane LaneView) : reportedFacts first v =
    if (v.get first).considered && (v.get first).facts.arrival.isSome then (v.get first).facts
    else if (v.get first.other).considered && (v.get first.other).facts.arrival.isSome then (v.get first.other).facts
    else Facts.absent := by
  by_cases ha : ((v.get first).considered && (v.get first).facts.arrival.isSome) = true
  · simp only [reportedFacts, reportingLane, ha, if_true]
  · by_cases hb : ((v.get first.other).considered && (v.get first.other).facts.arrival.isSome) = true
    · simp only [reportedFacts, reportingLane, ha, hb, if_true, if_false, Bool.false_eq_true]
    · simp only [reportedFacts, reportingLane, ha, hb, if_false, Bool.false_eq_true, Facts.absent]

/-- The facts of the window's record, as O51 writes them. -/
theorem windowFacts_eq (first : Lane) (c : Combined) (v : PerLane LaneView) :
    (match c.kind, c.source with
      | .received, some l | .nullHeard, some l => (v.get l).facts
      | .faulty, _ =>
        if (v.get first).considered && (v.get first).facts.arrival.isSome then (v.get first).facts
        else if (v.get first.other).considered && (v.get first.other).facts.arrival.isSome then (v.get first.other).facts
        else ⟨none, none, none, []⟩
      | _, _ => ⟨none, none, none, []⟩ : Facts) = windowFacts first c v := by
  unfold windowFacts
  rw [reportedFacts_eq]
  split <;> rfl

theorem isNew_receive {b : Buffer} {r : RxStatus} (h : b.status = .receive r) : b.isNew = true ↔ r.state = .new := by
  simp [Buffer.isNew, h]

theorem poolAfter_faulty {w : Window} {c : Combined} {f : Facts} {n : Nat} {s : State}
    (h : c.kind = .missing ∨ c.kind = .faulty) : poolAfter w c f n s = s.bufs := by
  rcases h with h | h <;> simp [poolAfter, h]

theorem poolAfter_null {w : Window} {c : Combined} {f : Facts} {n : Nat} {r : RxStatus} {s : State}
    (hb : (bufferAt s n).status = .receive r) (h : c.kind = .nullHeard) :
    poolAfter w c f n s = s.bufs.set n ⟨(bufferAt s n).words, .receive
      { r with nullSeen := true, lastHeard := some w.cycle }⟩ := by
  simp [poolAfter, Buffer.afterWindow, h, Buffer.heardNull, hb]

theorem poolAfter_received {w : Window} {c : Combined} {f : Facts} {n : Nat} {r : RxStatus} {h1 h2 : Word} {s : State}
    (hb : (bufferAt s n).status = .receive r) (hf : f.header = some (h1, h2)) (h : c.kind = .received) :
    poolAfter w c f n s = s.bufs.set n ⟨f.payload, .receive
        { state := .new, sender := some (headerSender h1), lanes := c.good, disagree := c.disagree
          arrival := f.arrival, lastData := some w.cycle, lastHeard := some w.cycle, nullSeen := false
          sequence := headerSequence h2, age := 0 }⟩ := by
  simp [poolAfter, Buffer.afterWindow, h, Buffer.store, hb, receptionOf, hf]

/-- A message's view: the outcome's facts, with the end offset spelled out. -/
theorem laneView_first {s : State} {w : Window} {l : Lane} {heard before after : List Heard} {start arrival : Nat}
    {x : Message} (h : w.delivering.has l = true)
    (hs : heard.filter (startedIn s w (s.rx.get l)) = before ++ .message start arrival x :: after)
    (hb : ∀ y ∈ before, Heard.silent w.ends y) (hlt : arrival + 2 < w.ends) (hrec : ∀ k, x.age = some k → 2 ≤ k) :
    laneView s w l heard = ⟨(s.lanes.get l).state == .active,
      judge w.entry s.cfg.tol w.cycle (some (judgedAt w.ends arrival x)),
      factsOf (judge w.entry s.cfg.tol w.cycle (some (judgedAt w.ends arrival x))) (some (judgedAt w.ends arrival x))⟩ :=
  laneView_delivering h (by rw [hs, judged_first hb hlt hrec]; rfl)

/-- Settles O51: the window's end in its order for the first part, the judgement test by test for the second. -/
theorem expectWindowCloses : Obligations.ExpectWindowCloses := by
  refine ⟨fun a b w n r s hw he hr _ hi ten hl hn _ hb => ?_, fun l heard w s => ?_⟩
  · intro p va vb c _ _ view first reports f sequence errors x named
    obtain ⟨t, ht, heff, hraised⟩ := expectWindowEnd_effect (a := a) (b := b) hw he hr hi ten hl hn
    have hbufs : t.bufs = poolAfter w c (sourceFacts c ⟨va, vb⟩) n p := by rw [heff.1]; rfl
    have hsource : c.kind = .received ∨ c.kind = .nullHeard → c.source.isSome = true := combine_source first _
    have hf : f = windowFacts first c ⟨va, vb⟩ := windowFacts_eq first c _
    have hx : expectRecord first w c ⟨va, vb⟩ (probationMark p w) = x := by
      rw [expectRecord_eq first w c _ _ hsource, ← hf, probationMark_eq]
      rfl
    have hnew : (bufferAt p n).isNew = true ↔ r.state = .new := isNew_receive hb
    refine ⟨t, ht, ?_, ?_, fun hk => hbufs.trans (poolAfter_faulty hk), fun hk => hbufs.trans (poolAfter_null hb hk),
      fun h1 h2 hh hk => ?_⟩
    · rw [← hx, hbufs]
      exact heff
    · rw [← hx, List.append_assoc]
      simp only [← hnew]
      exact hraised
    · rw [hbufs, sourceFacts_eq hsource (.inl hk), ← hf]
      exact poolAfter_received hb hh hk
  · refine ⟨fun h => ?_, fun h => ⟨?_, fun hs => ?_, fun before start arrival m after hstarted hbefore hlt hrec => ?_⟩⟩
    · rw [laneView_not_delivering h]
      exact ⟨rfl, rfl⟩
    · rw [laneView_delivering h rfl]
    · rw [laneView_delivering h (judged_silent hs)]
      exact ⟨rfl, rfl⟩
    · have hlt' : arrival < w.ends := by omega
      rw [laneView_first h hstarted hbefore hlt hrec]
      intro x late wrong finished ended
      have hended : (judgedAt w.ends arrival m).endOffset = ended := endOffset_judgedAt hlt'
      refine ⟨fun hl => ?_, fun hl hwr => ?_, fun h1 h2 k hl hwr hh hk => ?_⟩
      · simp only [judge_late ((late_iff hlt').2 hl), factsOf, hended, true_and]
        rfl
      · have hl := Bool.eq_false_iff.2 (mt (late_iff hlt').1 hl)
        simp only [judge_check hl (wrong_of_not_late hlt' hl hwr), factsOf, hended, true_and]
        rfl
      · have hl := Bool.eq_false_iff.2 (mt (late_iff hlt').1 hl)
        simp only [wrong, not_or, not_not, Bool.not_eq_false] at hwr
        obtain ⟨hend, hcheck⟩ := hwr
        obtain ⟨hend', _, hhead, hpay, hcheck'⟩ := upTo_whole hend (whole_of_not_late hlt' hl hend)
        have hj := judge_header (cycle := w.cycle) (j := judgedAt w.ends arrival m) hl hend' (hcheck'.trans hcheck)
          (hhead.trans hh)
        rw [hj]
        intro misformed stranger
        have hm : formatFails w.entry w.cycle h1 h2 = true ↔ misformed := formatFails_iff hk _ _ _
        have hs : senderFails w.entry h1 = true ↔ stranger := senderFails_iff _ _
        refine ⟨fun h => if_pos (hm.2 h), fun h h' => ?_, fun h h' h3 => ?_, fun h h' h2 => ?_, ?_⟩
        · rw [if_neg (mt hm.1 h), if_pos (hs.2 h')]
        · rw [if_neg (mt hm.1 h), if_neg (mt hs.1 h')]
          exact if_pos h3
        · rw [if_neg (mt hm.1 h), if_neg (mt hs.1 h')]
          exact if_neg (by rw [h2]; decide)
        · have hfacts (o : Outcome) (ho : o = .format ∨ o = .sender ∨ o = .null ∨ o = .good) :
              factsOf o (some (judgedAt w.ends arrival m)) =
                ⟨some arrival, ended, some (h1, h2), if o = .good then m.payload else []⟩ := by
            have hhead' : (judgedAt w.ends arrival m).body.header = some (h1, h2) := hhead.trans hh
            have hpay' : (judgedAt w.ends arrival m).body.payload = m.payload := hpay
            rcases ho with rfl | rfl | rfl | rfl <;> simp only [factsOf, hended, hhead', hpay'] <;> rfl
          refine hfacts _ ?_
          split_ifs <;> simp

end Sys2Proof.Machine
end

section
/-! Messages heard in FREE mode (R15): their stamps and outcomes, and the beacon that a follower takes in window (R30, R32)
or out of it (R35). -/
namespace Sys2Proof.Machine

/-! ### The stamp of an arrival (R11, R30) -/

section
variable {s : State} {k : Nat}

/-- The cycle that had begun, and had not ended, k microseconds ago. -/
def ranAgo (s : State) (k : Nat) (c : PastCycle) : Bool := decide (c.began ≤ s.now - k) && decide (s.now - k < c.ended)

theorem ranAgo_iff (hk : k ≤ s.now) (c : PastCycle) : ranAgo s k c = true ↔ c.began + k ≤ s.now ∧ s.now < c.ended + k := by
  unfold ranAgo
  rw [Bool.and_eq_true, decide_eq_true_eq, decide_eq_true_eq]
  omega

theorem stampOf_this (hr : s.tb.sync.running = true) (hb : s.tb.began + k ≤ s.now) :
    stampOf s (s.now - k) = .thisCycle (s.tb.offset - k) := by
  have hk : s.now - (s.now - k) = k := by omega
  unfold stampOf
  rw [if_pos (by rw [hr, Bool.true_and, decide_eq_true_eq]; omega), hk]

theorem stampOf_past (hb : s.now < s.tb.began + k) (hk : k ≤ s.now) {c : PastCycle} (hc : s.tb.past.find? (ranAgo s k) = some c) :
    stampOf s (s.now - k) = .pastCycle (c.offset - (c.ended + k - s.now)) c.length := by
  have hdiff : c.ended - (s.now - k) = c.ended + k - s.now := by omega
  unfold stampOf
  rw [if_neg (by rw [Bool.and_eq_true, decide_eq_true_eq]; omega), ← hdiff]
  change (match s.tb.past.find? (ranAgo s k) with | some c => _ | none => _) = _
  rw [hc]

theorem stampOf_none (hb : s.now < s.tb.began + k) (hk : k ≤ s.now) (hc : s.tb.past.find? (ranAgo s k) = none) :
    stampOf s (s.now - k) = .noCycle := by
  unfold stampOf
  rw [if_neg (by rw [Bool.and_eq_true, decide_eq_true_eq]; omega)]
  change (match s.tb.past.find? (ranAgo s k) with | some c => _ | none => _) = _
  rw [hc]

/-- The first cycle of the past that ran then, spelled out. -/
theorem find_ranAgo_iff (hk : k ≤ s.now) (c : PastCycle) : s.tb.past.find? (ranAgo s k) = some c ↔
    ∃ before after, s.tb.past = before ++ c :: after ∧ c.began + k ≤ s.now ∧ s.now < c.ended + k ∧
      ∀ d ∈ before, s.now < d.began + k ∨ d.ended + k ≤ s.now := by
  have hno (d : PastCycle) : (!ranAgo s k d) = true ↔ s.now < d.began + k ∨ d.ended + k ≤ s.now := by
    rw [Bool.not_eq_true', Bool.eq_false_iff, ne_eq, ranAgo_iff hk]
    omega
  rw [List.find?_eq_some_iff_append, ranAgo_iff hk]
  simp only [hno]
  constructor
  · rintro ⟨⟨hb, he⟩, before, after, hp, hd⟩
    exact ⟨before, after, hp, hb, he, hd⟩
  · rintro ⟨before, after, hp, hb, he, hd⟩
    exact ⟨⟨hb, he⟩, before, after, hp, hd⟩

/-- The stamp tells the offset and the cycle's length of an arrival. -/
theorem arrivalIs_iff {a length : Nat} (hr : s.tb.sync.running = true) (hk : k ≤ s.now) : ArrivalIs s k a length ↔
    (stampOf s (s.now - k) = .thisCycle a ∧ length = s.tb.length) ∨ stampOf s (s.now - k) = .pastCycle a length := by
  rcases Nat.lt_or_ge s.now (s.tb.began + k) with hb | hb
  · constructor
    · rintro (⟨h, -⟩ | ⟨-, before, c, after, hp, hcb, hce, hd, rfl, rfl⟩)
      · omega
      · exact .inr (stampOf_past hb hk ((find_ranAgo_iff hk c).2 ⟨before, after, hp, hcb, hce, hd⟩))
    · intro h
      cases hc : s.tb.past.find? (ranAgo s k) with
      | none => simp [stampOf_none hb hk hc] at h
      | some c =>
        obtain ⟨before, after, hp, hcb, hce, hd⟩ := (find_ranAgo_iff hk c).1 hc
        simp only [stampOf_past hb hk hc, reduceCtorEq, false_and, false_or, Stamp.pastCycle.injEq] at h
        exact .inr ⟨hb, before, c, after, hp, hcb, hce, hd, h.1.symm, h.2.symm⟩
  · rw [stampOf_this hr hb]
    constructor
    · rintro (⟨-, rfl, rfl⟩ | ⟨h, -⟩)
      · exact .inl ⟨rfl, rfl⟩
      · omega
    · rintro (⟨h, rfl⟩ | h)
      · exact .inl ⟨hb, (Stamp.thisCycle.inj h).symm, rfl⟩
      · cases h

theorem phaseError_stampOf {e : Int} (hr : s.tb.sync.running = true) (hk : 16 ≤ s.now) (h : PhaseErrorIs s e) :
    phaseError s (stampOf s (s.now - 16)) = e := by
  obtain ⟨a, length, ha, rfl⟩ := h
  rcases (arrivalIs_iff hr hk).1 ha with ⟨hs, rfl⟩ | hs <;> rw [hs] <;> rfl

theorem watchedOffset_iff (p : Params) (a : Nat) : (decide (a < beaconWindow p) || decide (p.cycleLength ≤ a + 20)) = true ↔
    a < 20 + 2 * p.tol ∨ p.cycleLength ≤ a + 20 := by
  rw [Bool.or_eq_true, decide_eq_true_eq, decide_eq_true_eq]
  rfl

theorem arrivalIsWatched_iff (hk : k ≤ s.now) : arrivalIsWatched s (stampOf s (s.now - k)) = true ↔
    s.tb.sync.running = true ∧ ∃ a length, ArrivalIs s k a length ∧
      (a < 20 + 2 * s.cfg.tol ∨ s.cfg.cycleLength ≤ a + 20) := by
  by_cases hr : s.tb.sync.running = true
  · simp only [arrivalIs_iff hr hk, hr, true_and]
    cases hs : stampOf s (s.now - k) <;> simp [arrivalIsWatched, hr, watchedOffset_iff, -Bool.or_eq_true]
  · cases hs : stampOf s (s.now - k) <;> simp [arrivalIsWatched, hr]

end

/-! ### Headers and outcomes (R15) -/

theorem isBeacon_iff (m : Message) : isBeacon m = true ↔ (m.ending = .delimiter ∧ m.checkRight = true) ∧
    ∃ h1 h2, m.header = some (h1, h2) ∧ freeIsBeacon h1 h2 = true := by
  simp [isBeacon, freeCheckRight, Option.any_eq_true]

theorem freeCheckRight_iff (m : Message) : freeCheckRight m = true ↔ m.ending = .delimiter ∧ m.checkRight = true := by
  simp [freeCheckRight]

theorem freeIsBeacon_iff (h1 h2 : Word) : freeIsBeacon h1 h2 = true ↔ headerKind h1 = 1 ∧ headerLength h1 = 0 ∧
    headerSlot h2 = 0 ∧ headerSpare h1 = 0 ∧ 1 ≤ headerSender h1 ∧ headerSender h1 ≤ 63 := by
  have hs : headerSender h1 ≤ 63 := by unfold headerSender; omega
  unfold freeIsBeacon
  simp only [Bool.and_eq_true, decide_eq_true_eq, and_assoc, hs, and_true]
  exact and_congr .rfl (and_congr .rfl (and_congr .rfl (and_congr .rfl (by omega))))

section
variable {s : State} {stamp : Stamp} {m : Message} {h1 h2 : Word}

theorem beaconOutcome_right (hc : freeCheckRight m = true) (hh : m.header = some (h1, h2)) :
    beaconOutcome s stamp m =
      if freeIsBeacon h1 h2 then some .good else if headerKind h1 = 1 then some .format else none := by
  unfold beaconOutcome
  rw [hc, hh]
  rfl

theorem beaconOutcome_wrong (hc : freeCheckRight m = false) :
    beaconOutcome s stamp m = if arrivalIsWatched s stamp then some .check else none := by
  unfold beaconOutcome
  rw [hc]

/-- A beacon ends 16 microseconds after its arrival (R4, R11). -/
theorem beacon_age (hc : freeCheckRight m = true) (hh : m.header = some (h1, h2)) (hb : freeIsBeacon h1 h2 = true) :
    m.age = some 16 := by
  obtain ⟨he, -⟩ := (freeCheckRight_iff m).1 hc
  obtain ⟨-, hlen, -⟩ := (freeIsBeacon_iff h1 h2).1 hb
  have hl : m.length = 0 := by
    unfold Message.header at hh
    split at hh
    next h k rest hw =>
      simp only [Option.some.injEq, Prod.mk.injEq] at hh
      unfold Message.length
      rw [hw]
      exact hh.1 ▸ hlen
    next => cases hh
  simp [Message.age, he, Message.airAfter, hl]

end

/-! ### The row FREE_MESSAGE_END -/

/-- The lane's activity up to this moment is handed on. -/
def occupied (l : Lane) (s : State) : State := { s with rx := s.rx.set l { s.rx.get l with busy := s.now, floor := s.now } }

section
variable {s : State} {l : Lane} {elapsed lead k : Nat} {m : Message}

@[simp] theorem pass_cfg : (pass elapsed s).cfg = s.cfg := by unfold pass passTo; split <;> rfl
@[simp] theorem pass_lanes : (pass elapsed s).lanes = s.lanes := by unfold pass passTo; split <;> rfl
@[simp] theorem pass_notif : (pass elapsed s).notif = s.notif := by unfold pass passTo; split <;> rfl
@[simp] theorem pass_link : (pass elapsed s).link = s.link := by unfold pass passTo; split <;> rfl
@[simp] theorem pass_sched : (pass elapsed s).sched = s.sched := by unfold pass passTo; split <;> rfl
@[simp] theorem pass_launch : (pass elapsed s).launch = s.launch := by unfold pass passTo; split <;> rfl
@[simp] theorem pass_spor : (pass elapsed s).spor = s.spor := by unfold pass passTo; split <;> rfl
@[simp] theorem pass_recs : (pass elapsed s).recs = s.recs := by unfold pass passTo; split <;> rfl
@[simp] theorem pass_bufs : (pass elapsed s).bufs = s.bufs := by unfold pass passTo; split <;> rfl
@[simp] theorem pass_sync : (pass elapsed s).tb.sync = s.tb.sync := by unfold pass passTo; split <;> rfl
@[simp] theorem pass_role : (pass elapsed s).tb.role = s.tb.role := by unfold pass passTo; split <;> rfl
@[simp] theorem pass_cycle : (pass elapsed s).tb.cycle = s.tb.cycle := by unfold pass passTo; split <;> rfl
@[simp] theorem pass_length : (pass elapsed s).tb.length = s.tb.length := by unfold pass passTo; split <;> rfl
@[simp] theorem pass_began : (pass elapsed s).tb.began = s.tb.began := by unfold pass passTo; split <;> rfl
@[simp] theorem pass_past : (pass elapsed s).tb.past = s.tb.past := by unfold pass passTo; split <;> rfl
@[simp] theorem pass_missed : (pass elapsed s).tb.missed = s.tb.missed := by unfold pass passTo; split <;> rfl
@[simp] theorem pass_startupListen : (pass elapsed s).tb.startupListen = s.tb.startupListen := by
  unfold pass passTo; split <;> rfl

theorem pass_idle (h : s.tb.sync.running = false) : pass elapsed s = { s with now := s.now + elapsed } := by
  rw [pass, h]
  rfl

theorem hearsFree_age (h : hearsFree s l lead m = true) (ha : m.age = some k) : k ≤ s.now := by
  unfold hearsFree at h
  rw [ha] at h
  simp only [Bool.and_eq_true, decide_eq_true_eq] at h
  exact h.1.2

/-- A message that the receiver does not take changes nothing (R10). -/
theorem freeMessage_nothing (hset : Settled s) (h : hearsFree (pass elapsed s) l lead m = false) :
    exec (.freeMessageEnd l elapsed ⟨lead, m⟩) s = .next s := by
  change execFreeMessageEnd l elapsed ⟨lead, m⟩ s = _
  rw [execFreeMessageEnd, if_neg (by simp [h])]
  exact finish_of_settled hset rfl rfl rfl

/-- A message that the receiver takes goes to its lane and the timebase with the stamp of its arrival. -/
theorem freeMessage_heard (hp : canPass elapsed s = true) (h : hearsFree (pass elapsed s) l lead m = true)
    (ha : m.age = some k) :
    exec (.freeMessageEnd l elapsed ⟨lead, m⟩) s =
      finish (freeMessage l (stampOf (pass elapsed s) ((pass elapsed s).now - k)) m (occupied l (pass elapsed s))) := by
  change execFreeMessageEnd l elapsed ⟨lead, m⟩ s = _
  rw [execFreeMessageEnd, if_pos (by simp [hp, h]), endFree, ha]
  rfl

end

/-! ### Outcomes that move their lane alone -/

/-- The cycle number that a beacon outcome's event carries. -/
def beaconCycle (s : State) : BitVec 6 := if s.tb.sync.running then s.tb.cycle else 0

theorem gradeBeacon_posts (l : Lane) (o : Outcome) (s : State) :
    Posts [] ((s.lanes.get l).outcomeNotices l s.cfg.debitLimit o false none s.tb.cycle (beaconCycle s))
      (graded l o false s) (gradeBeacon l o s) :=
  (gradeOutcome_does l o false none (beaconCycle s)).posts s

theorem after_good_state (u : LaneUnit) (limit : Nat) : (u.after limit .good false).state = u.state := by
  rw [after_eq]
  split_ifs <;> simp_all [Outcome.isClean]

/-- A GOOD outcome moves its lane unit alone. -/
theorem graded_good (l : Lane) (s : State) :
    graded l .good false s = setUnit l ((s.lanes.get l).after s.cfg.debitLimit .good false) s :=
  graded_eq_setUnit rfl (after_good_state _ _)

theorem gradeBeacon_good (l : Lane) (s : State) :
    Posts [] [] (setUnit l ((s.lanes.get l).after s.cfg.debitLimit .good false) s) (gradeBeacon l .good s) := by
  have h := gradeBeacon_posts l .good s
  rwa [outcomeNotices_none l none _ _ rfl (faults_of_state_eq (after_good_state _ _)), graded_good] at h

section
variable {s : State} {l : Lane} {elapsed lead k : Nat} {m : Message} {o : Outcome}

theorem graded_eq (l : Lane) (o : Outcome) (proved : Bool) (s : State) :
    graded l o proved s =
      { (if (s.lanes.get l).faults s.cfg.debitLimit o proved then laneLeaves l s else s) with
        lanes := s.lanes.set l ((s.lanes.get l).after s.cfg.debitLimit o proved) } := by
  unfold graded setUnit
  split <;> simp

theorem graded_link (l : Lane) (o : Outcome) (proved : Bool) (s : State) : (graded l o proved s).link = s.link := by
  unfold graded setUnit
  split <;> simp

/-- A message that forms no outcome lets time pass alone. -/
theorem freeMessage_discarded (hi : s.link.intake = []) (ten : TenGroups s)
    (hc : exec (.freeMessageEnd l elapsed ⟨lead, m⟩) s = finish (occupied l (pass elapsed s))) :
    ∃ t, exec (.freeMessageEnd l elapsed ⟨lead, m⟩) s = .next t ∧ Raised [] s t ∧ Effect (occupied l (pass elapsed s)) t :=
  effect_of_posts hc (.refl _) ((congrArg Link.intake pass_link).trans hi) pass_notif ten

/-- A message whose outcome goes to its lane unit alone. -/
theorem freeMessage_graded (hi : s.link.intake = []) (ten : TenGroups s)
    (hc : exec (.freeMessageEnd l elapsed ⟨lead, m⟩) s = finish (gradeBeacon l o (occupied l (pass elapsed s)))) :
    ∃ t, exec (.freeMessageEnd l elapsed ⟨lead, m⟩) s = .next t ∧
      Raised ((s.lanes.get l).outcomeNotices l s.cfg.debitLimit o false none s.tb.cycle (beaconCycle s)) s t ∧
      Effect { (if (s.lanes.get l).faults s.cfg.debitLimit o false then laneLeaves l (occupied l (pass elapsed s))
          else occupied l (pass elapsed s)) with
        lanes := s.lanes.set l ((s.lanes.get l).after s.cfg.debitLimit o false) } t := by
  have h := gradeBeacon_posts l o (occupied l (pass elapsed s))
  have hlink : (graded l o false (occupied l (pass elapsed s))).link = s.link := (graded_link _ _ _ _).trans pass_link
  have hnotif : (graded l o false (occupied l (pass elapsed s))).notif = s.notif :=
    ((graded_blind l o false).notif _).trans pass_notif
  rw [graded_eq] at h hlink hnotif
  simpa only [occupied, beaconCycle, pass_lanes, pass_cfg, pass_sync, pass_cycle] using
    effect_of_posts hc h (hlink ▸ hi) hnotif ten

end

/-! ### A beacon that the timebase takes (R29) -/

/-- The state in which the timebase acts on a beacon taken on this lane: the lane has its GOOD outcome, and the moment is
that of the last beacon taken. -/
def took (l : Lane) (s : State) : State :=
  { occupied l s with
    tb := { s.tb with lastTaken := some s.now }
    lanes := s.lanes.set l ((s.lanes.get l).after s.cfg.debitLimit .good false) }

section
variable {s : State} {l : Lane} {elapsed lead : Nat} {m : Message} {h1 h2 : Word}

theorem Posts.cfg_eq {resp : List OutFrame} {notices : List Notice} {x t : State} (h : Posts resp notices x t) :
    t.cfg = x.cfg := by obtain ⟨n, new, r, rfl, -⟩ := h; rfl

/-- The timebase acts on a beacon that is no twin, in a state that is `took` but for what was posted: nothing. -/
theorem freeMessage_taken (hp : canPass elapsed s = true) (hf : hearsFree (pass elapsed s) l lead m = true)
    (ht : isTwin (pass elapsed s) = false) (hc : freeCheckRight m = true) (hh : m.header = some (h1, h2))
    (hb : freeIsBeacon h1 h2 = true) :
    ∃ t, exec (.freeMessageEnd l elapsed ⟨lead, m⟩) s =
        finish (actOnBeacon l (stampOf (pass elapsed s) ((pass elapsed s).now - 16)) (headerCycle h2) (headerSender h1) t) ∧
      Posts [] [] (took l (pass elapsed s)) t := by
  have hg := gradeBeacon_good l (occupied l (pass elapsed s))
  have htwin : isTwin (gradeBeacon l .good (occupied l (pass elapsed s))) = false := by
    rw [isTwin, hg.tb_eq, hg.now_eq]
    exact ht
  refine ⟨_, ?_, hg.map (f := fun s => setTimebase { s.tb with lastTaken := some s.now } s) fun _ _ _ _ => rfl⟩
  rw [freeMessage_heard hp hf (beacon_age hc hh hb), freeMessage, beaconOutcome_right hc hh, if_pos hb, hh]
  exact congrArg finish (if_neg (by rw [htwin]; decide))

/-- An out-of-window beacon at a LOCKED follower (R35). -/
theorem actOnBeacon_outOfWindow {stamp : Stamp} {number : BitVec 6} {sender : Nat} (hs : s.tb.sync = .locked)
    (hr : s.tb.role = .follower) (hw : inWindow s.cfg (phaseError s stamp) = false) :
    actOnBeacon l stamp number sender s =
      raise .beaconOutOfWindow (detailWord (BitVec.ofInt 16 (phaseError s stamp)) l.code (byte sender)) s := by
  simp only [actOnBeacon, hs, hr, hw, reduceCtorEq, if_false, Bool.false_eq_true]

/-- The phase error is that of the moment at which the message ended. -/
theorem phaseError_taken {x y : State} (h : Posts [] [] (took l x) y) (stamp : Stamp) :
    phaseError y stamp = phaseError x stamp := by
  unfold phaseError
  rw [h.tb_eq]
  rfl

theorem inWindow_iff (p : Params) (e : Int) :
    inWindow p e = true ↔ -(p.lockWindow : Int) ≤ e ∧ e ≤ (p.lockWindow : Int) := by
  simp [inWindow]

theorem inWindow_eq_false {p : Params} {e : Int} (h : e < -(p.lockWindow : Int) ∨ (p.lockWindow : Int) < e) :
    inWindow p e = false := by
  rw [Bool.eq_false_iff, ne_eq, inWindow_iff]
  omega

end

/-! ### O46 -/

/-- The receiver refuses what was noise, what began while it was OFF, what began on a busy lane, and what its lane sends. -/
theorem hearsFree_eq_false {s : State} {l : Lane} {lead k : Nat} {m : Message} (ha : m.age = some k)
    (h : k < 2 ∨ s.now - k + 2 < (s.rx.get l).since ∨
      (s.now - k - lead < (s.rx.get l).busy ∧ ((s.rx.get l).busy < s.now ∨ isBeacon m = false)) ∨
      (txen s l = true ∧ isBeacon m = false)) : hearsFree s l lead m = false := by
  have hd : Config.delimiterTime = 2 := rfl
  unfold hearsFree takesFree
  rw [ha]
  simp only
  rcases h with h | h | ⟨h, hb⟩ | ⟨h, hb⟩
  · have : m.recognised = false := by simp [Message.recognised, ha, hd, h]
    simp [this]
  · have : decide ((s.rx.get l).since ≤ s.now - k + Config.delimiterTime) = false := by simp [hd, h]
    simp [this]
  · have : decide ((s.rx.get l).busy ≤ s.now - k - lead) = false := by simpa using h
    rcases hb with hb | hb
    · have : ((s.rx.get l).busy == s.now) = false := by simpa using Nat.ne_of_lt hb
      simp [*]
    · simp [*]
  · have : (receiverMode s l != .off) = false ∨ (receiverMode s l != .echo) = false := by
      unfold receiverMode
      split
      · exact .inl rfl
      · exact .inr rfl
    rcases this with this | this <;> simp [this, hb]

/-- Settles O46: the receiver's four refusals, and the table of R15 for what it takes. -/
theorem otherFreeMessages : Obligations.OtherFreeMessages := by
  intro l elapsed lead k m s hreset hi ten hp ha p u heard cycle right inLine beacon watched discarded graded nothing
  have hbeacon : isBeacon m = false ↔ ¬beacon := by
    rw [Bool.eq_false_iff, ne_eq, isBeacon_iff]
    simp only [freeIsBeacon_iff]
    exact .rfl
  have refused {c : Prop} (h : c → hearsFree p l lead m = false) : Settled s → c → nothing :=
    fun hs hc => freeMessage_nothing hs (h hc)
  refine ⟨refused fun h => hearsFree_eq_false ha (.inl h), refused fun h => hearsFree_eq_false ha (.inr (.inl h)),
    fun hs h hb => freeMessage_nothing hs (hearsFree_eq_false ha (.inr (.inr (.inl ⟨h, hb.imp id hbeacon.2⟩)))),
    fun hs h hb => freeMessage_nothing hs (hearsFree_eq_false ha (.inr (.inr (.inr ⟨h, hbeacon.2 hb⟩)))), fun hf => ?_⟩
  have hk : k ≤ p.now := hearsFree_age hf ha
  have hexec := freeMessage_heard hp hf ha
  have hwatched : arrivalIsWatched (occupied l (pass elapsed s)) (stampOf (pass elapsed s) ((pass elapsed s).now - k)) = true ↔
      watched :=
    (arrivalIsWatched_iff hk).trans (by simp only [pass_sync, pass_cfg, p]; exact .rfl)
  have wrong (hr : ¬right) : freeCheckRight m = false := by rwa [Bool.eq_false_iff, ne_eq, freeCheckRight_iff]
  refine ⟨fun h1 h2 hr hh => ?_, fun hr hw => ?_, fun hr hw => ?_, fun h1 h2 e hr hh hkind hin ht hs hrole he hout => ?_⟩
  · rw [freeMessage, beaconOutcome_right ((freeCheckRight_iff m).2 hr) hh] at hexec
    refine ⟨fun hkind => ?_, fun hkind hin => ?_, fun hkind hin ht => ?_⟩
    · have hno : ¬freeIsBeacon h1 h2 = true := fun h => hkind ((freeIsBeacon_iff h1 h2).1 h).1
      rw [if_neg hno, if_neg hkind] at hexec
      exact freeMessage_discarded hi ten hexec
    · have hno : ¬freeIsBeacon h1 h2 = true := fun h => hin ((freeIsBeacon_iff h1 h2).1 h).2
      rw [if_neg hno, if_pos hkind] at hexec
      exact freeMessage_graded hi ten hexec
    · rw [if_pos ((freeIsBeacon_iff h1 h2).2 ⟨hkind, hin⟩)] at hexec
      refine freeMessage_graded hi ten (hexec.trans (congrArg finish (if_pos ?_)))
      rw [isTwin, (gradeBeacon_good l _).tb_eq, (gradeBeacon_good l _).now_eq]
      exact ht
  · rw [freeMessage, beaconOutcome_wrong (wrong hr), if_pos (hwatched.2 hw)] at hexec
    exact freeMessage_graded hi ten hexec
  · rw [freeMessage, beaconOutcome_wrong (wrong hr), if_neg (mt hwatched.1 hw)] at hexec
    exact freeMessage_discarded hi ten hexec
  · obtain ⟨y, hy, hposts⟩ := freeMessage_taken hp hf ht ((freeCheckRight_iff m).2 hr) hh
      ((freeIsBeacon_iff h1 h2).2 ⟨hkind, hin⟩)
    have hage : k = 16 := Option.some.inj (ha.symm.trans
      (beacon_age ((freeCheckRight_iff m).2 hr) hh ((freeIsBeacon_iff h1 h2).2 ⟨hkind, hin⟩)))
    subst hage
    have herr : phaseError y (stampOf p (p.now - 16)) = e :=
      (phaseError_taken hposts _).trans (phaseError_stampOf (congrArg Sync.running (pass_sync.trans hs)) hk he)
    rw [actOnBeacon_outOfWindow (hposts.tb_eq ▸ pass_sync.trans hs) (hposts.tb_eq ▸ pass_role.trans hrole)
      (by rw [herr, hposts.cfg_eq]; exact (congrArg (inWindow · e) pass_cfg).trans (inWindow_eq_false hout))] at hy
    have hraised := hposts.raise .beaconOutOfWindow (detailWord (BitVec.ofInt 16 e) l.code (byte (headerSender h1)))
    obtain ⟨t, ht, hr, heff⟩ := effect_of_posts (herr ▸ hy) hraised ((congrArg Link.intake pass_link).trans hi) pass_notif ten
    simp only [took, pass_cycle, List.nil_append] at hr
    simp only [took, pass_lanes, pass_cfg] at heff
    exact ⟨t, ht, hr, heff⟩

/-! ### The timebase's own steps -/

/-- The running cycle has the length that this phase error gives, and this number (R32). -/
def corrected (e : Int) (number : BitVec 6) (s : State) : State :=
  setTimebase { s.tb with
    length := ((s.cfg.cycleLength : Int) + correction s.cfg e).toNat, beaconMark := true, cycle := number } s

theorem correct_does (e : Int) (number : BitVec 6) (l : Lane) (sender : Nat) :
    Does (correct e number l sender) (corrected e number) (fun _ => []) (fun s => if number = s.tb.cycle then [] else
      [⟨.cycleJump, number, ⟨cycleByte s.tb.cycle, cycleByte number, l.code, byte sender⟩⟩]) where
  posts s := by
    unfold correct
    by_cases h : s.tb.cycle = number
    · simp only [h, if_true]
      exact .refl _
    · simp only [h, Ne.symm h, if_false]
      exact (raise_does _ _).posts (corrected e number s)
  blind _ _ _ _ := rfl
  respBlind _ _ _ _ := rfl
  saidBlind _ _ _ _ := rfl

/-- The sync state is this one. -/
def synced (new : Sync) (s : State) : State := setTimebase { s.tb with sync := new } s

theorem raiseSyncChanged_does (old : Sync) :
    Does (raiseSyncChanged old) id (fun _ => []) (fun s =>
      [syncNotice s.tb.cycle old s.tb.sync s.tb.role (if s.tb.sync.running then cycleByte s.tb.cycle else 0)]) :=
  ⟨fun s => (raise_does _ _).posts s, fun _ _ _ _ => rfl, fun _ _ _ _ => rfl, fun _ _ _ _ => rfl⟩

theorem changeSync_does (new : Sync) :
    Does (changeSync new) (synced new) (fun _ => []) (fun s =>
      [syncNotice s.tb.cycle s.tb.sync new s.tb.role (if new.running then cycleByte s.tb.cycle else 0)]) :=
  ⟨fun s => (raiseSyncChanged_does s.tb.sync).posts (synced new s), fun _ _ _ _ => rfl, fun _ _ _ _ => rfl,
    fun _ _ _ _ => rfl⟩

/-! ### O45 -/

/-- The missed count is cleared on the way out of HOLDOVER (R36). -/
def recovered (s : State) : State := setTimebase { s.tb with missed := 0 } s

/-- What an in-window beacon taken does to the timebase of a follower, by its sync state (R34 to R36). -/
def lockOn (e : Int) (number : BitVec 6) (l : Lane) (sender : Nat) (s : State) : State :=
  match s.tb.sync with
  | .acquire => changeSync .locked (correct e number l sender s)
  | .holdover => changeSync .locked (recovered (correct e number l sender s))
  | _ => correct e number l sender s

theorem actOnBeacon_inWindow {l : Lane} {stamp : Stamp} {number : BitVec 6} {sender : Nat} {s : State}
    (hs : s.tb.sync.running = true) (hr : s.tb.role = .follower) (hw : inWindow s.cfg (phaseError s stamp) = true) :
    actOnBeacon l stamp number sender s = lockOn (phaseError s stamp) number l sender s := by
  unfold actOnBeacon lockOn
  cases h : s.tb.sync with
  | offline | listen => simp [h, Sync.running] at hs
  | acquire => simp only [hw, if_true]
  | holdover =>
    simp only [hw, if_true]
    rfl
  | locked => simp only [hr, hw, if_true, reduceCtorEq, if_false]

/-- The state when an in-window beacon has locked the follower. -/
def lockedOn (e : Int) (number : BitVec 6) (s : State) : State :=
  setTimebase { s.tb with
    sync := .locked, cycle := number, beaconMark := true, missed := if s.tb.sync = .holdover then 0 else s.tb.missed
    length := ((s.cfg.cycleLength : Int) + correction s.cfg e).toNat } s

theorem lockOn_posts {e : Int} {number : BitVec 6} {l : Lane} {sender : Nat} {x y : State} (h : Posts [] [] x y)
    (hs : x.tb.sync.running = true) (hr : x.tb.role = .follower) :
    Posts [] ((if number = x.tb.cycle then [] else
        [⟨.cycleJump, number, ⟨cycleByte x.tb.cycle, cycleByte number, l.code, byte sender⟩⟩]) ++
        (if x.tb.sync = .locked then [] else [syncNotice number x.tb.sync .locked .follower (cycleByte number)]))
      (lockedOn e number x) (lockOn e number l sender y) := by
  have hc := (correct_does e number l sender).after h
  unfold lockOn
  rw [h.tb_eq]
  cases hsync : x.tb.sync with
  | offline | listen => simp [hsync, Sync.running] at hs
  | acquire =>
    have := (changeSync_does .locked).after hc
    simpa [lockedOn, hsync, synced, corrected, setTimebase, hr, Sync.running] using this
  | holdover =>
    have := (changeSync_does .locked).after (hc.map (f := recovered) fun _ _ _ _ => rfl)
    simpa [lockedOn, hsync, synced, corrected, recovered, setTimebase, hr, Sync.running] using this
  | locked => simpa [lockedOn, hsync, synced, corrected, setTimebase, hr, Sync.running] using hc

/-- Settles O45: the beacon is taken, and locks the follower on. -/
theorem beaconInWindowCorrects : Obligations.BeaconInWindowCorrects := by
  intro l elapsed lead m h1 h2 e s hrun hrole hreset hi ten hp hf ht hc hh hb he hlo hhi p number
  obtain ⟨y, hy, hposts⟩ := freeMessage_taken hp hf ht hc hh hb
  have hk : 16 ≤ p.now := hearsFree_age hf (beacon_age hc hh hb)
  have hrun' : p.tb.sync.running = true := (congrArg Sync.running pass_sync).trans hrun
  have hrole' : p.tb.role = .follower := pass_role.trans hrole
  have herr : phaseError y (stampOf p (p.now - 16)) = e :=
    (phaseError_taken hposts _).trans
      (phaseError_stampOf hrun' hk he)
  have hw : inWindow y.cfg e = true := by
    rw [hposts.cfg_eq]
    exact (congrArg (inWindow · e) pass_cfg).trans ((inWindow_iff _ _).2 ⟨hlo, hhi⟩)
  rw [actOnBeacon_inWindow (hposts.tb_eq ▸ hrun') (hposts.tb_eq ▸ hrole') (by rw [herr]; exact hw), herr] at hy
  obtain ⟨t, ht, hr, heff⟩ := effect_of_posts hy (lockOn_posts hposts hrun' hrole') ((congrArg Link.intake pass_link).trans hi)
    pass_notif ten
  simp only [took, pass_cycle, pass_sync] at hr
  refine ⟨t, ht, hr, ?_⟩
  simpa only [lockedOn, setTimebase, took, occupied, correction, pass_lanes, pass_cfg, pass_sync, pass_missed,
    p, number] using heff

end Sys2Proof.Machine
end

section
/-! A beacon on which the timebase aligns hard (R24, R27, R31, R34, R36). -/
namespace Sys2Proof.Machine

/-! ### Launch and window come to an end at once (R9, R57) -/

theorem cutLaunch_idle {lanes : LaneSet} {s : State} (h : s.launch = none) : cutLaunch lanes s = s := by
  unfold cutLaunch
  rw [h]

theorem onAir_cut_both (x : Launch) : ({ x with cut := x.cut.union (x.lanes.inter LaneSet.both) } : Launch).onAir.isEmpty = true := by
  simp only [Launch.onAir, LaneSet.minus, LaneSet.union, LaneSet.inter, LaneSet.isEmpty, LaneSet.both]
  cases x.lanes.a <;> cases x.lanes.b <;> cases x.cut.a <;> cases x.cut.b <;> rfl

/-- The launch is cut on both lanes and the open window abandoned. -/
def stopped (s : State) : State := abandonWindow (cutLaunch LaneSet.both s)

theorem cutLaunch_both (s : State) :
    (cutLaunch LaneSet.both s).launch = none ∧ (cutLaunch LaneSet.both s).spor = cutQueue s ∧
      cutLaunch LaneSet.both s = { s with
        launch := none, spor := (cutLaunch LaneSet.both s).spor, rx := (cutLaunch LaneSet.both s).rx
        sched := { s.sched with window := (cutLaunch LaneSet.both s).sched.window } } := by
  rcases cutLaunch_cases LaneSet.both s with ⟨hx, hc⟩ | ⟨x, hx, ⟨ho, -⟩ | ⟨-, hc⟩⟩
  · rw [hc]
    refine ⟨hx, by simp [cutQueue, hx], ?_⟩
    rw [← hx]
  · rw [onAir_cut_both] at ho
    cases ho
  · rw [hc]
    refine ⟨rfl, ?_, ?_⟩
    · cases hk : x.kind <;> simp [cutQueue, hx, hk, SporadicQueue.requeue]
    · cases hk : x.kind <;> simp [setLaunchState]

theorem stopped_eq (s : State) : stopped s =
    { s with launch := none, spor := cutQueue s, rx := stoppedReceivers s, sched := { s.sched with window := none } } := by
  obtain ⟨-, hspor, hcut⟩ := cutLaunch_both s
  have h : stopped s = { cutLaunch LaneSet.both s with
      sched := { (cutLaunch LaneSet.both s).sched with window := none }, rx := stoppedReceivers s } := rfl
  rw [h, hcut, hspor]

theorem stopped_blind : Blind stopped := by
  refine Blind.comp (f := abandonWindow) (fun n o r s => ?_) (cutLaunch_blind _)
  rfl

/-- Where the window's spans lie does not depend on the timebase but for the offset. -/
theorem abandonWindow_setTimebase {tb : Timebase} {s : State} (h : tb.offset = s.tb.offset) :
    abandonWindow (setTimebase tb s) = setTimebase tb (abandonWindow s) := by
  unfold abandonWindow windowReceivers spanOf setTimebase
  simp only [h]

/-- A launch that was cut before is not there to be cut again. -/
theorem stopped_cut {tb : Timebase} {s : State} (h : tb.offset = s.tb.offset) :
    stopped (setTimebase tb (cutLaunch LaneSet.both s)) = setTimebase tb (stopped s) := by
  obtain ⟨hlaunch, -, hcut⟩ := cutLaunch_both s
  have htb : (cutLaunch LaneSet.both s).tb = s.tb := by rw [hcut]
  have hidle : (setTimebase tb (cutLaunch LaneSet.both s)).launch = none := hlaunch
  rw [stopped, cutLaunch_idle hidle, abandonWindow_setTimebase (by rw [htb, h]), stopped]

/-! ### The reactions of the other blocks to a cycle-start event -/

/-- Both lane units have reacted to a cycle-start event. -/
def livedBoth (s : State) : State :=
  { s with
    lanes := ⟨s.lanes.a.afterCycle s.cfg, s.lanes.b.afterCycle s.cfg⟩
    rx := s.rx.on (readmitted s.cfg s.lanes) (Receiver.listen s.now) }

theorem lived_eq (l : Lane) (s : State) : lived l s = { s with
    lanes := s.lanes.set l ((s.lanes.get l).afterCycle s.cfg)
    rx := if (readmitted s.cfg s.lanes).has l then s.rx.update l (Receiver.listen s.now) else s.rx } := by
  unfold lived
  split <;> rfl

theorem lived_lived (s : State) : lived .B (lived .A s) = livedBoth s := by
  have hb : (readmitted s.cfg (s.lanes.set .A ((s.lanes.get .A).afterCycle s.cfg))).has .B =
      (readmitted s.cfg s.lanes).has .B := by
    rw [readmitted_has, readmitted_has]
    rfl
  rw [lived_eq, lived_eq]
  simp only [hb]
  unfold livedBoth PerLane.on LaneSet.has
  cases (readmitted s.cfg s.lanes).a <;> cases (readmitted s.cfg s.lanes).b <;> rfl

/-- The lives of the queued sporadic entries are a cycle shorter. -/
def older (s : State) : State := { s with spor := s.spor.older }

/-- Every block has reacted to a cycle-start event. -/
def reacted (s : State) : State := expiredDue (older (livedBoth (ageBuffers (committed s))))

theorem ageBuffers_blind : Blind ageBuffers := fun _ _ _ _ => rfl

theorem older_tickets (s : State) :
    ((older s).spor.entries.map SporadicEntry.ticket) = s.spor.entries.map SporadicEntry.ticket := by
  simp only [older, SporadicQueue.older, List.map_map]
  refine List.map_congr_left fun e _ => ?_
  simp only [Function.comp_apply]
  split <;> rfl

/-- One operation more, whose effect is known in the state reached. -/
theorem Posts.andThen_here {responses : List OutFrame} {notices : List Notice} {x t u : State} {f : State → State}
    {resp : State → List OutFrame} {said : State → List Notice} (h : Posts responses notices x t)
    (hop : Posts (resp t) (said t) (f t) u) (hf : Blind f) (hr : ∀ n o r, resp (x.noted n o r) = resp x)
    (hs : ∀ n o r, said (x.noted n o r) = said x) :
    Posts (responses ++ resp x) (notices ++ said x) (f x) u := by
  have := (h.map hf).trans hop
  obtain ⟨n, new, r, rfl, -⟩ := h
  rwa [hr, hs] at this

/-- What the sporadic queue raises at a cycle-start event (R118, R122). -/
def livesNotices (s : State) : List Notice :=
  expiryNotices s.spor.older.due (expiredDue (older s)).spor.entries s.tb.cycle ++
    RecordQueue.filingNoticesAll s.tb.cycle (s.spor.older.due.map fun e => expiredRecord e s.tb.cycle) s.recs

theorem sporadicCycleStart_posts {responses : List OutFrame} {notices : List Notice} {x t : State}
    (h : Posts responses notices x t) (hn : (x.spor.entries.map SporadicEntry.ticket).Nodup) :
    Posts responses (notices ++ livesNotices x) (expiredDue (older x)) (sporadicCycleStart t) := by
  have hspor : t.spor = x.spor := by obtain ⟨n, new, r, rfl, -⟩ := h; rfl
  have hx : Posts [] (livesNotices t) (expiredDue (older t)) (sporadicCycleStart t) :=
    expireDue_posts (s := older t) (by rw [older_tickets, hspor]; exact hn)
  simpa using h.andThen_here (f := expiredDue ∘ older) (resp := fun _ => []) hx
    (fun _ _ _ _ => rfl) (fun _ _ _ => rfl) (fun _ _ _ => rfl)

theorem livesNotices_congr {s t : State} (hs : t.spor = s.spor) (ht : t.tb = s.tb) (hr : t.recs = s.recs) :
    livesNotices t = livesNotices s := by
  unfold livesNotices older expiredDue
  simp only [hs, ht, hr]

theorem committed_eq (s : State) : committed s = { s with
    sched := { s.sched with
      active := if s.sched.commitPending then s.sched.edit else s.sched.active, commitPending := false }
    link := if s.sched.commitPending then s.link.withoutDeferred .tcommit else s.link } := by
  unfold committed
  split
  next => rfl
  next h =>
    have hf : s.sched.commitPending = false := by simpa using h
    rw [← hf]

theorem committed_same (s : State) : (committed s).cfg = s.cfg ∧ (committed s).tb = s.tb ∧ (committed s).lanes = s.lanes ∧
    (committed s).spor = s.spor ∧ (committed s).recs = s.recs := by
  unfold committed
  split <;> exact ⟨rfl, rfl, rfl, rfl, rfl⟩

/-- The reactions raise what each block raises, in the order commit, lanes, sporadic queue. -/
theorem blockReactions_posts {responses : List OutFrame} {notices : List Notice} {x t : State}
    (h : Posts responses notices x t) (hn : (x.spor.entries.map SporadicEntry.ticket).Nodup) :
    Posts (responses ++ if x.sched.commitPending then x.link.deferredAnswer .tcommit .ok else [])
      (notices ++ (commitNotices .cycleStart x.tb.cycle x ++ x.lanes.a.cycleNotices .A x.cfg x.tb.cycle ++
        x.lanes.b.cycleNotices .B x.cfg x.tb.cycle) ++ livesNotices x)
      (reacted x) (blockReactions t) := by
  obtain ⟨hcfg, htb, hlanes, hspor, hrecs⟩ := committed_same x
  let y := ageBuffers (committed x)
  have hy : y.cfg = x.cfg ∧ y.tb = x.tb ∧ y.lanes = x.lanes := ⟨hcfg, htb, hlanes⟩
  obtain ⟨hycfg, hytb, hylanes⟩ := hy
  have hc := ((settleCommit_does .cycleStart).after h).map ageBuffers_blind
  have hb := (laneCycleStart_does .B).after ((laneCycleStart_does .A).after hc)
  have hl := sporadicCycleStart_posts hb (by rw [lived_lived]; exact hspor ▸ hn)
  have hnotices : livesNotices (livedBoth y) = livesNotices x := livesNotices_congr hspor htb hrecs
  have hother : (lived .A y).lanes.get .B = x.lanes.b := by rw [lived_eq, hylanes]; rfl
  have hcfgA : (lived .A y).cfg = x.cfg := by rw [lived_eq]; exact hcfg
  have htbA : (lived .A y).tb = x.tb := by rw [lived_eq]; exact htb
  have hfirst : y.lanes.get .A = x.lanes.a := by rw [hylanes]; rfl
  change Posts _ (_ ++ (y.lanes.get .A).cycleNotices .A y.cfg y.tb.cycle ++
    ((lived .A y).lanes.get .B).cycleNotices .B (lived .A y).cfg (lived .A y).tb.cycle ++ livesNotices (lived .B (lived .A y)))
    (expiredDue (older (lived .B (lived .A y)))) _ at hl
  rw [lived_lived, hnotices, hother, hcfgA, htbA, hfirst, hycfg, hytb] at hl
  simp only [List.append_assoc, List.append_nil] at hl ⊢
  exact hl

/-! ### Hard alignment while a cycle runs (R31) -/

/-- The timebase of the cycle that begins with hard alignment on a beacon with this number, while a cycle runs. -/
def alignedTimebase (number : BitVec 6) (s : State) : Timebase :=
  { s.tb with
    cycle := number, offset := 20, length := s.cfg.cycleLength, began := s.now, past := pastCycles s, beaconMark := true
    missed := 0, deadlinePassed := false, atCycleStart := true, markUntil := some (s.now + 2) }

/-- The new cycle has begun; the blocks have not reacted yet. -/
def aligned (number : BitVec 6) (s : State) : State := setTimebase (alignedTimebase number s) (stopped s)

theorem aligned_blind (number : BitVec 6) : Blind (aligned number) := fun n o r s => by
  unfold aligned
  rw [stopped_blind]
  rfl

theorem hardAlign_running {number : BitVec 6} {s : State} (h : s.tb.sync.running = true) :
    hardAlign number s = blockReactions (aligned number s) := by
  have htb : (cutLaunch LaneSet.both s).tb = s.tb := by rw [(cutLaunch_both s).2.2]
  unfold hardAlign
  rw [if_pos h]
  rfl

/-- The state when all blocks have reacted to a hard alignment in which the role and the sync state are these. -/
def realigned (sync : Sync) (role : Role) (number : BitVec 6) (s : State) : State :=
  let records := (cutQueue s).expiring.map fun e => expiredRecord e number
  { s with
    tb := { alignedTimebase number s with sync := sync, role := role }
    sched := stoppedSchedule s.sched, launch := none
    rx := (stoppedReceivers s).on (readmitted s.cfg s.lanes) (Receiver.listen s.now)
    bufs := s.bufs.map Buffer.aged
    lanes := ⟨s.lanes.a.afterCycle s.cfg, s.lanes.b.afterCycle s.cfg⟩
    spor := ⟨(cutQueue s).surviving, s.spor.counter⟩, recs := records.foldl RecordQueue.filed s.recs
    link := if s.sched.commitPending then s.link.withoutDeferred .tcommit else s.link }

/-- What the blocks raise at a hard alignment with this number. -/
def alignNotices (number : BitVec 6) (s : State) : List Notice :=
  commitNotices .cycleStart number s ++ s.lanes.a.cycleNotices .A s.cfg number ++ s.lanes.b.cycleNotices .B s.cfg number ++
    expiryNotices (cutQueue s).expiring (cutQueue s).surviving number ++
    RecordQueue.filingNoticesAll number ((cutQueue s).expiring.map fun e => expiredRecord e number) s.recs

theorem cutQueue_counter (s : State) : (cutQueue s).counter = s.spor.counter := by
  unfold cutQueue
  split <;> rfl

theorem cutQueue_tickets (s : State) :
    (cutQueue s).entries.map SporadicEntry.ticket = s.spor.entries.map SporadicEntry.ticket := by
  unfold cutQueue
  split
  · simp only [List.map_map]
    rfl
  · rfl

theorem reacted_aligned (tb : Timebase) (s : State) (number : BitVec 6) (h : tb.cycle = number) :
    reacted (setTimebase tb (stopped s)) = { realigned tb.sync tb.role number s with tb := tb } := by
  subst h
  rw [stopped_eq, reacted, committed_eq]
  unfold realigned stoppedSchedule
  rw [← cutQueue_counter s]
  rfl

/-- The cut of a launch looks at neither the timebase nor the lane units. -/
theorem cutLaunch_beside (lanes : LaneSet) (tb : Timebase) (units : PerLane LaneUnit) (s : State) :
    cutLaunch lanes { s with tb := tb, lanes := units } = { cutLaunch lanes s with tb := tb, lanes := units } := by
  unfold cutLaunch
  cases hx : s.launch with
  | none => simp only [← hx]
  | some x =>
    simp only
    split
    · cases x.kind <;> rfl
    · rfl

/-- The receivers return to the same modes whatever the timebase but for its offset, and the lane units. -/
theorem stoppedReceivers_beside {tb : Timebase} {units : PerLane LaneUnit} {s : State} (h : tb.offset = s.tb.offset) :
    stoppedReceivers { s with tb := tb, lanes := units } = stoppedReceivers s := by
  have htb : (cutLaunch LaneSet.both s).tb.offset = s.tb.offset := by rw [(cutLaunch_both s).2.2]
  unfold stoppedReceivers
  rw [cutLaunch_beside]
  unfold abandonWindow windowReceivers spanOf
  simp only [h, htb]

/-- Sync state and role of the timebase are these. -/
def recast (sync : Sync) (role : Role) (s : State) : State := setTimebase { s.tb with sync := sync, role := role } s

section
variable (sync : Sync) (role : Role) (number : BitVec 6) (s : State)

theorem cutLaunch_recast : cutLaunch LaneSet.both (recast sync role s) = recast sync role (cutLaunch LaneSet.both s) := by
  have htb : (cutLaunch LaneSet.both s).tb = s.tb := by rw [(cutLaunch_both s).2.2]
  have hlanes : (cutLaunch LaneSet.both s).lanes = s.lanes := by rw [(cutLaunch_both s).2.2]
  unfold recast setTimebase
  rw [htb]
  refine (cutLaunch_beside LaneSet.both _ s.lanes s).trans ?_
  rw [hlanes]

theorem aligned_recast_cut :
    aligned number (recast sync role (cutLaunch LaneSet.both s)) = recast sync role (aligned number s) := by
  have htb : (cutLaunch LaneSet.both s).tb = s.tb := by rw [(cutLaunch_both s).2.2]
  unfold aligned recast
  rw [stopped_cut (by rw [htb])]
  have hbase : alignedTimebase number (setTimebase { (cutLaunch LaneSet.both s).tb with sync := sync, role := role }
      (cutLaunch LaneSet.both s)) = { alignedTimebase number s with sync := sync, role := role } := by
    unfold alignedTimebase pastCycles setTimebase
    rw [(cutLaunch_both s).2.2]
  exact congrArg (setTimebase · (stopped s)) hbase

theorem reacted_recast : reacted (recast sync role (aligned number s)) = realigned sync role number s :=
  reacted_aligned { alignedTimebase number s with sync := sync, role := role } s number rfl

theorem alignNotices_recast_cut :
    alignNotices number (recast sync role (cutLaunch LaneSet.both s)) = alignNotices number s := by
  obtain ⟨hlaunch, hspor, hcut⟩ := cutLaunch_both s
  have hqueue : cutQueue (recast sync role (cutLaunch LaneSet.both s)) = cutQueue s := by
    rw [cutQueue]
    simp [recast, setTimebase, hlaunch, hspor]
  unfold alignNotices commitNotices
  rw [hqueue]
  unfold recast setTimebase
  rw [hcut]

end

/-- The commit's answer at a hard alignment. -/
def alignAnswers (s : State) : List OutFrame := if s.sched.commitPending then s.link.deferredAnswer .tcommit .ok else []

/-- A hard alignment answers a pending TCOMMIT and raises what each block raises. -/
theorem hardAlign_posts {responses : List OutFrame} {notices : List Notice} {x y : State} {number : BitVec 6}
    (h : Posts responses notices x y) (hrun : x.tb.sync.running = true)
    (hn : (x.spor.entries.map SporadicEntry.ticket).Nodup) :
    Posts (responses ++ alignAnswers x) (notices ++ alignNotices number x) (reacted (aligned number x)) (hardAlign number y) := by
  rw [hardAlign_running (h.tb_eq ▸ hrun)]
  have haligned : aligned number x = { x with
      tb := alignedTimebase number x, launch := none, spor := cutQueue x, rx := stoppedReceivers x
      sched := { x.sched with window := none } } := by
    rw [aligned, stopped_eq]
    rfl
  have hb := blockReactions_posts (h.map (aligned_blind number)) (by rw [haligned]; exact (cutQueue_tickets x).symm ▸ hn)
  have hs : commitNotices .cycleStart (aligned number x).tb.cycle (aligned number x) ++
      (aligned number x).lanes.a.cycleNotices .A (aligned number x).cfg (aligned number x).tb.cycle ++
      (aligned number x).lanes.b.cycleNotices .B (aligned number x).cfg (aligned number x).tb.cycle ++
      livesNotices (aligned number x) = alignNotices number x := by
    rw [haligned, alignNotices, List.append_assoc _ (expiryNotices _ _ _)]
    rfl
  have hr : (if (aligned number x).sched.commitPending then (aligned number x).link.deferredAnswer .tcommit .ok else []) =
      alignAnswers x := by
    rw [haligned]
    rfl
  rwa [List.append_assoc notices, hs, hr] at hb

/-- As when a launch was cut first, and the timebase changed its sync state or role. -/
theorem hardAlign_cut_posts {responses : List OutFrame} {notices : List Notice} {x y : State} {number : BitVec 6}
    {sync : Sync} {role : Role} (h : Posts responses notices (recast sync role (cutLaunch LaneSet.both x)) y)
    (hrun : sync.running = true) (hn : (x.spor.entries.map SporadicEntry.ticket).Nodup) :
    Posts (responses ++ alignAnswers x) (notices ++ alignNotices number x) (realigned sync role number x)
      (hardAlign number y) := by
  obtain ⟨-, hspor, hcut⟩ := cutLaunch_both x
  have hanswers : alignAnswers (recast sync role (cutLaunch LaneSet.both x)) = alignAnswers x := by
    unfold recast setTimebase
    rw [hcut]
    rfl
  have ha := hardAlign_posts (number := number) h hrun
    ((congrArg (fun q : SporadicQueue => q.entries.map SporadicEntry.ticket) hspor).trans (cutQueue_tickets x) ▸ hn)
  rwa [hanswers, alignNotices_recast_cut, aligned_recast_cut, reacted_recast] at ha

/-! ### The beacon taken -/

section
variable {l : Lane} {number : BitVec 6} {sender : Nat} {x y : State}

/-- MASTER_CONFLICT with its detail (R37). -/
def conflictNotice (l : Lane) (number : BitVec 6) (sender : Nat) (stamp : BitVec 6) : Notice :=
  ⟨.masterConflict, stamp, ⟨byte sender, l.code, cycleByte number, 0⟩⟩

theorem raiseMasterConflict_does (l : Lane) (number : BitVec 6) (sender : Nat) :
    Does (raiseMasterConflict l number sender) id (fun _ => []) (fun s => [conflictNotice l number sender s.tb.cycle]) :=
  raise_does _ _

/-- A LOCKED master becomes a follower in ACQUIRE (R27). -/
theorem conflictInLocked_posts (h : Posts [] [] x y) (hs : x.tb.sync = .locked)
    (hn : (x.spor.entries.map SporadicEntry.ticket).Nodup) :
    Posts (alignAnswers x) (conflictNotice l number sender x.tb.cycle :: alignNotices number x ++
        [syncNotice number .locked .acquire .follower (cycleByte number)])
      (realigned .acquire .follower number x) (conflictInLocked l number sender y) := by
  have htb : (cutLaunch LaneSet.both x).tb = x.tb := by rw [(cutLaunch_both x).2.2]
  have hx : demote (cutLaunch LaneSet.both x) = recast .locked .follower (cutLaunch LaneSet.both x) := by
    rw [recast, ← hs, ← htb]
    rfl
  have hc := (raiseMasterConflict_does l number sender).after
    (h.map (f := demote ∘ cutLaunch LaneSet.both) (Blind.comp (fun _ _ _ _ => rfl) (cutLaunch_blind _)))
  simp only [Function.comp_apply, id_eq, hx] at hc
  have ha := (changeSync_does .acquire).after (hardAlign_cut_posts (number := number) hc rfl hn)
  have hcycle : (recast .locked .follower (cutLaunch LaneSet.both x)).tb.cycle = x.tb.cycle := by
    rw [← htb]
    rfl
  rw [hcycle] at ha
  simp only [List.nil_append, List.append_nil, List.cons_append] at ha ⊢
  exact ha

/-- A follower in ACQUIRE begins anew (R34). -/
theorem hardAlign_acquire_posts (h : Posts [] [] x y) (hs : x.tb.sync = .acquire)
    (hn : (x.spor.entries.map SporadicEntry.ticket).Nodup) :
    Posts (alignAnswers x) (alignNotices number x) (realigned .acquire x.tb.role number x) (hardAlign number y) := by
  have ha := hardAlign_posts (number := number) h (by rw [hs]; rfl) hn
  have hx : aligned number x = recast .acquire x.tb.role (aligned number x) := by
    rw [← hs]
    rfl
  rw [hx, reacted_recast] at ha
  exact ha

/-- A follower in HOLDOVER goes to ACQUIRE (R36). -/
theorem realignFromHoldover_posts (h : Posts [] [] x y) (hn : (x.spor.entries.map SporadicEntry.ticket).Nodup) :
    Posts (alignAnswers x) (alignNotices number x ++ [syncNotice number .holdover .acquire x.tb.role (cycleByte number)])
      (realigned .acquire x.tb.role number x) (realignFromHoldover number y) := by
  have hc := h.map (f := cutLaunch LaneSet.both ∘ synced .acquire)
    (Blind.comp (cutLaunch_blind _) fun _ _ _ _ => rfl)
  have hx : synced .acquire x = recast .acquire x.tb.role x := rfl
  rw [Function.comp_apply, hx, cutLaunch_recast] at hc
  have ha := (raiseSyncChanged_does .holdover).after (hardAlign_cut_posts (number := number) hc rfl hn)
  simp only [List.nil_append, List.append_nil] at ha
  exact ha

end

/-! ### A beacon taken in LISTEN (R24, R34) -/

/-- The cycles begin with hard alignment on a beacon with this number, in ACQUIRE. -/
def startedOn (number : BitVec 6) (role : Role) (s : State) : State :=
  { s with
    tb := { s.tb with
      sync := .acquire, role := role, cycle := number, offset := 20, length := s.cfg.cycleLength, began := s.now
      beaconMark := true, missed := 0, deadlinePassed := false, startupListen := none, atCycleStart := false
      markUntil := none }
    link := s.link.withoutDeferred .start }

/-- The new cycle begins where none ran. -/
def begunIdle (number : BitVec 6) (s : State) : State :=
  setTimebase { s.tb with
    cycle := number, offset := 20, length := s.cfg.cycleLength, began := s.now, beaconMark := true, missed := 0
    deadlinePassed := false, atCycleStart := false, markUntil := none } s

theorem hardAlign_idle {number : BitVec 6} {s : State} (h : s.tb.sync.running = false) :
    hardAlign number s = begunIdle number s := by
  unfold hardAlign
  rw [if_neg (by rw [h]; decide)]
  rfl

theorem alignAndAcquire_idle_posts {responses : List OutFrame} {notices : List Notice} {x y : State} {number : BitVec 6}
    (h : Posts responses notices x y) (hs : x.tb.sync = .listen) :
    Posts responses (notices ++ [syncNotice number .listen .acquire x.tb.role (cycleByte number)])
      (synced .acquire (begunIdle number x)) (alignAndAcquire number y) := by
  have hidle : y.tb.sync.running = false := by rw [h.tb_eq, hs]; rfl
  have hc := (changeSync_does .acquire).after (h.map (f := begunIdle number) fun _ _ _ _ => rfl)
  rw [← hardAlign_idle hidle] at hc
  have hold : (begunIdle number x).tb.sync = .listen := hs
  simp only [hold, List.append_nil] at hc
  exact hc

/-- With no startup listen no START waits (R22). -/
theorem withoutDeferred_start {s : State} (h : DeferredSound s) (hn : s.tb.startupListen = none) :
    s.link.withoutDeferred .start = s.link ∧ ∀ r, s.link.deferredAnswer .start r = [] := by
  unfold DeferredSound at h
  unfold Link.withoutDeferred Link.deferredAnswer
  cases hd : s.link.deferred with
  | none => exact ⟨rfl, fun _ => rfl⟩
  | some d =>
    rw [hd] at h
    cases hk : d.kind with
    | start => simp [hk, hn] at h
    | tcommit => simp [hk]

theorem conflictInListen_posts {x y : State} {l : Lane} {number : BitVec 6} {sender : Nat} (h : Posts [] [] x y)
    (hs : x.tb.sync = .listen) :
    Posts (x.link.deferredAnswer .start .masterConflict)
      [conflictNotice l number sender x.tb.cycle, syncNotice number .listen .acquire .follower (cycleByte number)]
      (startedOn number .follower x) (conflictInListen l number sender y) := by
  have hc := (raiseMasterConflict_does l number sender).after
    (h.map (f := fun s => demote (setTimebase { s.tb with startupListen := none } s)) fun _ _ _ _ => rfl)
  have ha := (answerDeferred_does .start .masterConflict).after (alignAndAcquire_idle_posts (number := number) hc hs)
  exact ha

/-- What the timebase makes of a beacon taken in LISTEN. -/
theorem actOnBeacon_listen {l : Lane} {stamp : Stamp} {number : BitVec 6} {sender : Nat} {s : State}
    (hs : s.tb.sync = .listen) : actOnBeacon l stamp number sender s =
      if s.tb.startupListen.isSome then conflictInListen l number sender s else alignAndAcquire number s := by
  simp only [actOnBeacon, hs]

theorem listen_posts {x y : State} {l : Lane} {stamp : Stamp} {number : BitVec 6} {sender : Nat} (h : Posts [] [] x y)
    (hs : x.tb.sync = .listen) (hd : DeferredSound x) :
    Posts (x.link.deferredAnswer .start .masterConflict)
      ((if x.tb.startupListen.isSome then [conflictNotice l number sender x.tb.cycle] else []) ++
        [syncNotice number .listen .acquire (if x.tb.startupListen.isSome then .follower else x.tb.role) (cycleByte number)])
      (startedOn number (if x.tb.startupListen.isSome then .follower else x.tb.role) x)
      (actOnBeacon l stamp number sender y) := by
  rw [actOnBeacon_listen (h.tb_eq ▸ hs), h.tb_eq]
  cases hl : x.tb.startupListen with
  | some m => exact conflictInListen_posts h hs
  | none =>
    obtain ⟨hlink, hanswer⟩ := withoutDeferred_start hd hl
    have ha := alignAndAcquire_idle_posts (number := number) h hs
    have hx : startedOn number x.tb.role x = synced .acquire (begunIdle number x) := by
      simp only [startedOn, hlink, synced, begunIdle, setTimebase, hl]
    rw [hanswer]
    simp only [Option.isSome_none, Bool.false_eq_true, if_false, List.nil_append] at ha ⊢
    rw [hx]
    exact ha

/-! ### O44 -/

/-- A beacon on which a LOCKED master, or out of window a follower in ACQUIRE or HOLDOVER, aligns hard. -/
theorem realign_posts {x y : State} {l : Lane} {stamp : Stamp} {number : BitVec 6} {sender : Nat} (h : Posts [] [] x y)
    (hn : (x.spor.entries.map SporadicEntry.ticket).Nodup)
    (hs : (x.tb.sync = .locked ∧ x.tb.role = .master) ∨
      ((x.tb.sync = .acquire ∨ x.tb.sync = .holdover) ∧ inWindow y.cfg (phaseError y stamp) = false)) :
    Posts (alignAnswers x)
      ((if x.tb.sync = .locked then [conflictNotice l number sender x.tb.cycle] else []) ++ alignNotices number x ++
        if x.tb.sync = .acquire then [] else
          [syncNotice number x.tb.sync .acquire (if x.tb.sync = .locked then .follower else x.tb.role) (cycleByte number)])
      (realigned .acquire (if x.tb.sync = .locked then .follower else x.tb.role) number x)
      (actOnBeacon l stamp number sender y) := by
  unfold actOnBeacon
  rw [h.tb_eq]
  rcases hs with ⟨hs, hr⟩ | ⟨hs | hs, hw⟩
  · simp only [hs, hr, if_true, reduceCtorEq, if_false]
    exact conflictInLocked_posts h hs hn
  · simp only [hs, hw, if_true, reduceCtorEq, if_false, Bool.false_eq_true, List.nil_append, List.append_nil]
    exact hardAlign_acquire_posts h hs hn
  · simp only [hs, hw, reduceCtorEq, if_false, Bool.false_eq_true, List.nil_append]
    exact realignFromHoldover_posts h hn

theorem stoppedReceivers_took (l : Lane) (s : State) : stoppedReceivers (took l s) = stoppedReceivers (occupied l s) := by
  have htb : ({ s.tb with lastTaken := some s.now } : Timebase).offset = (occupied l s).tb.offset := rfl
  exact stoppedReceivers_beside htb

theorem cutQueue_took {l : Lane} {elapsed : Nat} {s : State} : cutQueue (took l (pass elapsed s)) = cutQueue s := by
  have hspor : (took l (pass elapsed s)).spor = s.spor := pass_spor
  have hlaunch : (took l (pass elapsed s)).launch = s.launch := pass_launch
  rw [cutQueue, cutQueue, hspor, hlaunch]

theorem withoutDeferred_queues (kind : DeferredKind) (k : Link) :
    (k.withoutDeferred kind).intake = k.intake ∧ (k.withoutDeferred kind).outbound = k.outbound := by
  unfold Link.withoutDeferred
  split
  · split <;> exact ⟨rfl, rfl⟩
  · exact ⟨rfl, rfl⟩

theorem realigned_queues (sync : Sync) (role : Role) (number : BitVec 6) (s : State) :
    (realigned sync role number s).link.intake = s.link.intake ∧
      (realigned sync role number s).link.outbound = s.link.outbound := by
  unfold realigned
  cases s.sched.commitPending with
  | true => exact withoutDeferred_queues .tcommit s.link
  | false => exact ⟨rfl, rfl⟩

section
variable {s : State} {l : Lane} {elapsed lead : Nat} {m : Message} {h1 h2 : Word}

@[simp] theorem took_link : (took l s).link = s.link := rfl
@[simp] theorem took_cfg : (took l s).cfg = s.cfg := rfl
@[simp] theorem took_sync : (took l s).tb.sync = s.tb.sync := rfl
@[simp] theorem took_role : (took l s).tb.role = s.tb.role := rfl
@[simp] theorem took_cycle : (took l s).tb.cycle = s.tb.cycle := rfl

/-- A beacon taken at a LOCKED master, or out of window in ACQUIRE or HOLDOVER. -/
theorem freeMessage_realigns (hi : s.link.intake = []) (ten : TenGroups s) (hp : canPass elapsed s = true)
    (hf : hearsFree (pass elapsed s) l lead m = true) (ht : isTwin (pass elapsed s) = false)
    (hc : freeCheckRight m = true) (hh : m.header = some (h1, h2)) (hb : freeIsBeacon h1 h2 = true)
    (hn : (s.spor.entries.map SporadicEntry.ticket).Nodup)
    (hs : (s.tb.sync = .locked ∧ s.tb.role = .master) ∨
      ((s.tb.sync = .acquire ∨ s.tb.sync = .holdover) ∧ ∃ e, PhaseErrorIs (pass elapsed s) e ∧
        (e < -(s.cfg.lockWindow : Int) ∨ (s.cfg.lockWindow : Int) < e))) :
    ∃ t, exec (.freeMessageEnd l elapsed ⟨lead, m⟩) s = .next t ∧ cycleMark t = true ∧
      Raised ((if s.tb.sync = .locked then
          [conflictNotice l (headerCycle h2) (headerSender h1) s.tb.cycle] else []) ++
        alignNotices (headerCycle h2) (took l (pass elapsed s)) ++
        if s.tb.sync = .acquire then [] else [syncNotice (headerCycle h2) s.tb.sync .acquire
          (if s.tb.sync = .locked then .follower else s.tb.role) (cycleByte (headerCycle h2))]) s t ∧
      Answers (alignAnswers (took l (pass elapsed s)))
        (realigned .acquire (if s.tb.sync = .locked then .follower else s.tb.role) (headerCycle h2)
          (took l (pass elapsed s))) s t := by
  obtain ⟨y, hy, hposts⟩ := freeMessage_taken hp hf ht hc hh hb
  have hspor : (took l (pass elapsed s)).spor = s.spor := pass_spor
  have hout : (s.tb.sync = .acquire ∨ s.tb.sync = .holdover) → (∃ e, PhaseErrorIs (pass elapsed s) e ∧
      (e < -(s.cfg.lockWindow : Int) ∨ (s.cfg.lockWindow : Int) < e)) →
      inWindow y.cfg (phaseError y (stampOf (pass elapsed s) ((pass elapsed s).now - 16))) = false := by
    rintro hsync ⟨e, he, hout⟩
    have hrun : (pass elapsed s).tb.sync.running = true := by
      rw [pass_sync]
      rcases hsync with h | h <;> rw [h] <;> rfl
    have herr : phaseError y (stampOf (pass elapsed s) ((pass elapsed s).now - 16)) = e :=
      (phaseError_taken hposts _).trans
        (phaseError_stampOf hrun (hearsFree_age hf (beacon_age hc hh hb)) he)
    rw [herr, hposts.cfg_eq, took_cfg, pass_cfg]
    exact inWindow_eq_false hout
  have hr := realign_posts (l := l) (number := headerCycle h2) (sender := headerSender h1)
    (stamp := stampOf (pass elapsed s) ((pass elapsed s).now - 16)) hposts (by rw [hspor]; exact hn)
    (by rw [took_sync, took_role, pass_sync, pass_role]; exact hs.imp id fun h => ⟨h.1, hout h.1 h.2⟩)
  simp only [took_sync, took_role, took_cycle, pass_sync, pass_role, pass_cycle] at hr
  obtain ⟨hi', ho'⟩ := realigned_queues .acquire (if s.tb.sync = .locked then .follower else s.tb.role) (headerCycle h2)
    (took l (pass elapsed s))
  rw [took_link, pass_link] at hi' ho'
  obtain ⟨t, ht, hposts', hraised, hanswers⟩ := answers_of_posts hy hr (hi'.trans hi) pass_notif ho' ten
  refine ⟨t, ht, ?_, hraised, hanswers⟩
  rw [cycleMark, hposts'.tb_eq, hposts'.now_eq]
  exact decide_eq_true (Nat.lt_add_of_pos_right (by decide))

/-- A beacon taken in LISTEN. -/
theorem freeMessage_starts (hi : s.link.intake = []) (ten : TenGroups s) (hp : canPass elapsed s = true)
    (hf : hearsFree (pass elapsed s) l lead m = true) (ht : isTwin (pass elapsed s) = false)
    (hc : freeCheckRight m = true) (hh : m.header = some (h1, h2)) (hb : freeIsBeacon h1 h2 = true)
    (hs : s.tb.sync = .listen) (hd : DeferredSound s) :
    ∃ t, exec (.freeMessageEnd l elapsed ⟨lead, m⟩) s = .next t ∧
      Raised ((if s.tb.startupListen.isSome then
          [conflictNotice l (headerCycle h2) (headerSender h1) s.tb.cycle] else []) ++
        [syncNotice (headerCycle h2) .listen .acquire (if s.tb.startupListen.isSome then .follower else s.tb.role)
          (cycleByte (headerCycle h2))]) s t ∧
      Answers (s.link.deferredAnswer .start .masterConflict)
        (startedOn (headerCycle h2) (if s.tb.startupListen.isSome then .follower else s.tb.role)
          (took l { s with now := s.now + elapsed })) s t := by
  have hpass : pass elapsed s = { s with now := s.now + elapsed } := pass_idle (by rw [hs]; rfl)
  obtain ⟨y, hy, hposts⟩ := freeMessage_taken hp hf ht hc hh hb
  rw [hpass] at hy hposts
  have hr := listen_posts (l := l) (number := headerCycle h2) (sender := headerSender h1)
    (stamp := stampOf { s with now := s.now + elapsed } (s.now + elapsed - 16)) hposts hs hd
  obtain ⟨hi', ho'⟩ := withoutDeferred_queues .start s.link
  obtain ⟨t, ht, -, hraised, hanswers⟩ := answers_of_posts hy hr (hi'.trans hi) rfl ho' ten
  exact ⟨t, ht, hraised, hanswers⟩

end

/-- Settles O44: the beacon is taken, and by the sync state the cycles begin or begin anew on it. -/
theorem beaconAlignsHard : Obligations.BeaconAlignsHard := by
  intro l elapsed lead m h1 h2 s hreset hi ten hp hf ht hc hh hb p number sender graded heard conflict
  refine ⟨fun hs hd hwin hlaunch => ?_, fun hn hs => ?_⟩
  · obtain ⟨t, ht, hraised, hanswers⟩ := freeMessage_starts hi ten hp hf ht hc hh hb hs hd
    have hpass : pass elapsed s = { s with now := s.now + elapsed } := pass_idle (by rw [hs]; rfl)
    refine ⟨t, ht, hraised, ?_⟩
    simp only [heard, p, hpass]
    exact hanswers
  · obtain ⟨t, ht, hmark, hraised, hanswers⟩ := freeMessage_realigns hi ten hp hf ht hc hh hb hn hs
    refine ⟨t, ht, hmark, ?_, ?_⟩
    · simp only [alignNotices, commitNotices, cutQueue_took] at hraised
      simp only [took, pass_sched, pass_lanes, pass_cfg, occupied, pass_recs, List.append_assoc] at hraised ⊢
      exact hraised
    · simp only [alignAnswers, realigned, alignedTimebase, pastCycles, stoppedReceivers_took, cutQueue_took] at hanswers
      simp only [took, pass_sched, pass_lanes, pass_cfg, occupied, pass_recs, pass_link, pass_spor, pass_bufs, pass_began,
        pass_length, pass_past, heard, p] at hanswers ⊢
      exact hanswers

end Sys2Proof.Machine
end

section
/-! The bus side as one invariant: what the window, the launch, the receivers, the lanes and the sporadic queue keep, and
that the shared operations keep it. -/
namespace Sys2Proof.Machine

/-! ### The part of the state that the bus side speaks of -/

/-- The fields on which the soundness of the bus side depends. -/
structure Bus where
  limit : Nat
  sync : Sync
  role : Role
  offset : Nat
  active : Bank
  window : Option Window
  lanes : PerLane LaneUnit
  launch : Option Launch
  rx : PerLane Receiver
  entries : List SporadicEntry
  now : Nat

/-- The bus side of a state. -/
def State.bus (s : State) : Bus :=
  { limit := s.cfg.debitLimit, sync := s.tb.sync, role := s.tb.role, offset := s.tb.offset, active := s.sched.active
    window := s.sched.window, lanes := s.lanes, launch := s.launch, rx := s.rx, entries := s.spor.entries, now := s.now }

/-- A state with this bus side. -/
def Bus.state (b : Bus) : State :=
  { State.held with
    cfg := { Params.default with debitLimit := b.limit }
    tb := { Timebase.reset with sync := b.sync, role := b.role, offset := b.offset }
    sched := { Schedule.reset with active := b.active, window := b.window }
    lanes := b.lanes, launch := b.launch, rx := b.rx, spor := ⟨b.entries, 0⟩, now := b.now }

/-- The bus side is sound, and enough is known of the clock and the queue for every command to keep it so: no window and no
launch without a running cycle (R21), and no two sporadic entries with one ticket (R109). -/
structure BusSound (s : State) : Prop where
  window : WindowSound s
  launch : LaunchSound s
  onAir : OnAirSound s
  receivers : ∀ l, ReceiverSound s.now (s.rx.get l)
  lanes : ∀ l, LaneSound s.cfg.debitLimit (s.lanes.get l)
  still : s.tb.sync.running = false → s.sched.window = none ∧ s.launch = none
  tickets : (s.spor.entries.map SporadicEntry.ticket).Nodup

theorem BusSound.of_inv {s : State} (h : Inv s) : BusSound s where
  window := h.window
  launch := h.launch
  onAir := h.onAir
  receivers l := by cases l with
    | A => exact h.receiverA
    | B => exact h.receiverB
  lanes l := by cases l with
    | A => exact h.laneA
    | B => exact h.laneB
  still hr := by
    obtain ⟨-, -, -, hw, hl⟩ := h.still hr
    exact ⟨hw, hl⟩
  tickets := by
    obtain ⟨-, -, -, ht, -⟩ := h.sporadic
    exact ht

/-- The soundness of the bus side is that of its part of the state. -/
theorem busSound_iff (s : State) : BusSound s ↔ BusSound s.bus.state :=
  ⟨fun h => ⟨h.window, h.launch, h.onAir, h.receivers, h.lanes, h.still, h.tickets⟩,
    fun h => ⟨h.window, h.launch, h.onAir, h.receivers, h.lanes, h.still, h.tickets⟩⟩

theorem BusSound.of_bus {s t : State} (h : BusSound s) (hb : t.bus = s.bus) : BusSound t := by
  rw [busSound_iff, hb]
  exact (busSound_iff s).1 h

/-- What is posted to the host does not touch the bus side. -/
theorem Posts.bus_eq {responses : List OutFrame} {notices : List Notice} {x t : State} (h : Posts responses notices x t) :
    t.bus = x.bus := by
  obtain ⟨n, new, r, rfl, -⟩ := h
  rfl

theorem Posts.sound {responses : List OutFrame} {notices : List Notice} {x t : State} (h : Posts responses notices x t)
    (hx : BusSound x) : BusSound t := hx.of_bus h.bus_eq

theorem Does.bus_eq {op f : State → State} {resp : State → List OutFrame} {said : State → List Notice}
    (d : Does op f resp said) (s : State) : (op s).bus = (f s).bus := (d.posts s).bus_eq

/-! ### Time (R17) -/

theorem ReceiverSound.later {now later : Nat} {r : Receiver} (h : ReceiverSound now r) (hl : now ≤ later) :
    ReceiverSound later r := by
  obtain ⟨hs, hf, hb, hx⟩ := h
  exact ⟨hs.trans hl, hf, hb.trans hl, fun x hxs => ⟨(hx x hxs).1, (hx x hxs).2.trans hl⟩⟩

theorem horizon_le_window {s : State} {w : Window} (h : s.sched.window = some w) : horizon s ≤ w.ends := by
  unfold horizon
  rw [h]
  cases s.launch with
  | none => exact Nat.min_le_right _ _
  | some x => exact (Nat.min_le_left _ _).trans (Nat.min_le_right _ _)

theorem horizon_le_launch {s : State} {x : Launch} (h : s.launch = some x) : horizon s ≤ x.ends := by
  unfold horizon
  rw [h]
  exact Nat.min_le_right _ _

theorem reaches_iff (s : State) (m : Nat) :
    reaches s m = true ↔ s.tb.sync.running = true ∧ s.tb.offset ≤ m ∧ m ≤ horizon s := by
  simp [reaches, and_assoc]

theorem BusSound.passTo {s : State} {m : Nat} (h : BusSound s) (hr : reaches s m = true) : BusSound (passTo m s) := by
  obtain ⟨-, hlo, hhi⟩ := (reaches_iff s m).1 hr
  refine ⟨fun w hw => ?_, fun x hx => ?_, h.onAir, fun l => (h.receivers l).later (Nat.le_add_right _ _), h.lanes, h.still,
    h.tickets⟩
  · obtain ⟨hat, hin, hstart, -, hrole, hheld⟩ := h.window w hw
    exact ⟨hat, hin, hstart.trans hlo, hhi.trans (horizon_le_window hw), hrole, hheld⟩
  · obtain ⟨hsync, hair, hactive, hstart, -, hbeacon⟩ := h.launch x hx
    exact ⟨hsync, hair, hactive, hstart.trans hlo, hhi.trans (horizon_le_launch hx), hbeacon⟩

/-- With neither window nor launch the clock may stand anywhere. -/
theorem BusSound.clock {s : State} (h : BusSound s) (hw : s.sched.window = none) (hl : s.launch = none) (tb : Timebase)
    {now : Nat} (hn : s.now ≤ now) : BusSound { s with tb := tb, now := now } :=
  ⟨by simp [WindowSound, hw], by simp [LaunchSound, hl], h.onAir, fun l => (h.receivers l).later hn, h.lanes,
    fun _ => ⟨hw, hl⟩, h.tickets⟩

/-- A running cycle's sync state and role change, and its offset does not. -/
theorem BusSound.timebase {s : State} (h : BusSound s) {tb : Timebase} (ho : tb.offset = s.tb.offset)
    (hr : tb.sync.running = true)
    (hl : ∀ x ∈ s.launch, (tb.sync = .locked ∨ tb.sync = .holdover) ∧
      (x.kind = .beacon → tb.role = .master ∧ tb.sync = .locked)) : BusSound (setTimebase tb s) := by
  refine ⟨fun w hw => ?_, fun x hx => ?_, h.onAir, h.receivers, h.lanes, fun hn => ?_, h.tickets⟩
  · obtain ⟨hat, hin, hstart, hend, hrole, hheld⟩ := h.window w hw
    exact ⟨hat, hin, ho ▸ hstart, ho ▸ hend, hrole, hheld⟩
  · obtain ⟨-, hair, hactive, hstart, hend, hbeacon⟩ := h.launch x hx
    obtain ⟨hsync, hkind⟩ := hl x hx
    exact ⟨hsync, hair, hactive, ho ▸ hstart, ho ▸ hend, fun hk => ⟨(hbeacon hk).1, hkind hk⟩⟩
  · change tb.sync.running = false at hn
    rw [hr] at hn
    cases hn

/-! ### Receivers (R10) -/

theorem ReceiverSound.abandon {now : Nat} {r : Receiver} (h : ReceiverSound now r) : ReceiverSound now (r.abandon now) := by
  have ⟨hs, _, hb, hx⟩ := h
  unfold Receiver.abandon
  split
  · exact ⟨hs, hb, Nat.le_refl _, hx⟩
  · exact h

theorem ReceiverSound.resume {now : Nat} {r : Receiver} (h : ReceiverSound now r) : ReceiverSound now (r.resume now) := by
  have ⟨hs, _, _, hx⟩ := h
  unfold Receiver.resume
  split
  · exact ⟨hs, Nat.le_refl _, Nat.le_refl _, hx⟩
  · exact h

theorem ReceiverSound.listen {now : Nat} {r : Receiver} (h : ReceiverSound now r) : ReceiverSound now (r.listen now) := by
  obtain ⟨-, hf, hb, hx⟩ := h
  exact ⟨Nat.le_refl _, hf, hb, hx⟩

theorem ReceiverSound.occupy {now : Nat} {r : Receiver} (h : ReceiverSound now r) : ReceiverSound now (r.occupy now) := by
  obtain ⟨hs, -, -, hx⟩ := h
  exact ⟨hs, Nat.le_refl _, Nat.le_refl _, hx⟩

theorem ReceiverSound.close {now : Nat} {r : Receiver} {x : Span} (h : ReceiverSound now r) (ho : x.opened ≤ now)
    (hc : x.closed = now) : ReceiverSound now (r.close now x) := by
  obtain ⟨hs, hf, hb, hx⟩ := h
  refine ⟨hs, hf, hb, fun y hy => ?_⟩
  rcases List.mem_cons.1 hy with rfl | hy
  · exact ⟨hc ▸ ho, hc.le⟩
  · exact hx y (List.mem_of_mem_filter hy)

/-- A change of receivers that keeps each of them sound. -/
theorem BusSound.withReceivers {s : State} (h : BusSound s) {rx : PerLane Receiver}
    (hr : ∀ l, ReceiverSound s.now (rx.get l)) : BusSound { s with rx := rx } :=
  ⟨h.window, h.launch, h.onAir, hr, h.lanes, h.still, h.tickets⟩

theorem receivers_on {now : Nat} {rx : PerLane Receiver} (h : ∀ l, ReceiverSound now (rx.get l)) (lanes : LaneSet)
    {f : Receiver → Receiver} (hf : ∀ r, ReceiverSound now r → ReceiverSound now (f r)) (l : Lane) :
    ReceiverSound now ((rx.on lanes f).get l) := by
  rw [get_on]
  split
  · exact hf _ (h l)
  · exact h l

theorem receivers_update {now : Nat} {rx : PerLane Receiver} (h : ∀ l, ReceiverSound now (rx.get l)) (k : Lane)
    {f : Receiver → Receiver} (hf : ∀ r, ReceiverSound now r → ReceiverSound now (f r)) (l : Lane) :
    ReceiverSound now ((rx.update k f).get l) := by
  rw [update_eq_set]
  by_cases hl : l = k
  · rw [hl, get_set_same]
    exact hf _ (h k)
  · rw [get_set_other hl]
    exact h l

/-! ### Lane units (R84) -/

/-- A lane unit takes new values: those of a lane that listens are ACTIVE or PROBATION, of one that sends ACTIVE. -/
theorem BusSound.withUnit {s : State} {l : Lane} {u : LaneUnit} (h : BusSound s) (hu : LaneSound s.cfg.debitLimit u)
    (hheld : ∀ w ∈ s.sched.window, w.role.holds.has l = true → u.state = .active ∨ u.state = .probation)
    (hair : ∀ x ∈ s.launch, x.onAir.has l = true → u.state = .active) : BusSound (setUnit l u s) := by
  refine ⟨fun w hw => ?_, fun x hx => ?_, h.onAir, h.receivers, fun k => ?_, h.still, h.tickets⟩
  · obtain ⟨hat, hin, hstart, hend, hrole, hk⟩ := h.window w hw
    refine ⟨hat, hin, hstart, hend, hrole, fun k hmem hhas => ?_⟩
    by_cases hkl : k = l
    · rw [hkl] at hhas ⊢
      rw [setUnit_get]
      exact hheld w hw hhas
    · have : (setUnit l u s).lanes.get k = s.lanes.get k := get_set_other hkl _ _
      rw [this]
      exact hk k hmem hhas
  · obtain ⟨hsync, hne, hactive, hstart, hend, hbeacon⟩ := h.launch x hx
    refine ⟨hsync, hne, fun k hmem hhas => ?_, hstart, hend, hbeacon⟩
    by_cases hkl : k = l
    · rw [hkl] at hhas ⊢
      rw [setUnit_get]
      exact hair x hx hhas
    · have : (setUnit l u s).lanes.get k = s.lanes.get k := get_set_other hkl _ _
      rw [this]
      exact hactive k hmem hhas
  · by_cases hkl : k = l
    · rw [hkl, setUnit_get]
      exact hu
    · have : (setUnit l u s).lanes.get k = s.lanes.get k := get_set_other hkl _ _
      rw [this]
      exact h.lanes k

theorem mem_lanes (l : Lane) : l ∈ [Lane.A, Lane.B] := by cases l <;> simp

/-- A lane that listens is ACTIVE or PROBATION. -/
theorem BusSound.held_state {s : State} (h : BusSound s) {w : Window} (hw : w ∈ s.sched.window) {l : Lane}
    (hl : w.role.holds.has l = true) : (s.lanes.get l).state = .active ∨ (s.lanes.get l).state = .probation := by
  obtain ⟨-, -, -, -, -, hk⟩ := h.window w hw
  exact hk l (mem_lanes l) hl

/-- A lane on the air is ACTIVE (R86). -/
theorem BusSound.onAir_state {s : State} (h : BusSound s) {x : Launch} (hx : x ∈ s.launch) {l : Lane}
    (hl : x.onAir.has l = true) : (s.lanes.get l).state = .active := by
  obtain ⟨-, -, hactive, -⟩ := h.launch x hx
  exact hactive l (mem_lanes l) hl

/-- New values that keep the lane's state. -/
theorem BusSound.withCounts {s : State} {l : Lane} {u : LaneUnit} (h : BusSound s) (hu : LaneSound s.cfg.debitLimit u)
    (hs : u.state = (s.lanes.get l).state) : BusSound (setUnit l u s) :=
  h.withUnit hu (fun _ hw hl => hs ▸ h.held_state hw hl) fun _ hx hl => hs ▸ h.onAir_state hx hl

/-- New values of a lane that neither listens nor sends. -/
theorem BusSound.withFree {s : State} {l : Lane} {u : LaneUnit} (h : BusSound s) (hu : LaneSound s.cfg.debitLimit u)
    (hheld : ∀ w ∈ s.sched.window, w.role.holds.has l = false) (hair : ∀ x ∈ s.launch, x.onAir.has l = false) :
    BusSound (setUnit l u s) :=
  h.withUnit hu (fun w hw hl => by rw [hheld w hw] at hl; cases hl) fun x hx hl => by rw [hair x hx] at hl; cases hl

/-- A lane OFF neither listens nor sends. -/
theorem BusSound.off_free {s : State} {l : Lane} (h : BusSound s)
    (hs : (s.lanes.get l).state = .faulted ∨ (s.lanes.get l).state = .disabled) :
    (∀ w ∈ s.sched.window, w.role.holds.has l = false) ∧ ∀ x ∈ s.launch, x.onAir.has l = false := by
  refine ⟨fun w hw => ?_, fun x hx => ?_⟩
  · rw [Bool.eq_false_iff]
    intro hl
    have := h.held_state hw hl
    rcases hs with hs | hs <;> rw [hs] at this <;> simp at this
  · rw [Bool.eq_false_iff]
    intro hl
    have := h.onAir_state hx hl
    rcases hs with hs | hs <;> rw [hs] at this <;> cases this

theorem LaneSound.fresh (limit : Nat) (st : LaneState) : LaneSound limit (LaneUnit.fresh st) :=
  ⟨Nat.zero_le _, Nat.zero_le _, Nat.zero_le _, fun _ => rfl, fun _ => ⟨rfl, rfl⟩, fun _ => rfl⟩

theorem LaneSound.faultedAt (limit : Nat) : LaneSound limit (LaneUnit.faultedAt limit) :=
  ⟨Nat.le_refl _, Nat.zero_le _, Nat.zero_le _, fun _ => rfl, fun _ => ⟨rfl, rfl⟩, fun h => by cases h⟩

/-! ### A launch cut, a lane that leaves, a window abandoned (R9, R10, R57) -/

section
variable (s t : LaneSet) (k l : Lane)

@[simp] theorem has_minus : (s.minus t).has l = (s.has l && !t.has l) := by cases l <;> rfl
@[simp] theorem has_union : (s.union t).has l = (s.has l || t.has l) := by cases l <;> rfl
@[simp] theorem has_inter : (s.inter t).has l = (s.has l && t.has l) := by cases l <;> rfl
@[simp] theorem has_single : (LaneSet.single k).has l = decide (k = l) := by cases k <;> cases l <;> rfl
@[simp] theorem has_none : LaneSet.none.has l = false := by cases l <;> rfl
@[simp] theorem has_both : LaneSet.both.has l = true := by cases l <;> rfl

end

/-- The role of the entries whose windows have this context. -/
def WindowRole.entryRole : WindowRole → EntryRole
  | .send .. => .send
  | .openSlot .. => .openSlot
  | .expect .. => .expect
  | .quiet .. => .quiet

/-- The open window, with its context's kind spelled as a role. -/
theorem windowSound_iff (s : State) : WindowSound s ↔ ∀ w ∈ s.sched.window,
    s.sched.active.entryAt w.position = some w.entry ∧ w.entry.activeIn w.cycle = true ∧
      w.entry.start ≤ s.tb.offset ∧ s.tb.offset ≤ w.ends ∧ w.role.entryRole = w.entry.role ∧ HeldLanesSound s w := by
  refine forall₂_congr fun w hw => ?_
  cases hr : w.role <;> cases he : w.entry.role <;> simp [WindowRole.entryRole]

/-- The open window keeps its entry while its context changes to one of the same kind that holds no lane more. -/
theorem WindowSound.withRole {s : State} {f : WindowRole → WindowRole} (h : WindowSound s)
    (hk : ∀ r, (f r).entryRole = r.entryRole) (hh : ∀ r l, (f r).holds.has l = true → r.holds.has l = true) :
    WindowSound { s with sched := { s.sched with window := s.sched.window.map fun w => { w with role := f w.role } } } := by
  rw [windowSound_iff] at h ⊢
  intro w hw
  obtain ⟨v, hv, rfl⟩ := Option.map_eq_some_iff.1 hw
  obtain ⟨hat, hin, hstart, hend, hrole, hheld⟩ := h v hv
  exact ⟨hat, hin, hstart, hend, (hk _).trans hrole, fun l hl hhas => hheld l hl (hh _ _ hhas)⟩

theorem launched_entryRole (r : WindowRole) (l : LaunchState) : (r.launched l).entryRole = r.entryRole := by cases r <;> rfl
theorem launched_holds (r : WindowRole) (l : LaunchState) : (r.launched l).holds = r.holds := by cases r <;> rfl

/-- A context that records the launch as cut or ended has none in progress. -/
theorem launched_launching (r : WindowRole) {l : LaunchState} (h : l ≠ .inProgress) : (r.launched l).launching = none := by
  cases l with
  | inProgress => exact absurd rfl h
  | notLaunched => cases r <;> rfl
  | cut => cases r <;> rfl
  | ended => cases r <;> rfl

theorem without_entryRole (r : WindowRole) (l : Lane) : (r.without l).entryRole = r.entryRole := by cases r <;> rfl
theorem without_launching (r : WindowRole) (l : Lane) : (r.without l).launching = r.launching := by cases r <;> rfl

/-- A lane that abandons the window is held no longer; the other lanes are as before (R10). -/
theorem without_holds (r : WindowRole) (l k : Lane) :
    (r.without l).holds.has k = (r.holds.has k && !decide (l = k)) := by
  have hleft (taking left : LaneSet) : (taking.minus (left.union (taking.inter (LaneSet.single l)))).has k =
      ((taking.minus left).has k && !decide (l = k)) := by
    simp only [has_minus, has_union, has_inter, has_single]
    cases taking.has k <;> simp
  cases r with
  | send | openSlot => simp [WindowRole.without, WindowRole.holds]
  | expect taking _ left | quiet taking _ left _ => exact hleft taking left

/-- The window, the launch and the queue agree once no launch is in progress any more. -/
theorem OnAirSound.released {t : State} (hl : t.launch = none)
    (hw : t.sched.window.bind (fun w => w.role.launching) = none) (hn : t.spor.entries.countP SporadicEntry.onAir = 0) :
    OnAirSound t := by
  unfold OnAirSound
  rw [hl]
  exact ⟨hw, hn⟩

/-- With a launch in progress the window and the queue say which. -/
theorem OnAirSound.launched {t : State} {x : Launch} (hl : t.launch = some x)
    (hw : t.sched.window.bind (fun w => w.role.launching) = if x.kind = .beacon then none else some x.kind)
    (hn : t.spor.entries.countP SporadicEntry.onAir = if x.kind = .sporadic then 1 else 0) : OnAirSound t := by
  unfold OnAirSound
  rw [hl]
  simpa using ⟨hw, hn⟩

theorem onAir_idle {s : State} (h : OnAirSound s) (hl : s.launch = none) :
    s.sched.window.bind (fun w => w.role.launching) = none ∧ s.spor.entries.countP SporadicEntry.onAir = 0 := by
  unfold OnAirSound at h
  rw [hl] at h
  exact h

theorem onAir_launch {s : State} {x : Launch} (h : OnAirSound s) (hl : s.launch = some x) :
    s.sched.window.bind (fun w => w.role.launching) = (if x.kind = .beacon then none else some x.kind) ∧
      s.spor.entries.countP SporadicEntry.onAir = (if x.kind = .sporadic then 1 else 0) := by
  unfold OnAirSound at h
  rw [hl] at h
  simpa using h

theorem requeue_onAir (q : SporadicQueue) : q.requeue.entries.countP SporadicEntry.onAir = 0 := by
  rw [List.countP_eq_zero]
  intro e he
  obtain ⟨f, -, rfl⟩ := List.mem_map.1 he
  simp

theorem requeue_tickets (q : SporadicQueue) :
    q.requeue.entries.map SporadicEntry.ticket = q.entries.map SporadicEntry.ticket := by
  simp only [SporadicQueue.requeue, List.map_map]
  rfl

theorem window_launched_launching (w : Option Window) {l : LaunchState} (h : l ≠ .inProgress) :
    (w.map fun w => { w with role := w.role.launched l }).bind (fun w => w.role.launching) = none := by
  cases w with
  | none => rfl
  | some w => exact launched_launching w.role h

/-- The lanes of a launch that a cut leaves on the air. -/
theorem onAir_cut (x : Launch) (lanes : LaneSet) (l : Lane) :
    ({ x with cut := x.cut.union (x.lanes.inter lanes) } : Launch).onAir.has l = (x.onAir.has l && !lanes.has l) := by
  simp only [Launch.onAir, has_minus, has_union, has_inter]
  cases x.lanes.has l <;> simp

theorem BusSound.cutLaunch {s : State} (h : BusSound s) (lanes : LaneSet) : BusSound (cutLaunch lanes s) := by
  rcases cutLaunch_cases lanes s with ⟨-, hc⟩ | ⟨x, hx, ⟨hne, hc⟩ | ⟨-, hc⟩⟩
  · rwa [hc]
  · rw [hc]
    have hb := h.withReceivers (receivers_on h.receivers (x.onAir.inter lanes) fun _ hr => hr.resume)
    obtain ⟨hsync, -, hactive, hstart, hend, hbeacon⟩ := h.launch x hx
    refine ⟨hb.window, fun y hy => ?_, ?_, hb.receivers, hb.lanes, fun hr => ?_, hb.tickets⟩
    · obtain rfl := Option.some.inj hy
      refine ⟨hsync, hne, fun l hl hhas => hactive l hl ?_, hstart, hend, hbeacon⟩
      rw [onAir_cut, Bool.and_eq_true] at hhas
      exact hhas.1
    · have := h.onAir
      unfold OnAirSound at this ⊢
      rw [hx] at this
      exact this
    · have := (h.still hr).2
      rw [hx] at this
      cases this
  · rw [hc]
    obtain ⟨hwin, hcount⟩ := onAir_launch h.onAir hx
    have hrx := receivers_on h.receivers (x.onAir.inter lanes) fun _ hr => hr.resume
    by_cases hk : x.kind = .beacon
    · rw [if_pos hk, if_neg (by rw [hk]; decide)]
      rw [if_pos hk] at hwin
      rw [if_neg (by rw [hk]; decide)] at hcount
      exact ⟨h.window, fun _ hy => (nomatch hy), .released rfl hwin hcount, hrx, h.lanes, fun hr => ⟨(h.still hr).1, rfl⟩,
        h.tickets⟩
    · rw [if_neg hk]
      have hwindow := WindowSound.withRole (s := s) h.window (f := fun r => r.launched .cut) (fun r => launched_entryRole r .cut)
        fun r l => by rw [launched_holds]; exact id
      have hspor : (if x.kind = .sporadic then s.spor.requeue else s.spor).entries.countP SporadicEntry.onAir = 0 := by
        split
        · exact requeue_onAir _
        next hs => rwa [if_neg hs] at hcount
      have htickets : ((if x.kind = .sporadic then s.spor.requeue else s.spor).entries.map SporadicEntry.ticket).Nodup := by
        split
        · rw [requeue_tickets]
          exact h.tickets
        · exact h.tickets
      refine ⟨hwindow, fun _ hy => (nomatch hy), .released rfl (window_launched_launching _ (by decide)) hspor, hrx, h.lanes,
        fun hr => ⟨?_, rfl⟩, htickets⟩
      exact Option.map_eq_none_iff.2 (h.still hr).1

/-- After a cut, none of its lanes is on the air. -/
theorem cutLaunch_onAir {lanes : LaneSet} {l : Lane} (hl : lanes.has l = true) (s : State) :
    ∀ x ∈ (cutLaunch lanes s).launch, x.onAir.has l = false := by
  intro y hy
  rcases cutLaunch_cases lanes s with ⟨hn, hc⟩ | ⟨x, hx, ⟨-, hc⟩ | ⟨-, hc⟩⟩
  · rw [hc, hn] at hy
    cases hy
  · rw [hc] at hy
    obtain rfl := Option.some.inj hy
    rw [onAir_cut, hl, Bool.not_true, Bool.and_false]
  · rw [hc] at hy
    cases hy

/-- The open window's context changes to one of the same kind, with the same launch, that holds no lane more. -/
theorem BusSound.withRole {s : State} (h : BusSound s) {f : WindowRole → WindowRole}
    (hk : ∀ r, (f r).entryRole = r.entryRole) (hl : ∀ r, (f r).launching = r.launching)
    (hh : ∀ r l, (f r).holds.has l = true → r.holds.has l = true) : BusSound { s with
      sched := { s.sched with window := s.sched.window.map fun w => { w with role := f w.role } } } := by
  have hlaunching : (s.sched.window.map fun w => { w with role := f w.role }).bind (fun w => w.role.launching) =
      s.sched.window.bind fun w => w.role.launching := by
    cases s.sched.window with
    | none => rfl
    | some w => exact hl w.role
  refine ⟨WindowSound.withRole (s := s) h.window hk hh, fun x hx => ?_, ?_, h.receivers, h.lanes, fun hr => ?_, h.tickets⟩
  · obtain ⟨hsync, hne, hactive, hstart, hend, hbeacon⟩ := h.launch x hx
    exact ⟨hsync, hne, hactive, hstart, hend, fun hk => ⟨Option.map_eq_none_iff.2 (hbeacon hk).1, (hbeacon hk).2⟩⟩
  · have := h.onAir
    unfold OnAirSound at this ⊢
    rw [hlaunching]
    exact this
  · exact ⟨Option.map_eq_none_iff.2 (h.still hr).1, (h.still hr).2⟩

/-- A lane abandons the window it listens or watches in (R10). -/
theorem BusSound.withoutLane {s : State} (h : BusSound s) (l : Lane) : BusSound { s with
    sched := { s.sched with window := s.sched.window.map fun w => { w with role := w.role.without l } } } :=
  h.withRole (f := fun r => r.without l) (fun r => without_entryRole r l) (fun r => without_launching r l) fun r k hk => by
    rw [without_holds, Bool.and_eq_true] at hk
    exact hk.1

/-- A lane that has left neither listens nor sends, and nothing that was sound is not (R9, R10). -/
theorem BusSound.laneLeaves {s : State} (h : BusSound s) (l : Lane) :
    BusSound (laneLeaves l s) ∧ (∀ w ∈ (laneLeaves l s).sched.window, w.role.holds.has l = false) ∧
      ∀ x ∈ (laneLeaves l s).launch, x.onAir.has l = false := by
  refine ⟨(h.cutLaunch (LaneSet.single l)).withoutLane l, fun w hw => ?_, cutLaunch_onAir (by simp) s⟩
  obtain ⟨v, -, rfl⟩ := Option.map_eq_some_iff.1 hw
  simp [without_holds]

/-- The receivers of a window that ends remember its span, which began in the past. -/
theorem windowReceivers_sound {s : State} (hw : WindowSound s) (hr : ∀ l, ReceiverSound s.now (s.rx.get l)) (l : Lane) :
    ReceiverSound s.now ((windowReceivers s).get l) := by
  unfold windowReceivers
  split
  next w hsome =>
    obtain ⟨-, -, hstart, -⟩ := hw w hsome
    have hopened : s.now + w.entry.start - s.tb.offset ≤ s.now := by omega
    exact receivers_on hr _ (fun _ hr => hr.close hopened rfl) l
  next => exact hr l

/-- The open window is abandoned, or ends, with no launch in progress (R55, R57). -/
theorem BusSound.abandonWindow {s : State} (h : BusSound s) (hl : s.launch = none) : BusSound (abandonWindow s) :=
  ⟨fun _ hw => (nomatch hw), fun x hx => by simp [hl] at hx, .released hl rfl (onAir_idle h.onAir hl).2,
    windowReceivers_sound (s := s) h.window h.receivers, h.lanes, fun _ => ⟨rfl, hl⟩, h.tickets⟩

theorem BusSound.stopped {s : State} (h : BusSound s) : BusSound (stopped s) :=
  (h.cutLaunch LaneSet.both).abandonWindow (cutLaunch_both s).1

theorem stopped_idle (s : State) : (stopped s).sched.window = none ∧ (stopped s).launch = none := by
  rw [stopped_eq]
  exact ⟨rfl, rfl⟩

end Sys2Proof.Machine
end

section
/-! The blocks' operations keep the bus side sound: outcomes and echoes, the reactions to a cycle-start event, the sporadic
queue, window starts and launches. -/
namespace Sys2Proof.Machine

/-! ### Outcomes and echoes (R91 to R95) -/

section
variable {s : State} {l : Lane} {u : LaneUnit} {limit : Nat}

/-- A lane that leaves takes new values. -/
theorem BusSound.leavesWith (h : BusSound s) (hu : LaneSound s.cfg.debitLimit u) : BusSound (setUnit l u (Machine.laneLeaves l s)) := by
  obtain ⟨hl, hheld, hair⟩ := h.laneLeaves l
  exact hl.withFree (by rwa [laneLeaves_cfg]) hheld hair

theorem LaneSound.credit (h : LaneSound limit u) : LaneSound limit { u with debit := u.debit - 1 } := by
  obtain ⟨hd, hh, hc, hf, hp, hz⟩ := h
  exact ⟨(Nat.sub_le _ _).trans hd, hh, hc, hf, hp, fun hs => by simp [hz hs]⟩

theorem LaneSound.charged {amount : Nat} (h : LaneSound limit u) (hs : u.state = .active) :
    LaneSound limit (u.charged limit amount) := by
  obtain ⟨-, hh, hc, hf, hp, -⟩ := h
  unfold LaneUnit.charged
  split
  · exact .faultedAt limit
  next hd => exact ⟨Nat.le_of_lt (Nat.lt_of_not_le hd), hh, hc, hf, hp, fun hq => by rw [hs] at hq; cases hq⟩

theorem LaneSound.marked (h : LaneSound limit u) (hs : u.state = .probation) : LaneSound limit { u with good := true } := by
  obtain ⟨hd, hh, hc, hf, -, hz⟩ := h
  exact ⟨hd, hh, hc, hf, fun hn => absurd hs hn, hz⟩

theorem LaneSound.after (h : LaneSound limit u) (o : Outcome) (proved : Bool) : LaneSound limit (u.after limit o proved) := by
  rw [after_eq]
  split
  next hs =>
    split
    · exact h.credit
    · split
      · exact h.charged hs
      · exact h
  next =>
    split
    next hs =>
      split
      · exact h.marked hs
      · split
        · exact .faultedAt limit
        · exact h
    next => exact h

theorem LaneSound.afterEcho (h : LaneSound limit u) (o : Outcome) : LaneSound limit (u.afterEcho limit o) := by
  rw [afterEcho_eq]
  split
  next hs =>
    split
    · exact h.credit
    · split
      · exact h.charged hs
      · exact h
  next => exact h

theorem charged_state (u : LaneUnit) (limit amount : Nat) :
    (u.charged limit amount).state = u.state ∨ (u.charged limit amount).state = .faulted := by
  unfold LaneUnit.charged
  split
  · exact .inr rfl
  · exact .inl rfl

/-- An outcome faults the lane or keeps its state (R91, R97). -/
theorem after_state (u : LaneUnit) (limit : Nat) (o : Outcome) (proved : Bool) :
    (u.after limit o proved).state = u.state ∨ (u.after limit o proved).state = .faulted := by
  rw [after_eq]
  split_ifs
  · exact .inl rfl
  · exact charged_state u limit 2
  · exact .inl rfl
  · exact .inl rfl
  · exact .inr rfl
  · exact .inl rfl
  · exact .inl rfl

theorem BusSound.graded (h : BusSound s) (l : Lane) (o : Outcome) (proved : Bool) : BusSound (Machine.graded l o proved s) := by
  have hu := (h.lanes l).after o proved
  unfold Machine.graded
  split
  next => exact h.leavesWith hu
  next hf =>
    refine h.withCounts hu ?_
    rcases after_state (s.lanes.get l) s.cfg.debitLimit o proved with hs | hs
    · exact hs
    · have : (s.lanes.get l).state = .faulted := by
        simpa [LaneUnit.faults, hs] using hf
      rw [hs, this]

theorem BusSound.gradeOutcome (h : BusSound s) (l : Lane) (o : Outcome) (proved : Bool) (position : Option Nat)
    (cycle : BitVec 6) : BusSound (Machine.gradeOutcome l o proved position cycle s) :=
  ((gradeOutcome_does l o proved position cycle).posts s).sound (h.graded l o proved)

theorem afterEcho_state {o : Outcome} (hf : ¬(u.state = .active ∧ o = .echoFault ∧ limit ≤ u.debit + 4)) :
    (u.afterEcho limit o).state = u.state := by
  rw [afterEcho_eq]
  split_ifs with hs hok hfault
  · rfl
  · unfold LaneUnit.charged
    rw [if_neg fun hd => hf ⟨hs, hfault, hd⟩]
  · rfl
  · rfl

theorem BusSound.echoed (h : BusSound s) (l : Lane) (o : Outcome) : BusSound (Machine.echoed l o s) := by
  have hu := (h.lanes l).afterEcho o
  unfold Machine.echoed
  split
  next => exact h.leavesWith hu
  next hf => exact h.withCounts hu (afterEcho_state hf)

end

/-! ### The lane units at a cycle-start event (R96, R98) -/

section
variable {s : State} {u : LaneUnit} {limit : Nat}

theorem LaneSound.held (h : LaneSound limit u) (hs : u.state = .faulted) : LaneSound limit u.held := by
  obtain ⟨hd, -, hc, -, hp, hz⟩ := h
  exact ⟨hd, Nat.min_le_left _ _, hc, fun hn => absurd hs hn, hp, hz⟩

theorem LaneSound.judged (h : LaneSound limit u) (hs : u.state = .probation) : LaneSound limit u.judged := by
  obtain ⟨hd, hh, hc, hf, -, hz⟩ := h
  refine ⟨hd, hh, ?_, hf, fun hn => absurd hs hn, hz⟩
  unfold LaneUnit.judged
  dsimp only
  split
  · exact Nat.min_le_left _ _
  · exact hc

/-- A lane OFF enters PROBATION and listens from now on (R10, R97). -/
theorem BusSound.readmit (h : BusSound s) {l : Lane}
    (hs : (s.lanes.get l).state = .faulted ∨ (s.lanes.get l).state = .disabled) : BusSound (Machine.readmit l s) := by
  obtain ⟨hheld, hair⟩ := h.off_free hs
  exact (h.withReceivers (receivers_update h.receivers l fun _ hr => hr.listen)).withFree (.fresh _ _) hheld hair

/-- A PROBATION lane becomes ACTIVE (R98). -/
theorem BusSound.promoted (h : BusSound s) (l : Lane) :
    BusSound (setUnit l (LaneUnit.fresh .active) s) :=
  h.withUnit (.fresh _ _) (fun _ _ _ => .inl rfl) fun _ _ _ => rfl

theorem BusSound.enterProbation (h : BusSound s) {l : Lane} (cause : LaneCause)
    (hs : (s.lanes.get l).state = .faulted ∨ (s.lanes.get l).state = .disabled) : BusSound (Machine.enterProbation l cause s) :=
  ((enterProbation_does l cause).posts s).sound (h.readmit hs)

theorem BusSound.promoteLane (h : BusSound s) (l : Lane) :
    BusSound (Machine.promoteLane l s) := ((promoteLane_does l).posts s).sound (h.promoted l)

theorem BusSound.laneCycleStart (h : BusSound s) (l : Lane) : BusSound (Machine.laneCycleStart l s) := by
  cases hs : (s.lanes.get l).state with
  | active => rwa [laneCycleStart_other (.inl hs)]
  | disabled => rwa [laneCycleStart_other (.inr hs)]
  | faulted =>
    rw [laneCycleStart_faulted hs]
    have hu : BusSound (setUnit l (s.lanes.get l).held s) := h.withCounts ((h.lanes l).held hs) rfl
    split
    · exact hu.enterProbation _ (.inl (by rw [setUnit_get]; exact hs))
    · exact hu
  | probation =>
    rw [laneCycleStart_probation hs]
    have hu : BusSound (setUnit l (s.lanes.get l).judged s) := h.withCounts ((h.lanes l).judged hs) rfl
    split
    · exact hu.promoteLane l
    · exact hu

end

/-! ### The sporadic queue (R108 to R119) -/

section
variable {s : State}

/-- The queue changes, with as many entries on the air as before, and no ticket twice. -/
theorem BusSound.withQueue (h : BusSound s) {q : SporadicQueue}
    (hn : q.entries.countP SporadicEntry.onAir = s.spor.entries.countP SporadicEntry.onAir)
    (ht : (q.entries.map SporadicEntry.ticket).Nodup) : BusSound { s with spor := q } := by
  refine ⟨h.window, h.launch, ?_, h.receivers, h.lanes, h.still, ht⟩
  have := h.onAir
  unfold OnAirSound at this ⊢
  rw [hn]
  exact this

/-- Entries that are not on the air leave the queue. -/
theorem BusSound.withoutEntries (h : BusSound s) {p : SporadicEntry → Bool}
    (hp : ∀ e ∈ s.spor.entries, e.onAir = true → p e = true) :
    BusSound { s with spor := { s.spor with entries := s.spor.entries.filter p } } := by
  refine h.withQueue ?_ (h.tickets.sublist (List.filter_sublist.map _))
  rw [List.countP_filter]
  refine List.countP_congr fun e he => ?_
  simp only [Bool.and_eq_true, and_iff_left_iff_imp]
  exact hp e he

theorem BusSound.filed (h : BusSound s) (r : Record) : BusSound (filed r s) := h.of_bus rfl

theorem BusSound.expireDue (h : BusSound s) : BusSound (expireDue s) :=
  (expireDue_posts h.tickets).sound
    ((h.withoutEntries (p := fun e => e.onAir || e.life != 0) fun _ _ he => by rw [he, Bool.true_or]).of_bus rfl)

theorem BusSound.older (h : BusSound s) : BusSound (older s) := by
  refine h.withQueue ?_ (by rw [show s.spor.older = (Machine.older s).spor from rfl, older_tickets]; exact h.tickets)
  rw [SporadicQueue.older, List.countP_map]
  refine List.countP_congr fun e _ => ?_
  simp only [Function.comp_apply]
  split <;> rfl

theorem BusSound.sporadicCycleStart (h : BusSound s) : BusSound (sporadicCycleStart s) := h.older.expireDue

/-- The entry with a ticket leaves the queue, and it was not on the air. -/
theorem BusSound.removeTicket (h : BusSound s) {e : SporadicEntry} (hf : s.spor.find e.ticket = some e)
    (ha : e.onAir = false) : BusSound (removeTicket e.ticket s) := by
  refine h.withoutEntries (p := fun f => f.ticket != e.ticket) fun f hf' hair => ?_
  rw [bne_iff_ne]
  intro ht
  have hmem : e ∈ s.spor.entries := List.mem_of_find?_eq_some hf
  have : f = e := List.inj_on_of_nodup_map h.tickets hf' hmem ht
  rw [this, ha] at hair
  cases hair

/-! #### The ticket of a new entry (R110) -/

theorem nextTicket_range (t : Nat) : 1 ≤ nextTicket t ∧ nextTicket t ≤ 65535 := by
  unfold nextTicket
  split <;> omega

/-- The candidate after i steps from the ticket c. -/
theorem nextTicket_iterate {c : Nat} (hc : 1 ≤ c ∧ c ≤ 65535) (i : Nat) :
    nextTicket^[i] c = (c - 1 + i) % 65535 + 1 := by
  induction i with
  | zero => simp only [Function.iterate_zero, id_eq]; omega
  | succ i ih =>
    rw [Function.iterate_succ_apply', ih, nextTicket]
    split <;> omega

/-- Where the search ends at an entry's ticket, all candidates passed over are entries' tickets too. -/
theorem freeTicket_taken (entries : List SporadicEntry) (passes c : Nat)
    (h : freeTicket entries passes c ∈ entries.map SporadicEntry.ticket) :
    ∀ i ≤ passes, nextTicket^[i] c ∈ entries.map SporadicEntry.ticket := by
  induction passes generalizing c with
  | zero =>
    intro i hi
    obtain rfl : i = 0 := by omega
    exact h
  | succ passes ih =>
    unfold freeTicket at h
    have hc : c ∈ entries.map SporadicEntry.ticket := by
      split at h
      next hany =>
        obtain ⟨e, he, ht⟩ := List.any_eq_true.1 hany
        exact List.mem_map.2 ⟨e, he, by simpa using ht⟩
      next => exact h
    intro i hi
    cases i with
    | zero => exact hc
    | succ i =>
      split at h
      next => exact ih (nextTicket c) h i (by omega)
      next hany =>
        obtain ⟨e, he, rfl⟩ := List.mem_map.1 hc
        exact absurd (List.any_eq_true.2 ⟨e, he, by simp⟩) hany

/-- The ticket SPOST gives is no entry's: there are more candidates than entries (R110). -/
theorem newTicket_fresh {q : SporadicQueue} (h : q.entries.length < 16) :
    q.newTicket ∉ q.entries.map SporadicEntry.ticket := by
  intro hmem
  have hall := freeTicket_taken q.entries q.entries.length (nextTicket q.counter) hmem
  have hrange := nextTicket_range q.counter
  have hnodup : ((List.range (q.entries.length + 1)).map fun i => nextTicket^[i] (nextTicket q.counter)).Nodup := by
    refine List.Nodup.map_on (fun i hi j hj hij => ?_) List.nodup_range
    rw [List.mem_range] at hi hj
    rw [nextTicket_iterate hrange, nextTicket_iterate hrange] at hij
    omega
  have hsub : ((List.range (q.entries.length + 1)).map fun i => nextTicket^[i] (nextTicket q.counter)) ⊆
      q.entries.map SporadicEntry.ticket := by
    intro t ht
    obtain ⟨i, hi, rfl⟩ := List.mem_map.1 ht
    exact hall i (Nat.lt_succ_iff.1 (List.mem_range.1 hi))
  have hle := (List.subperm_of_subset hnodup hsub).length_le
  simp at hle

/-- A new entry is queued with a ticket of its own (R110, R111). -/
theorem BusSound.post (h : BusSound s) {e : SporadicEntry} (hl : s.spor.entries.length < 16)
    (ht : e.ticket = s.spor.newTicket) (ha : e.onAir = false) : BusSound { s with spor := s.spor.post e } := by
  refine h.withQueue ?_ ?_
  · simp [SporadicQueue.post, ha]
  · rw [SporadicQueue.post, List.map_append, List.nodup_append]
    refine ⟨h.tickets, by simp, fun a ha b hb => ?_⟩
    rw [List.map_singleton, List.mem_singleton] at hb
    rintro rfl
    rw [hb, ht] at ha
    exact newTicket_fresh hl ha

end

/-! ### The reactions to a cycle-start event, and the commit (R52, R53) -/

section
variable {s : State}

/-- A pending commit takes effect with no window open. -/
theorem BusSound.settleCommit (h : BusSound s) (hw : s.sched.window = none) (cause : CommitCause) :
    BusSound (settleCommit cause s) := by
  refine ((settleCommit_does cause).posts s).sound ?_
  rw [committed_eq]
  exact ⟨fun w hx => by simp [hw] at hx, h.launch, h.onAir, h.receivers, h.lanes, h.still, h.tickets⟩

theorem BusSound.blockReactions (h : BusSound s) (hw : s.sched.window = none) : BusSound (blockReactions s) := by
  have hc := h.settleCommit hw .cycleStart
  have ha : BusSound (ageBuffers (Machine.settleCommit .cycleStart s)) := hc.of_bus rfl
  exact ((ha.laneCycleStart .A).laneCycleStart .B).sporadicCycleStart

end

/-! ### Window starts (R55 to R63, R113) -/

/-- The window of the entry at this position starts here, and no launch is in progress (R56). -/
structure Due (position : Nat) (e : Entry) (s : State) : Prop where
  idle : s.launch = none
  entry : s.sched.active.entryAt position = some e
  active : e.activeIn s.tb.cycle = true
  running : s.tb.sync.running = true
  offset : s.tb.offset = e.start

/-- The lanes that a context holds are ACTIVE or PROBATION. -/
def HoldsOnly (role : WindowRole) (s : State) : Prop :=
  ∀ l, role.holds.has l = true → (s.lanes.get l).state = .active ∨ (s.lanes.get l).state = .probation

section
variable {s : State} {position : Nat} {e : Entry} {role : WindowRole}

theorem Due.windowSound (hd : Due position e s) (hk : role.entryRole = e.role) (hh : HoldsOnly role s) {t : State}
    (ht : t.sched.window = some ⟨position, e, s.tb.cycle, role⟩) (hactive : t.sched.active = s.sched.active)
    (hoffset : t.tb.offset = s.tb.offset) (hlanes : t.lanes = s.lanes) : WindowSound t := by
  rw [windowSound_iff]
  intro w hw
  obtain rfl : w = ⟨position, e, s.tb.cycle, role⟩ := Option.some.inj (hw.symm.trans ht)
  rw [hactive, hoffset]
  refine ⟨hd.entry, hd.active, hd.offset.ge, hd.offset.le.trans (Nat.le_add_right _ _), hk, fun l _ hl => ?_⟩
  rw [hlanes]
  exact hh l hl

/-- A window opens with no launch in it. -/
theorem BusSound.openWindow (h : BusSound s) (hd : Due position e s) (hk : role.entryRole = e.role)
    (hh : HoldsOnly role s) (hn : role.launching = none) : BusSound (openWindow position e role s) :=
  ⟨hd.windowSound hk hh rfl rfl rfl rfl, fun _ hx => (nomatch hx.symm.trans hd.idle),
    .released hd.idle hn (onAir_idle h.onAir hd.idle).2, windowReceivers_sound (s := s) h.window h.receivers, h.lanes,
    fun hr => (nomatch hr.symm.trans hd.running), h.tickets⟩

/-- A window opens with a launch in it, on lanes that are ACTIVE (R8, R86). -/
theorem BusSound.openLaunch (h : BusSound s) (hd : Due position e s) (hk : role.entryRole = e.role)
    (hh : HoldsOnly role s) {x : Launch} {q : SporadicQueue} (hsync : s.tb.sync ≠ .acquire) (hkind : x.kind ≠ .beacon) (hrole : role.launching = some x.kind)
    (hcut : x.cut = LaneSet.none) (hne : x.lanes.isEmpty = false)
    (hactive : ∀ l, x.lanes.has l = true → (s.lanes.get l).state = .active) (hstart : x.start = e.start)
    (hq : q.entries.countP SporadicEntry.onAir = if x.kind = .sporadic then 1 else 0)
    (ht : (q.entries.map SporadicEntry.ticket).Nodup) :
    BusSound (Machine.openWindow position e role (beginLaunch x { s with spor := q })) := by
  have hair : x.onAir = x.lanes := by
    rw [Launch.onAir, hcut]
    simp [LaneSet.minus, LaneSet.none]
  have hrx : ∀ l, ReceiverSound s.now ((s.rx.on x.lanes (Receiver.abandon s.now)).get l) :=
    receivers_on h.receivers x.lanes fun _ hr => hr.abandon
  refine ⟨hd.windowSound hk hh rfl rfl rfl rfl, fun y hy => ?_, .launched rfl ((if_neg hkind).symm ▸ hrole) hq,
    windowReceivers_sound (s := beginLaunch x { s with spor := q }) h.window hrx, h.lanes,
    fun hr => (nomatch hr.symm.trans hd.running), ht⟩
  · obtain rfl := Option.some.inj hy
    rw [hair]
    refine ⟨?_, hne, fun l _ hl => hactive l hl, (hstart.trans hd.offset.symm).le, ?_, fun hk => absurd hk hkind⟩
    · have hrun := hd.running
      change s.tb.sync = .locked ∨ s.tb.sync = .holdover
      cases hs : s.tb.sync <;> simp_all [Sync.running]
    · exact (hd.offset.trans hstart.symm).le.trans (Nat.le_add_right _ _)

theorem opens_due (h : BusSound s) {r : EntryRole} (ho : opens s r position = some e) :
    BusSound (passTo e.start s) ∧ Due position e (passTo e.start s) ∧ e.role = r := by
  unfold opens at ho
  split at ho
  next f hf =>
    split at ho
    next hall =>
      obtain ⟨hrole, hactive, hreaches, hfree⟩ := hall
      obtain rfl := Option.some.inj ho
      rw [windowFree, Bool.and_eq_true, Option.isNone_iff_eq_none] at hfree
      exact ⟨h.passTo hreaches, ⟨hfree.1, hf, hactive, ((reaches_iff _ _).1 hreaches).1, rfl⟩, hrole⟩
    next => cases ho
  next => cases ho

theorem holdsOnly_none (h : role.holds = LaneSet.none) : HoldsOnly role s := fun l hl => by
  rw [h, has_none] at hl
  cases hl

theorem has_activeLanes (s : State) (l : Lane) : (activeLanes s).has l = ((s.lanes.get l).state == .active) := by
  cases l <;> rfl

theorem has_probationLanes (s : State) (l : Lane) : (probationLanes s).has l = ((s.lanes.get l).state == .probation) := by
  cases l <;> rfl

/-- The lanes that an EXPECT or QUIET window holds at its start are ACTIVE or PROBATION (R60, R63). -/
theorem listeners_state {l : Lane} (h : ((listeners e s).minus LaneSet.none).has l = true) :
    (s.lanes.get l).state = .active ∨ (s.lanes.get l).state = .probation := by
  simp only [listeners, has_minus, has_inter, has_union, has_none, has_activeLanes, has_probationLanes, Bool.not_false,
    Bool.and_true, Bool.and_eq_true, Bool.or_eq_true, beq_iff_eq] at h
  exact h.2

theorem BusSound.openExpect (h : BusSound s) (hd : Due position e s) (hr : e.role = .expect) :
    BusSound (openExpect position e s) :=
  h.openWindow hd hr.symm (fun _ hl => listeners_state hl) rfl

theorem BusSound.openQuiet (h : BusSound s) (hd : Due position e s) (hr : e.role = .quiet) :
    BusSound (openQuiet position e s) :=
  h.openWindow hd hr.symm (fun _ hl => listeners_state hl) rfl

theorem suppressSend_bus (position : Nat) (e : Entry) (s : State) : (suppressSend position e s).bus = s.bus := by
  have hraise := (raise_does .sendSuppressed ⟨byte position, byte e.slot, cycleByte s.tb.cycle, e.lanes.code⟩).bus_eq s
  unfold suppressSend
  dsimp only
  split
  · exact ((fileRecord_does _).bus_eq _).trans hraise
  · exact hraise

theorem launchSend_bus (position : Nat) (e : Entry) (usable : LaneSet) (n : Nat) (x : Snapshot) (s : State) :
    (launchSend position e usable n x s).bus =
      (Machine.openWindow position e (.send usable .inProgress) (beginLaunch (sendLaunch e usable x s) s)).bus := by
  unfold launchSend
  dsimp only
  split
  · exact (raise_does _ _).bus_eq _
  · rfl

/-- The ACTIVE lanes of a set are ACTIVE. -/
theorem activeLanes_state {lanes : LaneSet} {l : Lane} (h : (lanes.inter (activeLanes s)).has l = true) :
    (s.lanes.get l).state = .active := by
  rw [has_inter, Bool.and_eq_true, has_activeLanes, beq_iff_eq] at h
  exact h.2

theorem BusSound.openSend (h : BusSound s) (hd : Due position e s) (hr : e.role = .send) :
    BusSound (openSend position e s) := by
  have hopen (usable : LaneSet) : BusSound (Machine.openWindow position e (.send usable .notLaunched) s) :=
    h.openWindow hd hr.symm (holdsOnly_none rfl) rfl
  unfold Machine.openSend
  dsimp only
  split
  · exact hopen _
  next hsync =>
    split
    · exact (hopen _).of_bus (suppressSend_bus _ _ _)
    next hne =>
      split
      next n x _ =>
        refine BusSound.of_bus ?_ (launchSend_bus _ _ _ _ _ _)
        exact h.openLaunch (role := .send _ .inProgress) hd hr.symm (holdsOnly_none rfl) (q := s.spor) hsync nofun rfl rfl
          (Bool.eq_false_iff.2 hne) (fun _ hl => activeLanes_state hl) rfl (onAir_idle h.onAir hd.idle).2 h.tickets
      next => exact hopen _

/-- The entry that an OPEN window chooses is an eligible one of the queue (R113). -/
theorem chooseSporadic_some {eligible : SporadicEntry → Bool} {entries : List SporadicEntry} {x : SporadicEntry}
    (hx : chooseSporadic eligible entries = some x) : x ∈ entries ∧ eligible x = true := by
  induction entries generalizing x with
  | nil => cases hx
  | cons f fs ih =>
    unfold chooseSporadic at hx
    split at hx
    next =>
      split at hx
      next hf =>
        obtain rfl := Option.some.inj hx
        exact ⟨List.mem_cons_self, hf⟩
      next => cases hx
    next g hg =>
      obtain ⟨hmem, hel⟩ := ih hg
      split at hx
      next hf =>
        obtain rfl := Option.some.inj hx
        exact ⟨List.mem_cons_self, (Bool.and_eq_true _ _ ▸ hf).1⟩
      next =>
        obtain rfl := Option.some.inj hx
        exact ⟨List.mem_cons_of_mem _ hmem, hel⟩

/-- The entry put on the air is the only one there (R109, R113). -/
theorem putOnAir_count {q : SporadicQueue} {x : SporadicEntry} (hx : x ∈ q.entries)
    (ht : (q.entries.map SporadicEntry.ticket).Nodup) (hn : q.entries.countP SporadicEntry.onAir = 0) :
    (q.putOnAir x.ticket).entries.countP SporadicEntry.onAir = 1 := by
  have hcongr : ∀ e ∈ q.entries, (if e.ticket = x.ticket then { e with onAir := true } else e).onAir = true ↔
      (e.ticket == x.ticket) = true := by
    intro e he
    have hoff := List.countP_eq_zero.1 hn e he
    split
    next h => simp [h]
    next h => simp [h, hoff]
  rw [SporadicQueue.putOnAir, List.countP_map]
  refine (List.countP_congr hcongr).trans ?_
  have hcount : q.entries.countP (fun e => e.ticket == x.ticket) = (q.entries.map SporadicEntry.ticket).count x.ticket := by
    rw [List.count, List.countP_map]
    rfl
  rw [hcount, List.count_eq_one_of_mem ht (List.mem_map_of_mem hx)]

theorem putOnAir_tickets (q : SporadicQueue) (ticket : Nat) :
    (q.putOnAir ticket).entries.map SporadicEntry.ticket = q.entries.map SporadicEntry.ticket := by
  simp only [SporadicQueue.putOnAir, List.map_map]
  refine List.map_congr_left fun e _ => ?_
  simp only [Function.comp_apply]
  split <;> rfl

theorem BusSound.openOpen (h : BusSound s) (hd : Due position e s) (hr : e.role = .openSlot) :
    BusSound (openOpen position e s) := by
  have hopen (usable : LaneSet) : BusSound (Machine.openWindow position e (.openSlot usable .notLaunched) s) :=
    h.openWindow hd hr.symm (holdsOnly_none rfl) rfl
  unfold Machine.openOpen
  split
  · exact hopen _
  next hsync =>
    split
    next x hx =>
      obtain ⟨hmem, hel⟩ := chooseSporadic_some hx
      have hne : ((x.lanes.inter e.lanes).inter (activeLanes s)).isEmpty = false := by
        simp only [sporadicEligible, Bool.and_eq_true, Bool.not_eq_true'] at hel
        exact hel.2
      have hbus : (launchSporadic position e x s).bus =
          (Machine.openWindow position e (.openSlot (sporadicLaunch e x s).lanes .inProgress)
            (beginLaunch (sporadicLaunch e x s) { s with spor := s.spor.putOnAir x.ticket })).bus := rfl
      refine BusSound.of_bus ?_ hbus
      exact h.openLaunch (role := .openSlot _ .inProgress) hd hr.symm (holdsOnly_none rfl) hsync nofun rfl rfl hne (fun _ hl => activeLanes_state hl) rfl
        (putOnAir_count hmem h.tickets (onAir_idle h.onAir hd.idle).2) ((putOnAir_tickets s.spor x.ticket).symm ▸ h.tickets)
    next => exact hopen _

/-- A window-start event of one role, where every start of the role keeps the bus side sound. -/
theorem BusSound.windowStart (h : BusSound s) {r : EntryRole} {start : Nat → Entry → State → State}
    (hs : ∀ {e : Entry} {t : State}, BusSound t → Due position e t → e.role = r → BusSound (start position e t)) :
    BusSound (windowStart r start position s) := by
  unfold Machine.windowStart
  split
  next e he =>
    obtain ⟨hp, hd, hr⟩ := opens_due h he
    exact hs hp hd hr
  next => exact h

end

end Sys2Proof.Machine
end

section
/-! The commands keep the bus side sound: breaches, window ends, launch ends and the timebase. -/
namespace Sys2Proof.Machine

/-! ### Breaches and window ends (R59 to R63) -/

section
variable {s : State}

theorem breach_entryRole (r : WindowRole) : r.breach.entryRole = r.entryRole := by cases r <;> rfl
theorem breach_holds (r : WindowRole) : r.breach.holds = r.holds := by cases r <;> rfl
theorem breach_launching (r : WindowRole) : r.breach.launching = r.launching := by cases r <;> rfl

theorem BusSound.breached (h : BusSound s) {w : Window} (hw : s.sched.window = some w) (l : Lane) (m : Nat) :
    BusSound (breached w l m s) := by
  have hr := h.withRole breach_entryRole breach_launching fun r k hk => by rwa [breach_holds] at hk
  rw [hw] at hr
  exact (hr.withReceivers (receivers_update h.receivers l fun _ hr => hr.occupy)).filed _

theorem BusSound.carrierStart (h : BusSound s) (l : Lane) (offset : Nat) : BusSound (carrierStart l offset s) := by
  unfold Machine.carrierStart
  split
  next w hw =>
    split
    next hb =>
      have hr : reaches s offset = true := by
        simp only [isBreach, Bool.and_eq_true] at hb
        exact hb.1.1.1.2
      exact (breachAt_posts w l offset (Machine.passTo offset s)).sound ((h.passTo hr).breached hw l offset)
    next => exact h
  next => exact h

/-- An EXPECT window has no launch in progress. -/
theorem BusSound.expect_idle (h : BusSound s) {w : Window} (hw : s.sched.window = some w) (he : w.role.isExpect = true) :
    s.launch = none := by
  cases hx : s.launch with
  | none => rfl
  | some x =>
    obtain ⟨hlaunching, -⟩ := onAir_launch h.onAir hx
    have hrole : w.role.launching = none := by
      cases hr : w.role <;> simp [hr, WindowRole.isExpect] at he
      rfl
    rw [hw, Option.bind_some, hrole] at hlaunching
    split at hlaunching
    next hk =>
      obtain ⟨-, -, -, -, -, hbeacon⟩ := h.launch x hx
      have := (hbeacon hk).1
      rw [hw] at this
      cases this
    next => cases hlaunching

theorem BusSound.closeHeard (h : BusSound s) (hl : s.launch = none) (w : Window) (a b : List Heard) :
    BusSound (closeHeard w a b s) := by
  have hc := h.abandonWindow hl
  have hrx (l : Lane) (heard : List Heard) (r : Receiver) (hr : ReceiverSound s.now r) :
      ReceiverSound s.now (heardReceiver s w l heard r) := by
    unfold heardReceiver
    split
    · exact hr.occupy
    · exact hr
  refine hc.withReceivers fun l => ?_
  cases l with
  | A => exact hrx .A a _ (hc.receivers .A)
  | B => exact hrx .B b _ (hc.receivers .B)

theorem applyToBuffer_bus (w : Window) (c : Combined) (f : Facts) (s : State) : (applyToBuffer w c f s).bus = s.bus := by
  cases hb : w.entry.buffer with
  | none =>
    unfold applyToBuffer
    rw [hb]
  | some n => exact (applyToBuffer_does c f hb).bus_eq s

theorem BusSound.gradeWindow (h : BusSound s) (w : Window) (v : PerLane LaneView) : BusSound (gradeWindow w v s) :=
  (h.gradeOutcome .A _ _ _ _).gradeOutcome .B _ _ _ _

theorem BusSound.endExpect (h : BusSound s) (hl : s.launch = none) (w : Window) (a b : List Heard) :
    BusSound (endExpect w a b s) := by
  unfold Machine.endExpect
  refine BusSound.of_bus ?_ ((reportAlarm_does _ _ _).bus_eq _)
  refine BusSound.of_bus ?_ ((logRecord_does _ _).bus_eq _)
  refine BusSound.of_bus ?_ (applyToBuffer_bus _ _ _ _)
  refine BusSound.of_bus ?_ ((reportDisagree_does _ _).bus_eq _)
  exact (h.closeHeard hl w a b).gradeWindow w _

theorem BusSound.closeExpect (h : BusSound s) (a b : List Heard) : BusSound (closeExpect a b s) := by
  unfold Machine.closeExpect
  split
  next w hw =>
    split
    next hc =>
      rw [Bool.and_eq_true] at hc
      exact (h.passTo hc.2).endExpect (h.expect_idle hw hc.1) w a b
    next => exact h
  next => exact h

theorem BusSound.closeWindow (h : BusSound s) : BusSound (closeWindow s) := by
  unfold Machine.closeWindow
  split
  next w hw =>
    split
    next hc =>
      simp only [Bool.and_eq_true, Option.isNone_iff_eq_none] at hc
      exact (h.passTo hc.2).abandonWindow hc.1.2
    next => exact h
  next => exact h

end

/-! ### Launch ends (R8, R26, R59, R115) -/

section
variable {s : State} {x : Launch}

theorem gradeEchoes_bus (k : LaunchKind) (position : Option Nat) (cycle : BitVec 6) (o : PerLane Outcome) (s : State) :
    (gradeEchoes k position cycle o s).bus = (echoed .B o.b (echoed .A o.a s)).bus :=
  (gradeEchoes_does k position cycle o).bus_eq s

theorem BusSound.gradeEchoes (h : BusSound s) (k : LaunchKind) (position : Option Nat) (cycle : BitVec 6)
    (o : PerLane Outcome) : BusSound (gradeEchoes k position cycle o s) :=
  ((h.echoed .A o.a).echoed .B o.b).of_bus (gradeEchoes_bus k position cycle o s)

/-- A beacon launch ends (R26). -/
theorem BusSound.releaseLaunch (h : BusSound s) (hx : s.launch = some x) (hk : x.kind = .beacon) :
    BusSound (releaseLaunch x s) := by
  obtain ⟨hwin, hcount⟩ := onAir_launch h.onAir hx
  rw [if_pos hk] at hwin
  rw [if_neg (by rw [hk]; decide)] at hcount
  exact ⟨h.window, fun _ hy => (nomatch hy), .released rfl hwin hcount,
    receivers_on h.receivers x.onAir fun _ hr => hr.resume, h.lanes, fun hr => ⟨(h.still hr).1, rfl⟩, h.tickets⟩

/-- A window's launch ends, where the queue has no entry on the air any more (R59, R115). -/
theorem BusSound.endLaunch (h : BusSound s) {q : SporadicQueue} (hn : q.entries.countP SporadicEntry.onAir = 0)
    (ht : (q.entries.map SporadicEntry.ticket).Nodup) : BusSound { endLaunch x s with spor := q } := by
  have hwindow := WindowSound.withRole (s := s) h.window (f := fun r => r.launched .ended)
    (fun r => launched_entryRole r .ended) fun r l => by rw [launched_holds]; exact id
  exact ⟨hwindow, fun _ hy => (nomatch hy), .released rfl (window_launched_launching _ (by decide)) hn,
    receivers_on h.receivers x.onAir fun _ hr => hr.resume, h.lanes,
    fun hr => ⟨Option.map_eq_none_iff.2 (h.still hr).1, rfl⟩, ht⟩

theorem BusSound.endBeacon (h : BusSound s) (hx : s.launch = some x) (hk : x.kind = .beacon) (a b : Echo) :
    BusSound (endBeacon x a b s) := (h.releaseLaunch hx hk).gradeEchoes _ _ _ _

theorem BusSound.endSend (h : BusSound s) (hx : s.launch = some x) (hk : x.kind = .send) (a b : Echo) :
    BusSound (endSend x a b s) := by
  obtain ⟨-, hcount⟩ := onAir_launch h.onAir hx
  rw [if_neg (by rw [hk]; decide)] at hcount
  have hend : BusSound (Machine.endLaunch x s) := h.endLaunch hcount h.tickets
  have hg := hend.gradeEchoes .send (s.sched.window.map Window.position) x.cycle (echoOutcomes x a b)
  unfold Machine.endSend
  split
  · split
    · exact hg.of_bus ((fileRecord_does _).bus_eq _)
    · exact hg
  · exact hg

/-- With no launch in progress an echo outcome does not touch the queue. -/
theorem echoed_queue (hl : s.launch = none) (l : Lane) (o : Outcome) (q : SporadicQueue) :
    echoed l o { s with spor := q } = { echoed l o s with spor := q } ∧ (echoed l o s).launch = none ∧
      (echoed l o s).spor = s.spor := by
  unfold echoed
  split
  · rw [laneLeaves_of_no_launch hl, laneLeaves_of_no_launch (s := { s with spor := q }) hl]
    exact ⟨rfl, hl, rfl⟩
  · exact ⟨rfl, hl, rfl⟩

/-- Once the entry on the air has left the queue, none is on the air. -/
theorem countP_without_onAir {entries : List SporadicEntry} {e : SporadicEntry} (he : e ∈ entries) (ha : e.onAir = true)
    (hn : entries.countP SporadicEntry.onAir = 1) :
    (entries.filter fun f => f.ticket != e.ticket).countP SporadicEntry.onAir = 0 := by
  have hsplit := List.countP_eq_countP_filter_add entries SporadicEntry.onAir fun f => f.ticket != e.ticket
  have hpos : 0 < (entries.filter fun f => !(f.ticket != e.ticket)).countP SporadicEntry.onAir :=
    List.countP_pos_iff.2 ⟨e, List.mem_filter.2 ⟨he, by simp⟩, ha⟩
  omega

theorem completed_bus (w : Window) (x : Launch) (e : SporadicEntry) (o : PerLane Outcome) (s : State) :
    (completed w x e o s).bus = { s.bus with entries := s.bus.entries.filter fun f => f.ticket != e.ticket } := rfl

theorem BusSound.endSporadic (h : BusSound s) (hx : s.launch = some x) (hk : x.kind = .sporadic) (a b : Echo) :
    BusSound (endSporadic x a b s) := by
  obtain ⟨hwin, hcount⟩ := onAir_launch h.onAir hx
  rw [if_pos hk] at hcount
  rw [if_neg (by rw [hk]; decide)] at hwin
  unfold Machine.endSporadic
  dsimp only
  split
  next w e hw he =>
    have hmem := List.mem_of_find?_eq_some he
    have hair := List.find?_some he
    let q : SporadicQueue := { s.spor with entries := s.spor.entries.filter fun f => f.ticket != e.ticket }
    have hend : BusSound { Machine.endLaunch x s with spor := q } :=
      h.endLaunch (countP_without_onAir hmem hair hcount) (h.tickets.sublist (List.filter_sublist.map _))
    have hgraded := (hend.echoed .A (echoOutcomes x a b).a).echoed .B (echoOutcomes x a b).b
    obtain ⟨hA, hlA, hqA⟩ := echoed_queue (s := Machine.endLaunch x s) rfl .A (echoOutcomes x a b).a q
    obtain ⟨hB, -, hqB⟩ := echoed_queue hlA .B (echoOutcomes x a b).b q
    rw [hA, hB] at hgraded
    refine hgraded.of_bus (((completeSporadic_does w x e _).bus_eq _).trans ?_)
    rw [completed_bus, gradeEchoes_bus]
    have hentries : (Machine.echoed .B (echoOutcomes x a b).b (Machine.echoed .A (echoOutcomes x a b).a
        (Machine.endLaunch x s))).bus.entries = s.spor.entries := congrArg SporadicQueue.entries (hqB.trans hqA)
    rw [hentries]
    rfl
  next hno =>
    exfalso
    obtain ⟨w, hw, -⟩ := Option.bind_eq_some_iff.1 hwin
    cases he : s.spor.entries.find? SporadicEntry.onAir with
    | none => exact absurd hcount (by rw [List.countP_eq_zero.2 (List.find?_eq_none.1 he)]; decide)
    | some e => exact hno w e hw he

theorem BusSound.launchEnd (h : BusSound s) {kind : LaunchKind} {stop : Launch → State → State}
    (hs : ∀ {x : Launch} {t : State}, BusSound t → t.launch = some x → x.kind = kind → BusSound (stop x t)) :
    BusSound (launchEnd kind stop s) := by
  unfold Machine.launchEnd
  split
  next y hy =>
    split
    next hc =>
      rw [Bool.and_eq_true, beq_iff_eq] at hc
      exact hs (h.passTo hc.2) hy hc.1
    next => exact h
  next => exact h

end

end Sys2Proof.Machine
end

section
/-! The timebase keeps the bus side sound: cycle starts, deadlines, beacons, start and stop (Chapter 2). -/
namespace Sys2Proof.Machine

section
variable {s : State}

/-- No window is open and no launch in progress. -/
def Quiet (s : State) : Prop := s.sched.window = none ∧ s.launch = none

theorem Quiet.of_bus {t : State} (h : Quiet s) (hb : t.bus = s.bus) : Quiet t :=
  ⟨(congrArg Bus.window hb).trans h.1, (congrArg Bus.launch hb).trans h.2⟩

theorem BusSound.quiet (h : BusSound s) (hr : s.tb.sync.running = false) : Quiet s := h.still hr

/-- With neither window nor launch the timebase may be any. -/
theorem BusSound.reclock (h : BusSound s) (hq : Quiet s) (tb : Timebase) : BusSound (setTimebase tb s) :=
  h.clock hq.1 hq.2 tb (Nat.le_refl _)

/-- A running cycle's sync state and role change with no launch in progress. -/
theorem BusSound.retime (h : BusSound s) (hl : s.launch = none) {tb : Timebase} (ho : tb.offset = s.tb.offset)
    (hr : tb.sync.running = true) : BusSound (setTimebase tb s) :=
  h.timebase ho hr fun x hx => by simp [hl] at hx

theorem changeSync_bus (new : Sync) (s : State) : (changeSync new s).bus = { s.bus with sync := new } :=
  (changeSync_does new).bus_eq s

theorem raiseSyncChanged_bus (old : Sync) (s : State) : (raiseSyncChanged old s).bus = s.bus :=
  (raiseSyncChanged_does old).bus_eq s

theorem answerDeferred_bus (kind : DeferredKind) (r : Result) (s : State) : (answerDeferred kind r s).bus = s.bus :=
  (answerDeferred_does kind r).bus_eq s

/-! ### Cycle starts (R18, R26) -/

/-- A master's beacon launch on lanes that are ACTIVE, with the cycle at its start. -/
theorem BusSound.launchBeacon (h : BusSound s) (hq : Quiet s) (ho : s.tb.offset = 0) {lanes : LaneSet}
    (ha : ∀ l, lanes.has l = true → (s.lanes.get l).state = .active) : BusSound (launchBeacon lanes s) := by
  unfold Machine.launchBeacon
  split
  next hc =>
    obtain ⟨hrole, hsync, hne⟩ := hc
    have hair : (beaconLaunch lanes s).onAir = lanes := by simp [Launch.onAir, beaconLaunch, LaneSet.minus, LaneSet.none]
    refine ⟨fun w hw => (nomatch hw.symm.trans hq.1), fun x hx => ?_,
      .launched (x := beaconLaunch lanes s) rfl ((onAir_idle h.onAir hq.2).1.trans (if_pos rfl).symm)
      (onAir_idle h.onAir hq.2).2, receivers_on h.receivers lanes fun _ hr => hr.abandon, h.lanes, fun hr => ?_, h.tickets⟩
    · obtain rfl := Option.some.inj hx
      rw [hair]
      exact ⟨.inl hsync, hne, fun l _ hl => ha l hl, Nat.zero_le _, ho.le.trans (Nat.zero_le _), fun _ => ⟨hq.1, hrole, hsync⟩⟩
    · have := (congrArg Sync.running hsync).symm.trans hr
      cases this
  next => exact h

/-- What the reactions to a cycle-start event leave of the window, the launch, the clock, and the lane units. -/
theorem blockReactions_bus (hn : (s.spor.entries.map SporadicEntry.ticket).Nodup) :
    (blockReactions s).bus.window = s.sched.window ∧ (blockReactions s).bus.launch = s.launch ∧
      (blockReactions s).bus.offset = s.tb.offset ∧
      (blockReactions s).bus.lanes = ⟨s.lanes.a.afterCycle s.cfg, s.lanes.b.afterCycle s.cfg⟩ := by
  rw [(blockReactions_posts (.refl s) hn).bus_eq, reacted, committed_eq]
  exact ⟨rfl, rfl, rfl, rfl⟩

theorem afterCycle_active {u : LaneUnit} (p : Params) (hu : u.state = .active) : (u.afterCycle p).state = .active := by
  rw [afterCycle_other p (.inl hu), hu]

theorem BusSound.cycleStartEvent (h : BusSound s) (hc : cycleEnds s = true) (first : Promotions) :
    BusSound (cycleStartEvent first s) := by
  simp only [cycleEnds, Bool.and_eq_true, Option.isNone_iff_eq_none] at hc
  obtain ⟨⟨hw, hl⟩, hr⟩ := hc
  have hbegin : BusSound (beginCycle s) := (h.passTo hr).reclock ⟨hw, hl⟩ _
  obtain ⟨hw', hl', ho', hlanes⟩ := blockReactions_bus hbegin.tickets
  refine (hbegin.blockReactions hw).launchBeacon ⟨hw'.trans hw, hl'.trans hl⟩ ho' fun l hhas => ?_
  rw [has_union, has_inter, Bool.or_eq_true, Bool.and_eq_true, has_activeLanes, has_activeLanes, beq_iff_eq, beq_iff_eq] at hhas
  rcases hhas with hactive | ⟨hactive, -⟩
  · have : (Machine.blockReactions (beginCycle s)).lanes.get l =
        ((beginCycle s).lanes.get l).afterCycle (beginCycle s).cfg := by
      have hl := congrArg (PerLane.get · l) hlanes
      cases l <;> exact hl
    rw [this]
    exact afterCycle_active _ hactive
  · exact hactive

theorem BusSound.endPulse (h : BusSound s) (m : Nat) : BusSound (endPulse m s) := by
  unfold Machine.endPulse
  dsimp only
  split
  · split
    next hr => exact (h.passTo hr).of_bus rfl
    next => exact h
  · exact h.of_bus rfl

/-- The startup listen runs in LISTEN (R22). -/
theorem BusSound.expireListen (h : BusSound s) (hs : s.tb.sync = .listen) (moment : Nat) :
    BusSound (expireListen moment s) := by
  have hq := h.quiet (by rw [hs]; rfl)
  refine BusSound.of_bus ?_ (answerDeferred_bus _ _ _)
  let t := changeSync .locked { s with now := max s.now moment, tb := { s.tb with startupListen := none } }
  have ht : BusSound t := (h.clock hq.1 hq.2 { s.tb with sync := .locked } (Nat.le_max_left s.now moment)).of_bus
    (changeSync_bus _ _)
  have hqt : Quiet t := Quiet.of_bus (s := { s with now := max s.now moment, tb := { s.tb with sync := .locked } }) hq
    (changeSync_bus _ _)
  have hstart (tb : Timebase) (ho : tb.offset = 0) :
      BusSound (Machine.launchBeacon (activeLanes (setTimebase tb t)) (setTimebase tb t)) :=
    (ht.reclock hqt tb).launchBeacon hqt ho fun l hl => by rwa [has_activeLanes, beq_iff_eq] at hl
  exact hstart _ rfl

/-! ### Missed beacons (R33 to R36) -/

theorem BusSound.fallToListen (h : BusSound s) : BusSound (fallToListen s) := by
  have hstop (tb : Timebase) : BusSound (setTimebase tb (Machine.stopped s)) := h.stopped.reclock (stopped_idle s) tb
  exact ((hstop _).of_bus (raiseSyncChanged_bus _ _)).settleCommit (congrArg Bus.window (raiseSyncChanged_bus _ _)) _

theorem raiseBeaconMissed_bus (s : State) : (raiseBeaconMissed s).bus = s.bus := (raise_does _ _).bus_eq s

theorem BusSound.missedBeacon (h : BusSound s) (hrole : s.tb.role = .follower) : BusSound (missedBeacon s) := by
  unfold Machine.missedBeacon
  split
  next => exact h.fallToListen
  next =>
    refine BusSound.of_bus ?_ ((raiseSyncChanged_bus _ _).trans (raiseBeaconMissed_bus _))
    refine h.timebase rfl rfl fun x hx => ⟨.inr rfl, fun hk => ?_⟩
    obtain ⟨-, -, -, -, -, hbeacon⟩ := h.launch x hx
    have := (hbeacon hk).2.1
    rw [hrole] at this
    cases this
  next =>
    have hm : BusSound (raiseBeaconMissed (setTimebase { s.tb with missed := s.tb.missed + 1 } s)) :=
      (h.of_bus rfl).of_bus (raiseBeaconMissed_bus _)
    dsimp only
    split
    · exact hm.fallToListen
    · exact hm
  next => exact h
  next => exact h

theorem BusSound.meetDeadline (h : BusSound s) (hd : deadlineDue s = true) : BusSound (meetDeadline s) := by
  simp only [deadlineDue, Bool.and_eq_true, beq_iff_eq] at hd
  obtain ⟨⟨hrole, -⟩, hr⟩ := hd
  have ht : BusSound (setTimebase { (Machine.passTo (deadlineOffset s.cfg) s).tb with deadlinePassed := true }
      (Machine.passTo (deadlineOffset s.cfg) s)) := (h.passTo hr).of_bus rfl
  unfold Machine.meetDeadline
  dsimp only
  split
  · exact ht
  · exact ht.missedBeacon hrole

/-! ### Beacons (R29 to R36) -/

theorem BusSound.hardAlign (h : BusSound s) (number : BitVec 6) :
    BusSound (hardAlign number s) ∧ (s.tb.sync.running = true → Quiet (hardAlign number s)) := by
  by_cases hr : s.tb.sync.running = true
  · rw [hardAlign_running hr]
    have ha : BusSound (aligned number s) := h.stopped.reclock (stopped_idle s) _
    obtain ⟨hw, hl, -⟩ := blockReactions_bus ha.tickets
    exact ⟨ha.blockReactions (stopped_idle s).1, fun _ => ⟨hw.trans (stopped_idle s).1, hl.trans (stopped_idle s).2⟩⟩
  · rw [hardAlign_idle (Bool.eq_false_iff.2 hr)]
    exact ⟨h.reclock (h.quiet (Bool.eq_false_iff.2 hr)) _, fun hn => absurd hn hr⟩

theorem hardAlign_quiet (h : BusSound s) (number : BitVec 6) : Quiet (hardAlign number s) := by
  by_cases hr : s.tb.sync.running = true
  · exact (h.hardAlign number).2 hr
  · rw [hardAlign_idle (Bool.eq_false_iff.2 hr)]
    exact h.quiet (Bool.eq_false_iff.2 hr)

theorem BusSound.alignAndAcquire (h : BusSound s) (number : BitVec 6) : BusSound (alignAndAcquire number s) :=
  ((h.hardAlign number).1.reclock (hardAlign_quiet h number)
    { (Machine.hardAlign number s).tb with sync := .acquire }).of_bus (changeSync_bus _ _)

theorem raiseMasterConflict_bus (l : Lane) (number : BitVec 6) (sender : Nat) (s : State) :
    (raiseMasterConflict l number sender s).bus = s.bus := (raiseMasterConflict_does l number sender).bus_eq s

theorem correct_bus (e : Int) (number : BitVec 6) (l : Lane) (sender : Nat) (s : State) :
    (correct e number l sender s).bus = s.bus := (correct_does e number l sender).bus_eq s

/-- A follower in ACQUIRE or HOLDOVER becomes LOCKED: a launch in progress is no beacon. -/
theorem BusSound.lock (h : BusSound s) (hs : s.tb.sync = .acquire ∨ s.tb.sync = .holdover) {t : State}
    (ht : t.bus = { s.bus with sync := .locked }) : BusSound t := by
  have hx : BusSound (setTimebase { s.tb with sync := .locked } s) := by
    refine h.timebase rfl rfl fun x hx => ⟨.inl rfl, fun hk => ?_⟩
    obtain ⟨-, -, -, -, -, hbeacon⟩ := h.launch x hx
    have := (hbeacon hk).2.2
    rcases hs with hs | hs <;> rw [hs] at this <;> cases this
  exact hx.of_bus ht

theorem BusSound.conflictInLocked (h : BusSound s) (hs : s.tb.sync = .locked) (l : Lane) (number : BitVec 6) (sender : Nat) :
    BusSound (conflictInLocked l number sender s) := by
  have htb : (Machine.cutLaunch LaneSet.both s).tb = s.tb := by rw [(cutLaunch_both s).2.2]
  have hd : BusSound (demote (Machine.cutLaunch LaneSet.both s)) :=
    (h.cutLaunch LaneSet.both).retime (cutLaunch_both s).1 rfl (by rw [htb, hs]; rfl)
  exact (hd.of_bus (raiseMasterConflict_bus _ _ _ _)).alignAndAcquire number

theorem BusSound.realignFromHoldover (h : BusSound s) (number : BitVec 6) : BusSound (realignFromHoldover number s) := by
  have hcut : BusSound (Machine.cutLaunch LaneSet.both (recast .acquire s.tb.role s)) := by
    rw [cutLaunch_recast]
    exact (h.cutLaunch LaneSet.both).retime (cutLaunch_both s).1 rfl rfl
  exact (hcut.hardAlign number).1.of_bus (raiseSyncChanged_bus _ _)

theorem BusSound.conflictInListen (h : BusSound s) (hs : s.tb.sync = .listen) (l : Lane) (number : BitVec 6) (sender : Nat) :
    BusSound (conflictInListen l number sender s) := by
  refine BusSound.of_bus ?_ (answerDeferred_bus _ _ _)
  have hd (tb : Timebase) : BusSound (setTimebase tb s) := h.reclock (h.quiet (by rw [hs]; rfl)) tb
  exact ((hd { s.tb with startupListen := none, role := .follower }).of_bus (raiseMasterConflict_bus _ _ _ _)).alignAndAcquire
    number

theorem BusSound.actOnBeacon (h : BusSound s) (l : Lane) (stamp : Stamp) (number : BitVec 6) (sender : Nat) :
    BusSound (actOnBeacon l stamp number sender s) := by
  unfold Machine.actOnBeacon
  dsimp only
  split
  next => exact h
  next hs =>
    split
    · exact h.conflictInListen hs l number sender
    · exact h.alignAndAcquire number
  next hs =>
    split
    · refine h.lock (.inl hs) ((changeSync_bus _ _).trans ?_)
      rw [correct_bus]
    · exact (h.hardAlign number).1
  next hs =>
    split
    · exact h.conflictInLocked hs l number sender
    · split
      · exact h.of_bus (correct_bus _ _ _ _ _)
      · exact h.of_bus ((raise_does _ _).bus_eq s)
  next hs =>
    split
    · refine h.lock (.inr hs) ((changeSync_bus _ _).trans ?_)
      exact congrArg (fun b : Bus => { b with sync := .locked }) (correct_bus _ number l sender s)
    · exact h.realignFromHoldover number

/-! ### Messages heard in FREE mode (R15) -/

theorem BusSound.pass (h : BusSound s) {elapsed : Nat} (hc : canPass elapsed s = true) : BusSound (pass elapsed s) := by
  by_cases hr : s.tb.sync.running = true
  · rw [canPass, if_pos hr] at hc
    rw [Machine.pass, if_pos hr]
    exact h.passTo hc
  · have hq := h.quiet (Bool.eq_false_iff.2 hr)
    rw [pass_idle (Bool.eq_false_iff.2 hr)]
    exact h.clock hq.1 hq.2 s.tb (Nat.le_add_right _ _)

theorem BusSound.gradeBeacon (h : BusSound s) (l : Lane) (o : Outcome) : BusSound (gradeBeacon l o s) :=
  h.gradeOutcome l o _ _ _

theorem BusSound.freeMessage (h : BusSound s) (l : Lane) (stamp : Stamp) (m : Message) :
    BusSound (freeMessage l stamp m s) := by
  unfold Machine.freeMessage
  split
  next =>
    have hg := h.gradeBeacon l .good
    unfold Machine.takeBeacon
    dsimp only
    split
    · exact hg
    · have ht : BusSound (setTimebase { (Machine.gradeBeacon l .good s).tb with
          lastTaken := some (Machine.gradeBeacon l .good s).now } (Machine.gradeBeacon l .good s)) := hg.of_bus rfl
      exact ht.actOnBeacon _ _ _ _
  next => exact h.gradeBeacon l _
  next => exact h

theorem BusSound.endFree (h : BusSound s) (l : Lane) (m : Message) : BusSound (endFree l m s) :=
  (h.withReceivers (receivers_update h.receivers l fun _ hr => hr.occupy)).freeMessage l _ m

/-! ### Start and stop (R22, R38) -/

theorem BusSound.startPart (h : BusSound s) (hs : s.tb.sync = .offline) : BusSound (startPart s) := by
  have hq := h.quiet (by rw [hs]; rfl)
  have hr : BusSound (Machine.receivers LaneSet.both (Receiver.listen s.now) s) :=
    h.withReceivers (receivers_on h.receivers LaneSet.both fun _ hr => hr.listen)
  have hc (tb : Timebase) : BusSound (setTimebase tb (Machine.receivers LaneSet.both (Receiver.listen s.now) s)) := hr.reclock hq tb
  have ht : BusSound (changeSync .listen (setTimebase { s.tb with role := s.cfg.role }
      (Machine.receivers LaneSet.both (Receiver.listen s.now) s))) :=
    (hc { s.tb with role := s.cfg.role, sync := .listen }).of_bus (changeSync_bus _ _)
  unfold Machine.startPart
  dsimp only
  split
  · exact ht.of_bus rfl
  · exact ht

theorem BusSound.stopPart (h : BusSound s) : BusSound (stopPart s) := by
  refine BusSound.of_bus ?_ (answerDeferred_bus _ _ _)
  have hstop (tb : Timebase) : BusSound (setTimebase tb (Machine.stopped s)) := h.stopped.reclock (stopped_idle s) tb
  exact ((hstop _).of_bus (raiseSyncChanged_bus _ _)).settleCommit (congrArg Bus.window (raiseSyncChanged_bus _ _)) _

end

end Sys2Proof.Machine
end

section
/-! Requests, the link and the resets keep the bus side sound; with the other commands, every step does (O57). -/
namespace Sys2Proof.Machine

/-! ### Requests (R182) -/

section
variable {s : State}

theorem raise_bus (e : Event) (d : Detail) (s : State) : (raise e d s).bus = s.bus := (raise_does e d).bus_eq s

theorem insertRecord_bus (r : Record) (s : State) : (insertRecord r s).bus = s.bus := by
  unfold insertRecord
  dsimp only
  split
  · exact raise_bus _ _ _
  · rfl

/-- A reset holds every block at its reset values (R165). -/
theorem BusSound.of_reset (hb : s.bus = State.held.bus) : BusSound s := by
  refine BusSound.of_bus (s := State.held) ⟨fun _ hw => (nomatch hw), fun _ hx => (nomatch hx), .released rfl rfl rfl,
    fun l => ?_, fun l => ?_, fun _ => ⟨rfl, rfl⟩, List.nodup_nil⟩ hb
  · cases l <;> decide
  · cases l <;> exact .fresh _ _

theorem BusSound.doConfig (h : BusSound s) (tag : Byte) (p : List Byte) : BusSound (doConfig tag p s) := by
  unfold Machine.doConfig
  split
  next => exact h.of_bus rfl
  next hs =>
    split
    next => exact h.of_bus rfl
    next =>
      split
      next => exact h.of_bus rfl
      next =>
        obtain ⟨hw, hl⟩ := h.quiet (by rw [not_not.1 hs]; rfl)
        have hunit (u : LaneUnit) (limit : Nat) (hu : LaneSound s.cfg.debitLimit u) :
            LaneSound limit { u with debit := min u.debit limit } := by
          obtain ⟨-, hh, hc, hf, hp, hz⟩ := hu
          exact ⟨Nat.min_le_right _ _, hh, hc, hf, hp, fun hs => by simp [hz hs]⟩
        refine ⟨fun w hx => (nomatch hx.symm.trans hw), fun x hx => (nomatch hx.symm.trans hl), h.onAir, h.receivers,
          fun l => ?_, fun _ => ⟨hw, hl⟩, h.tickets⟩
        cases l with
        | A => exact hunit _ _ (h.lanes .A)
        | B => exact hunit _ _ (h.lanes .B)

theorem BusSound.doStart (h : BusSound s) (tag : Byte) : BusSound (doStart tag s) := by
  unfold Machine.doStart
  split
  next => exact h.of_bus rfl
  next hs =>
    have ht := h.startPart (not_not.1 hs)
    split
    · exact h.of_bus rfl
    · dsimp only
      split
      · exact ht.of_bus rfl
      · exact ht.of_bus rfl

theorem BusSound.doStop (h : BusSound s) (tag : Byte) : BusSound (doStop tag s) := by
  unfold Machine.doStop
  split
  · exact h.of_bus rfl
  · exact h.stopPart.of_bus rfl

theorem BusSound.doTcommit (h : BusSound s) (tag : Byte) : BusSound (doTcommit tag s) := by
  unfold Machine.doTcommit
  split
  next => exact h.of_bus rfl
  next =>
    split
    next => exact h.of_bus rfl
    next =>
      split
      next => exact h.of_bus rfl
      next hr =>
        obtain ⟨hw, hl⟩ := h.quiet (Bool.eq_false_iff.2 hr)
        have hc : BusSound (copyEdit s) :=
          ⟨fun w hx => (nomatch hx.symm.trans hw), h.launch, h.onAir, h.receivers, h.lanes, h.still, h.tickets⟩
        exact (hc.of_bus rfl).of_bus (raise_bus _ _ _)

theorem BusSound.laneDisable (h : BusSound s) (tag : Byte) (l : Lane) : BusSound (laneDisable tag l s) := by
  unfold Machine.laneDisable
  dsimp only
  split
  next => exact h.of_bus rfl
  next =>
    obtain ⟨hd, -⟩ := h.lanes l
    have hu : LaneSound s.cfg.debitLimit ⟨.disabled, (s.lanes.get l).debit, 0, 0, false⟩ :=
      ⟨hd, Nat.zero_le _, Nat.zero_le _, fun _ => rfl, fun _ => ⟨rfl, rfl⟩, fun hs => (nomatch hs)⟩
    exact (h.leavesWith hu).of_bus (raise_bus _ _ _)

theorem BusSound.laneEnable (h : BusSound s) (tag : Byte) (l : Lane) : BusSound (laneEnable tag l s) := by
  unfold Machine.laneEnable
  dsimp only
  split
  next hs =>
    have ha : BusSound (answer tag .ok [LaneState.probation.code, 0] s) := h.of_bus rfl
    exact ha.enterProbation _ hs.symm
  next => exact h.of_bus rfl

theorem BusSound.laneClear (h : BusSound s) (tag : Byte) (l : Lane) : BusSound (laneClear tag l s) := by
  unfold Machine.laneClear
  split
  next hs =>
    obtain ⟨-, hh, hc, hf, hp, hz⟩ := h.lanes l
    have hu : BusSound (setUnit l { s.lanes.get l with debit := 0 } s) :=
      h.withCounts ⟨Nat.zero_le _, hh, hc, hf, hp, fun _ => rfl⟩ rfl
    exact hu.of_bus rfl
  next => exact h.of_bus rfl

theorem BusSound.doLset (h : BusSound s) (tag : Byte) (p : List Byte) : BusSound (doLset tag p s) := by
  unfold Machine.doLset
  split
  next => exact h.of_bus rfl
  next l _ =>
    split_ifs
    · exact h.laneDisable tag l
    · exact h.laneEnable tag l
    · exact h.laneClear tag l
    · exact h.of_bus rfl

theorem BusSound.doSpost (h : BusSound s) (tag : Byte) (p : List Byte) : BusSound (doSpost tag p s) := by
  unfold Machine.doSpost
  split
  next => exact h.of_bus rfl
  next =>
    split
    next => exact h.of_bus rfl
    next hl =>
      split_ifs
      · exact h.of_bus rfl
      · exact h.of_bus rfl
      · exact BusSound.of_bus (h.post (e := postedEntry p s.spor.newTicket) (Nat.lt_of_not_le hl) rfl rfl) rfl

theorem BusSound.doScancel (h : BusSound s) (tag : Byte) (p : List Byte) : BusSound (doScancel tag p s) := by
  unfold Machine.doScancel
  dsimp only
  split
  next => exact h.of_bus rfl
  next e he =>
    split
    next => exact h.of_bus rfl
    next ha =>
      have ht : e.ticket = (wordAt p 0).toNat := by simpa using List.find?_some he
      rw [← ht] at he ⊢
      exact (h.removeTicket he (Bool.eq_false_iff.2 ha)).of_bus rfl

end

/-! #### Requests that do not touch the bus side -/

section
variable (tag : Byte) (p : List Byte) (s : State)

theorem doEput_bus : (doEput tag p s).bus = s.bus := by
  unfold doEput
  split
  · rfl
  · split <;> rfl

theorem doEdel_bus : (doEdel tag p s).bus = s.bus := by
  unfold doEdel
  split_ifs <;> rfl

theorem doEget_bus : (doEget tag p s).bus = s.bus := by
  unfold doEget
  split
  · rfl
  · split_ifs <;> rfl

theorem doTclr_bus : (doTclr tag s).bus = s.bus := by
  unfold doTclr
  split_ifs <;> rfl

theorem doTload_bus : (doTload tag s).bus = s.bus := by
  unfold doTload
  split_ifs <;> rfl

theorem doTchk_bus : (doTchk tag s).bus = s.bus := by
  unfold doTchk
  split <;> rfl

theorem doTcancel_bus : (doTcancel tag s).bus = s.bus := by
  unfold doTcancel
  split
  · exact (raise_bus _ _ _).trans (answerDeferred_bus .tcommit .cancelled _)
  · rfl

theorem doBsetup_bus : (doBsetup tag p s).bus = s.bus := by
  unfold doBsetup
  dsimp only
  split_ifs <;> rfl

theorem doBwrite_bus : (doBwrite tag p s).bus = s.bus := by
  unfold doBwrite
  dsimp only
  split_ifs <;> rfl

theorem doBread_bus : (doBread tag p s).bus = s.bus := by
  unfold doBread
  dsimp only
  split_ifs <;> rfl

theorem doBstat_bus : (doBstat tag p s).bus = s.bus := by
  unfold doBstat
  dsimp only
  split_ifs <;> rfl

theorem doRfetch_bus : (doRfetch tag p s).bus = s.bus := by
  unfold doRfetch
  split_ifs <;> rfl

theorem doRdrop_bus : (doRdrop tag p s).bus = s.bus := by
  unfold doRdrop
  dsimp only
  split
  · split
    · rfl
    · exact insertRecord_bus _ _
  · rfl

theorem doRthresh_bus : (doRthresh tag p s).bus = s.bus := by
  unfold doRthresh
  split_ifs <;> rfl

theorem doGset_bus : (doGset tag p s).bus = s.bus := by
  unfold doGset
  split <;> rfl

theorem doNmask_bus : (doNmask tag p s).bus = s.bus := by
  unfold doNmask
  split_ifs <;> rfl

theorem doNack_bus : (doNack tag p s).bus = s.bus := by
  unfold doNack
  dsimp only
  split
  · rfl
  · split
    · split <;> rfl
    · rfl

theorem doEvread_bus : (doEvread tag p s).bus = s.bus := by
  unfold doEvread
  dsimp only
  split_ifs <;> rfl

end

section
variable {s : State}

theorem BusSound.carryOut (h : BusSound s) (c : Code) (tag : Byte) (p : List Byte) : BusSound (carryOut c tag p s) := by
  cases c with
  | config => exact h.doConfig tag p
  | start => exact h.doStart tag
  | stop => exact h.doStop tag
  | reset => exact .of_reset rfl
  | tcommit => exact h.doTcommit tag
  | lset => exact h.doLset tag p
  | spost => exact h.doSpost tag p
  | scancel => exact h.doScancel tag p
  | eput => exact h.of_bus (doEput_bus tag p s)
  | edel => exact h.of_bus (doEdel_bus tag p s)
  | eget => exact h.of_bus (doEget_bus tag p s)
  | tclr => exact h.of_bus (doTclr_bus tag s)
  | tload => exact h.of_bus (doTload_bus tag s)
  | tchk => exact h.of_bus (doTchk_bus tag s)
  | tcancel => exact h.of_bus (doTcancel_bus tag s)
  | bsetup => exact h.of_bus (doBsetup_bus tag p s)
  | bwrite => exact h.of_bus (doBwrite_bus tag p s)
  | bread => exact h.of_bus (doBread_bus tag p s)
  | bstat => exact h.of_bus (doBstat_bus tag p s)
  | rfetch => exact h.of_bus (doRfetch_bus tag p s)
  | rdrop => exact h.of_bus (doRdrop_bus tag p s)
  | rthresh => exact h.of_bus (doRthresh_bus tag p s)
  | gset => exact h.of_bus (doGset_bus tag p s)
  | nmask => exact h.of_bus (doNmask_bus tag p s)
  | nack => exact h.of_bus (doNack_bus tag p s)
  | evread => exact h.of_bus (doEvread_bus tag p s)
  | ident | cfgget | stat | lstat | slist => exact h.of_bus rfl

/-! ### The handler and the arbiter (R144, R180) -/

theorem BusSound.takeRequest (h : BusSound s) : BusSound (takeRequest s) := by
  unfold Machine.takeRequest
  split
  next => exact h
  next r rest _ =>
    have hr : BusSound (reserveFor rest s) := h.of_bus rfl
    unfold Machine.checkRequest
    split
    next => exact hr.of_bus rfl
    next =>
      split
      next => exact hr.of_bus rfl
      next c _ =>
        split
        · exact hr.carryOut c r.tag r.payload
        · exact hr.of_bus rfl

theorem compose_bus (s : State) : (compose s).bus = s.bus := by
  unfold compose
  split <;> rfl

theorem BusSound.serve (h : BusSound s) : BusSound (serve s) := by
  have hcount : BusSound (countRace s) := h.of_bus rfl
  unfold Machine.serve
  split_ifs
  · exact hcount.of_bus (compose_bus _)
  · exact hcount.takeRequest
  · exact h.takeRequest
  · exact h.of_bus (compose_bus _)
  · exact h

theorem BusSound.serveTimes (h : BusSound s) (n : Nat) : BusSound (serveTimes n s) := by
  induction n generalizing s with
  | zero => exact h
  | succ n ih => exact ih h.serve

theorem BusSound.settle (h : BusSound s) : BusSound (settle s) := h.serveTimes _

/-! ### The link (R169 to R179) -/

theorem acceptFrame_bus (kind : Byte) (r : Request) (s : State) : (acceptFrame kind r s).bus = s.bus := by
  unfold acceptFrame enterIntake overflow
  split_ifs
  · exact raise_bus _ _ _
  · rfl
  · exact raise_bus _ _ _

theorem parseByte_bus (b : Byte) (s : State) : (parseByte b s).bus = s.bus := by
  unfold parseByte
  split
  next => split_ifs <;> rfl
  next =>
    split
    · rfl
    · exact raise_bus _ _ _
  next => rfl
  next => rfl
  next =>
    unfold completeFrame
    split
    · exact raise_bus _ _ _
    · exact acceptFrame_bus _ _ _

theorem clockOut_bus (s : State) : (clockOut s).bus = s.bus := by
  unfold clockOut
  split
  · rfl
  · split_ifs <;> rfl

theorem BusSound.moveFirst (h : BusSound s) : BusSound (moveFirst s) := by
  have hcount : BusSound (countRace s) := h.of_bus rfl
  unfold Machine.moveFirst
  split_ifs
  · exact hcount.settle
  · exact hcount
  · exact h

theorem BusSound.exchange (h : BusSound s) (b : Byte) : BusSound (exchange b s) := by
  have hsent : BusSound (if sendsFrame s && s.resetting.isNone then Machine.moveFirst (clockOut s) else s) := by
    split
    · exact (h.of_bus (clockOut_bus s)).moveFirst
    · exact h
  unfold Machine.exchange
  dsimp only
  generalize (if sendsFrame s && s.resetting.isNone then Machine.moveFirst (clockOut s) else s) = t at hsent
  have hparsed : BusSound (if hears t then parseByte b t else t) := by
    split
    · exact hsent.of_bus (parseByte_bus b t)
    · exact hsent
  exact hparsed.settle.of_bus rfl

theorem BusSound.riseCS (h : BusSound s) : BusSound (riseCS s) := by
  unfold Machine.riseCS cutFrame
  split
  · split
    · exact h.of_bus (raise_bus _ _ _)
    · exact h.of_bus rfl
  · exact h

theorem BusSound.requestArrives (h : BusSound s) (code tag : Byte) (payload : List Byte) :
    BusSound (requestArrives code tag payload s) := by
  unfold Machine.requestArrives
  split
  · exact h
  · exact h.of_bus (acceptFrame_bus _ _ _)

end

end Sys2Proof.Machine
end

section
/-! Every command and every step keeps the bus side sound (O57). -/
namespace Sys2Proof.Machine

section
variable {s t : State}

/-- A command that ends in a sound bus side answers one: the handler and the arbiter keep it. -/
theorem BusSound.finish (h : BusSound s) (he : finish s = .next t) : BusSound t := by
  obtain rfl := Host.Outcome.next.inj he
  exact h.settle

/-- A startup listen runs in LISTEN alone (R22). -/
theorem listen_of_startupListen (h : DeferredSound s) {m : Nat} (hm : s.tb.startupListen = some m) :
    s.tb.sync = .listen := by
  unfold DeferredSound at h
  split at h
  next =>
    rw [hm] at h
    cases h.2
  next d _ =>
    split at h
    next => exact h.2.2.1
    next =>
      rw [hm] at h
      cases h.2.1

/-- The end of a reset touches the link alone (R165, R166). -/
theorem BusSound.resetEnd (h : BusSound s) : BusSound (match s.resetting with
    | some cause => releaseReset cause s
    | none => s) := by
  split
  · exact h.of_bus rfl
  · exact h

theorem BusSound.fallCS (h : BusSound s) : BusSound (fallCS s) := by
  unfold Machine.fallCS
  split
  · exact h
  · exact h.of_bus rfl

/-- A command that does something under a condition, and else nothing. -/
theorem BusSound.guarded {x : State} (h : BusSound s) {c : Bool} (hx : c = true → BusSound x) :
    BusSound (if c then x else s) := by
  split
  next hc => exact hx hc
  next => exact h

/-- Every command keeps the bus side sound; only the end of the startup listen needs to know in which sync state it comes. -/
theorem BusSound.exec (h : BusSound s) (hd : DeferredSound s) {c : Instr} (he : exec c s = .next t) : BusSound t := by
  cases c with
  | ident | config | cfgget | start | stop | stat | reset | eput | edel | eget | tclr | tload | tchk | tcommit | tcancel
  | bsetup | bwrite | bread | bstat | lsetDisable | lsetEnable | lsetClear | lstat | spost | scancel | slist | rfetch | rdrop
  | rthresh | gset | nmask | nack | evread => exact (h.requestArrives _ _ _).finish he
  | unknownRequest tag code payload => exact (h.guarded fun _ => h.requestArrives code tag payload).finish he
  | inboundFrameComplete b | frameLength b | syncByteClockedOut b | frameClockedOut b | exchangeComplete b =>
    exact (h.guarded fun _ => h.exchange b).finish he
  | transactionStart => exact h.fallCS.finish he
  | transactionEnd => exact h.riseCS.finish he
  | notificationFrameComposed => exact (h.guarded fun _ => h.of_bus (compose_bus s)).finish he
  | powerReset => exact (BusSound.of_reset (s := holdReset .power s) rfl).finish he
  | pinReset => exact (BusSound.of_reset (s := holdReset .pin s) rfl).finish he
  | resetEnd => exact h.resetEnd.finish he
  | cycleStart first => exact (h.guarded fun hc => h.cycleStartEvent hc first).finish he
  | cycleMarkPulseEnd =>
    refine BusSound.finish ?_ he
    split
    · exact h.endPulse _
    · exact h
  | startupListenExpiry =>
    refine BusSound.finish ?_ he
    split
    next m hm => exact h.expireListen (listen_of_startupListen hd hm) m
    next => exact h
  | beaconDeadline => exact (h.guarded fun hc => h.meetDeadline hc).finish he
  | holdoverLimitReached =>
    refine (h.guarded fun hc => h.meetDeadline ?_).finish he
    simp only [limitComes, Bool.and_eq_true] at hc
    exact hc.1.1.1
  | freeMessageEnd l elapsed m =>
    refine (h.guarded fun hc => ?_).finish he
    rw [Bool.and_eq_true] at hc
    exact (h.pass hc.1).endFree l m.body
  | sendWindowStart => exact (h.windowStart fun ht hdue hr => ht.openSend hdue hr).finish he
  | expectWindowStart => exact (h.windowStart fun ht hdue hr => ht.openExpect hdue hr).finish he
  | openWindowStart => exact (h.windowStart fun ht hdue hr => ht.openOpen hdue hr).finish he
  | quietWindowStart => exact (h.windowStart fun ht hdue hr => ht.openQuiet hdue hr).finish he
  | breach l offset => exact (h.carrierStart l offset).finish he
  | expectWindowEnd a b => exact (h.closeExpect a b).finish he
  | windowEnd => exact h.closeWindow.finish he
  | sendLaunchEnd a b => exact (h.launchEnd fun ht hx hk => ht.endSend hx hk a b).finish he
  | sporadicLaunchEnd a b => exact (h.launchEnd fun ht hx hk => ht.endSporadic hx hk a b).finish he
  | beaconLaunchEnd a b => exact (h.launchEnd fun ht hx hk => ht.endBeacon hx hk a b).finish he
  | expiry => exact (h.guarded fun _ => h.expireDue).finish he
  | holdExpired l =>
    refine (h.guarded fun hc => ?_).finish he
    simp only [holdServed, Bool.and_eq_true, beq_iff_eq] at hc
    exact h.enterProbation _ (.inl hc.2.1.1)
  | probationPassed l => exact (h.guarded fun _ => h.promoteLane l).finish he

theorem BusSound.microtick (h : BusSound s) : BusSound (microtick s) := by
  unfold Machine.microtick
  split
  · exact h
  · split
    · exact h.guarded fun hr => h.passTo hr
    next hr =>
      obtain ⟨hw, hl⟩ := h.quiet (Bool.eq_false_iff.2 hr)
      exact h.clock hw hl s.tb (Nat.le_succ s.now)

/-- Every step keeps the bus side sound. -/
theorem BusSound.step (h : BusSound s) (hd : DeferredSound s) (he : step s = .next t) : BusSound t := by
  unfold Machine.step at he
  split at he
  next c rest _ =>
    have hp : BusSound { s with pending := rest } := h.of_bus rfl
    exact hp.exec hd he
  next =>
    split at he
    next c _ =>
      have hc : BusSound (countRace s) := h.of_bus rfl
      exact hc.exec hd he
    next =>
      obtain rfl := Host.Outcome.next.inj he
      exact h.microtick

end

/-- Settles O57: the bus side is part of what every step keeps. -/
theorem busSideStaysSound : Obligations.BusSideStaysSound := by
  intro s t hinv hstep
  have h := (BusSound.of_inv hinv).step hinv.deferred hstep
  exact ⟨h.window, h.launch, h.onAir, h.receivers .A, h.receivers .B, h.lanes .A, h.lanes .B⟩

end Sys2Proof.Machine
end

section
/-! The configuration, the timebase and the clock as one invariant, and the operations that leave it alone. -/
namespace Sys2Proof.Machine

/-! ### The part of the state that the timebase speaks of -/

/-- The fields on which the soundness of the timebase depends. -/
structure Clock where
  cfg : Params
  tb : Timebase
  now : Nat

/-- The configuration, the timebase and the clock of a state. -/
def State.clock (s : State) : Clock := { cfg := s.cfg, tb := s.tb, now := s.now }

/-- A state with these. -/
def Clock.state (c : Clock) : State := { State.held with cfg := c.cfg, tb := c.tb, now := c.now }

/-- Cycles that have ended lie before this moment, and their own moments agree (R11). -/
def PastSound (now : Nat) (past : List PastCycle) : Prop :=
  ∀ c ∈ past, c.began ≤ c.ended ∧ c.ended ≤ now ∧ (c.began + c.offset = c.ended ∨ c.began + c.offset = c.ended + 20)

/-- The timebase is sound, as far as the configuration and the clock tell. -/
structure TimeSound (s : State) : Prop where
  params : ParamsSound s.cfg
  still : s.tb.sync.running = false → s.tb.offset = 0 ∧ s.tb.markUntil = none ∧ s.tb.atCycleStart = false
  cycle : CycleSound s
  clock : ClockSound s
  sync : SyncSound s

section
variable {s t : State}

theorem TimeSound.of_inv (h : Inv s) : TimeSound s where
  params := h.params
  still hr := by
    obtain ⟨ho, hm, ha, -⟩ := h.still hr
    exact ⟨ho, hm, ha⟩
  cycle := h.cycle
  clock := h.clock
  sync := h.sync

/-- The soundness of the timebase is that of its part of the state. -/
theorem timeSound_iff (s : State) : TimeSound s ↔ TimeSound s.clock.state :=
  ⟨fun h => ⟨h.params, h.still, h.cycle, h.clock, h.sync⟩, fun h => ⟨h.params, h.still, h.cycle, h.clock, h.sync⟩⟩

theorem TimeSound.of_clock (h : TimeSound s) (hc : t.clock = s.clock) : TimeSound t := by
  rw [timeSound_iff, hc]
  exact (timeSound_iff s).1 h

theorem Posts.clock_eq {responses : List OutFrame} {notices : List Notice} (h : Posts responses notices s t) :
    t.clock = s.clock := by
  obtain ⟨n, new, r, rfl, -⟩ := h
  rfl

theorem Does.clock_eq {op f : State → State} {resp : State → List OutFrame} {said : State → List Notice}
    (d : Does op f resp said) (s : State) : (op s).clock = (f s).clock := (d.posts s).clock_eq

/-! ### Operations that leave it alone -/

variable (s)

theorem raise_clock (e : Event) (d : Detail) : (raise e d s).clock = s.clock := (raise_does e d).clock_eq s

theorem fileRecord_clock (r : Record) : (fileRecord r s).clock = s.clock := (fileRecord_does r).clock_eq s

theorem insertRecord_clock (r : Record) : (insertRecord r s).clock = s.clock := by
  unfold insertRecord
  dsimp only
  split
  · exact raise_clock _ _ _
  · rfl

theorem raiseSyncChanged_clock (old : Sync) : (raiseSyncChanged old s).clock = s.clock := (raiseSyncChanged_does old).clock_eq s

theorem changeSync_clock (new : Sync) : (changeSync new s).clock = { s.clock with tb := { s.tb with sync := new } } :=
  (changeSync_does new).clock_eq s

theorem raiseBeaconMissed_clock : (raiseBeaconMissed s).clock = s.clock := raise_clock _ _ _

theorem raiseMasterConflict_clock (l : Lane) (number : BitVec 6) (sender : Nat) :
    (raiseMasterConflict l number sender s).clock = s.clock := raise_clock _ _ _

theorem answerDeferred_clock (kind : DeferredKind) (r : Result) : (answerDeferred kind r s).clock = s.clock :=
  (answerDeferred_does kind r).clock_eq s

theorem committed_clock : (committed s).clock = s.clock := by rw [committed_eq]; rfl

theorem settleCommit_clock (cause : CommitCause) : (settleCommit cause s).clock = s.clock :=
  ((settleCommit_does cause).clock_eq s).trans (committed_clock s)

theorem cutLaunch_clock (lanes : LaneSet) : (cutLaunch lanes s).clock = s.clock := by
  rcases cutLaunch_cases lanes s with ⟨-, h⟩ | ⟨x, -, ⟨-, h⟩ | ⟨-, h⟩⟩ <;> rw [h] <;> rfl

theorem laneLeaves_clock (l : Lane) : (laneLeaves l s).clock = s.clock := by rw [laneLeaves_keeps]; rfl

theorem stopped_clock : (stopped s).clock = s.clock := by rw [stopped_eq]; rfl

theorem graded_clock (l : Lane) (o : Outcome) (proved : Bool) : (graded l o proved s).clock = s.clock := by
  unfold graded
  split
  · exact laneLeaves_clock s l
  · rfl

theorem gradeOutcome_clock (l : Lane) (o : Outcome) (proved : Bool) (position : Option Nat) (cycle : BitVec 6) :
    (gradeOutcome l o proved position cycle s).clock = s.clock :=
  ((gradeOutcome_does l o proved position cycle).clock_eq s).trans (graded_clock s l o proved)

theorem gradeBeacon_clock (l : Lane) (o : Outcome) : (gradeBeacon l o s).clock = s.clock := gradeOutcome_clock _ _ _ _ _ _

theorem echoed_clock (l : Lane) (o : Outcome) : (echoed l o s).clock = s.clock := by
  unfold echoed
  split
  · exact laneLeaves_clock s l
  · rfl

theorem gradeEchoes_clock (k : LaunchKind) (position : Option Nat) (cycle : BitVec 6) (o : PerLane Outcome) :
    (gradeEchoes k position cycle o s).clock = s.clock :=
  ((gradeEchoes_does k position cycle o).clock_eq s).trans ((echoed_clock _ .B o.b).trans (echoed_clock s .A o.a))

theorem enterProbation_clock (l : Lane) (cause : LaneCause) : (enterProbation l cause s).clock = s.clock :=
  (enterProbation_does l cause).clock_eq s

theorem promoteLane_clock (l : Lane) : (promoteLane l s).clock = s.clock := (promoteLane_does l).clock_eq s

theorem laneCycleStart_clock (l : Lane) : (laneCycleStart l s).clock = s.clock := by
  rw [(laneCycleStart_does l).clock_eq, lived_eq]
  rfl

theorem raiseQueueEmpty_clock (ticket : Nat) (cause : Byte) (cycle : BitVec 6) :
    (raiseQueueEmpty ticket cause cycle s).clock = s.clock := by
  unfold raiseQueueEmpty
  split
  · exact raise_clock _ _ _
  · rfl

theorem expireAll_clock (gone : List SporadicEntry) : (gone.foldl (fun t e => expireEntry e t) s).clock = s.clock := by
  rw [(expireAll_posts gone (.refl s)).clock_eq, expiredAll_eq]
  rfl

theorem expireDue_clock : (expireDue s).clock = s.clock := by
  unfold expireDue
  split
  · rfl
  · exact (raiseQueueEmpty_clock _ _ _ _).trans (expireAll_clock s _)

theorem blockReactions_clock : (blockReactions s).clock = s.clock :=
  calc (blockReactions s).clock
    _ = (laneCycleStart .B (laneCycleStart .A (ageBuffers (settleCommit .cycleStart s)))).clock := expireDue_clock _
    _ = (ageBuffers (settleCommit .cycleStart s)).clock := (laneCycleStart_clock _ .B).trans (laneCycleStart_clock _ .A)
    _ = s.clock := settleCommit_clock s .cycleStart

theorem launchBeacon_clock (lanes : LaneSet) : (launchBeacon lanes s).clock = s.clock := by
  unfold launchBeacon
  split <;> rfl

/-! ### Window starts, window ends and launch ends leave it alone -/

section
variable (position : Nat) (e : Entry) (w : Window) (x : Launch)

theorem openSend_clock : (openSend position e s).clock = s.clock := by
  unfold openSend
  dsimp only
  split
  · rfl
  · split
    · unfold suppressSend
      dsimp only
      split
      · exact (fileRecord_clock _ _).trans (raise_clock _ _ _)
      · exact raise_clock _ _ _
    · split
      · unfold launchSend
        dsimp only
        split
        · exact raise_clock _ _ _
        · rfl
      · rfl

theorem openExpect_clock : (openExpect position e s).clock = s.clock := rfl

theorem openQuiet_clock : (openQuiet position e s).clock = s.clock := rfl

theorem openOpen_clock : (openOpen position e s).clock = s.clock := by
  unfold openOpen
  split
  · rfl
  · split <;> rfl

theorem breachAt_clock (l : Lane) (m : Nat) : (breachAt w l m s).clock = s.clock := (breachAt_posts w l m s).clock_eq

theorem applyToBuffer_clock (c : Combined) (f : Facts) : (applyToBuffer w c f s).clock = s.clock := by
  cases hb : w.entry.buffer with
  | none =>
    unfold applyToBuffer
    rw [hb]
  | some n => exact (applyToBuffer_does c f hb).clock_eq s

theorem endExpect_clock (a b : List Heard) : (endExpect w a b s).clock = s.clock := by
  unfold endExpect gradeWindow
  refine ((reportAlarm_does _ _ _).clock_eq _).trans ?_
  refine ((logRecord_does _ _).clock_eq _).trans ?_
  refine (applyToBuffer_clock _ _ _ _).trans ?_
  refine ((reportDisagree_does _ _).clock_eq _).trans ?_
  exact (gradeOutcome_clock _ _ _ _ _ _).trans (gradeOutcome_clock _ _ _ _ _ _)

theorem endSend_clock (a b : Echo) : (endSend x a b s).clock = s.clock := by
  have hg (position : Option Nat) (o : PerLane Outcome) :
      (gradeEchoes .send position x.cycle o (endLaunch x s)).clock = s.clock := gradeEchoes_clock _ _ _ _ _
  unfold endSend
  dsimp only
  split
  · split
    · exact (fileRecord_clock _ _).trans (hg _ _)
    · exact hg _ _
  · exact hg _ _

theorem endSporadic_clock (a b : Echo) : (endSporadic x a b s).clock = s.clock := by
  have hg (position : Option Nat) (o : PerLane Outcome) :
      (gradeEchoes .sporadic position x.cycle o (endLaunch x s)).clock = s.clock := gradeEchoes_clock _ _ _ _ _
  unfold endSporadic
  dsimp only
  split
  · exact ((completeSporadic_does _ _ _ _).clock_eq _).trans (hg _ _)
  · exact hg _ _

theorem endBeacon_clock (a b : Echo) : (endBeacon x a b s).clock = s.clock := gradeEchoes_clock _ _ _ _ _

end

end

end Sys2Proof.Machine
end

section
/-! The timebase stays sound through its own operations: time, cycle starts, beacons, deadlines, start and stop (Chapter 2). -/
namespace Sys2Proof.Machine

section
variable {s t : State}

/-! ### Time (R17) -/

theorem horizon_le_length (s : State) : horizon s ≤ s.tb.length := by
  unfold horizon
  cases s.sched.window <;> cases s.launch <;> simp

theorem TimeSound.passTo {m : Nat} (h : TimeSound s) (hr : reaches s m = true) : TimeSound (passTo m s) := by
  obtain ⟨hrun, hlo, hhi⟩ := (reaches_iff s m).1 hr
  obtain ⟨-, hlength⟩ := h.cycle hrun
  obtain ⟨hbegan, hmoment, hpast⟩ := h.clock
  refine ⟨h.params, fun hn => (nomatch hn.symm.trans hrun), fun _ => ⟨hhi.trans (horizon_le_length s), hlength⟩,
    ⟨hbegan.trans (Nat.le_add_right _ _), fun _ => ?_, fun c hc => ?_⟩, h.sync⟩
  · have := hmoment hrun
    change s.tb.began + m = s.now + (m - s.tb.offset) ∨ s.tb.began + m = s.now + (m - s.tb.offset) + 20
    omega
  · obtain ⟨horder, hended, hagree, hbefore⟩ := hpast c hc
    exact ⟨horder, hended.trans (Nat.le_add_right _ _), hagree, hbefore⟩

/-- While no cycle runs the clock alone moves. -/
theorem TimeSound.wait (h : TimeSound s) (hr : s.tb.sync.running = false) {now : Nat} (hn : s.now ≤ now) :
    TimeSound { s with now := now } := by
  obtain ⟨hbegan, -, hpast⟩ := h.clock
  refine ⟨h.params, h.still, h.cycle, ⟨hbegan.trans hn, fun hrun => (nomatch hr.symm.trans hrun), fun c hc => ?_⟩, h.sync⟩
  obtain ⟨horder, hended, hagree, hbefore⟩ := hpast c hc
  exact ⟨horder, hended.trans hn, hagree, hbefore⟩

theorem TimeSound.pass (h : TimeSound s) {elapsed : Nat} (hc : canPass elapsed s = true) : TimeSound (pass elapsed s) := by
  by_cases hr : s.tb.sync.running = true
  · rw [canPass, if_pos hr] at hc
    rw [Machine.pass, if_pos hr]
    exact h.passTo hc
  · rw [pass_idle (Bool.eq_false_iff.2 hr)]
    exact h.wait (Bool.eq_false_iff.2 hr) (Nat.le_add_right _ _)

theorem TimeSound.endPulse (h : TimeSound s) (m : Nat) : TimeSound (endPulse m s) := by
  have cleared {x : State} (hx : TimeSound x) : TimeSound (clearMark x) :=
    ⟨hx.params, fun hr => ⟨(hx.still hr).1, rfl, (hx.still hr).2.2⟩, hx.cycle, hx.clock, hx.sync⟩
  unfold Machine.endPulse
  dsimp only
  split
  · split
    next hr => exact cleared (h.passTo hr)
    next => exact h
  · exact cleared h

theorem TimeSound.microtick (h : TimeSound s) : TimeSound (microtick s) := by
  unfold Machine.microtick
  split
  · exact h
  · split
    · split
      next hr => exact h.passTo hr
      next => exact h
    next hr => exact h.wait (Bool.eq_false_iff.2 hr) (Nat.le_succ _)

/-! ### What the sync state tells (R20, R21) -/

theorem TimeSound.atOffline (h : TimeSound s) (hs : s.tb.sync = .offline) :
    s.tb.role = s.cfg.role ∧ s.tb.length = s.cfg.cycleLength ∧ s.tb.missed = 0 ∧ s.tb.lastTaken = none := by
  have hsync := h.sync
  unfold SyncSound at hsync
  rwa [hs] at hsync

theorem TimeSound.atListen (h : TimeSound s) (hs : s.tb.sync = .listen) :
    (s.tb.role = .master → s.tb.startupListen.isSome = true) ∧ s.tb.missed = 0 ∧ s.cfg.nodeId ≠ 0 := by
  have hsync := h.sync
  unfold SyncSound at hsync
  rwa [hs] at hsync

theorem TimeSound.atAcquire (h : TimeSound s) (hs : s.tb.sync = .acquire) :
    s.tb.role = .follower ∧ s.tb.missed = 0 ∧ s.cfg.nodeId ≠ 0 := by
  have hsync := h.sync
  unfold SyncSound at hsync
  rwa [hs] at hsync

theorem TimeSound.atLocked (h : TimeSound s) (hs : s.tb.sync = .locked) : s.tb.missed = 0 ∧ s.cfg.nodeId ≠ 0 := by
  have hsync := h.sync
  unfold SyncSound at hsync
  rwa [hs] at hsync

theorem TimeSound.atHoldover (h : TimeSound s) (hs : s.tb.sync = .holdover) :
    s.tb.role = .follower ∧ 1 ≤ s.tb.missed ∧ (s.tb.missed = 1 ∨ s.tb.missed < s.cfg.holdoverLimit) ∧
      s.cfg.nodeId ≠ 0 := by
  have hsync := h.sync
  unfold SyncSound at hsync
  rwa [hs] at hsync

/-- A node whose cycles run has a node id (R158). -/
theorem TimeSound.nodeId (h : TimeSound s) (hr : s.tb.sync.running = true) : s.cfg.nodeId ≠ 0 := by
  cases hs : s.tb.sync with
  | offline | listen => simp [hs, Sync.running] at hr
  | acquire => exact (h.atAcquire hs).2.2
  | locked => exact (h.atLocked hs).2
  | holdover => exact (h.atHoldover hs).2.2.2

theorem follower_of_not_master {role : Role} (h : role ≠ .master) : role = .follower := by
  cases role with
  | follower => rfl
  | master => exact absurd rfl h

/-! ### The moments of the clock (R11) -/

theorem PastSound.of_clock (h : ClockSound s) : PastSound s.now s.tb.past := fun c hc => by
  obtain ⟨-, -, hpast⟩ := h
  obtain ⟨horder, hended, hagree, -⟩ := hpast c hc
  exact ⟨horder, hended, hagree⟩

theorem PastSound.later {now later : Nat} {past : List PastCycle} (h : PastSound now past) (hn : now ≤ later) :
    PastSound later past := fun c hc => by
  obtain ⟨horder, hended, hagree⟩ := h c hc
  exact ⟨horder, hended.trans hn, hagree⟩

/-- The running cycle, ending now, is remembered with the moments it had. -/
theorem pastCycles_sound (h : ClockSound s) (hr : s.tb.sync.running = true) : PastSound s.now (pastCycles s) := by
  have hpast := PastSound.of_clock h
  obtain ⟨hbegan, hmoment, -⟩ := h
  intro c hc
  rcases List.mem_cons.1 hc with rfl | hc
  · exact ⟨hbegan, Nat.le_refl _, hmoment hr⟩
  · exact hpast c (List.mem_of_mem_filter hc)

theorem ClockSound.of_still (hr : s.tb.sync.running = false) (hb : s.tb.began ≤ s.now) (hp : PastSound s.now s.tb.past) :
    ClockSound s := by
  refine ⟨hb, fun hrun => (nomatch hr.symm.trans hrun), fun c hc => ?_⟩
  obtain ⟨horder, hended, hagree⟩ := hp c hc
  exact ⟨horder, hended, hagree, fun hrun => (nomatch hr.symm.trans hrun)⟩

/-- While the cycle runs on, its moments stay as they are. -/
theorem ClockSound.carry (h : ClockSound s) (hr : s.tb.sync.running = true) (hn : t.now = s.now)
    (hb : t.tb.began = s.tb.began) (ho : t.tb.offset = s.tb.offset) (hp : t.tb.past = s.tb.past) : ClockSound t := by
  obtain ⟨hbegan, hmoment, hpast⟩ := h
  unfold ClockSound
  rw [hn, hb, ho, hp]
  refine ⟨hbegan, fun _ => hmoment hr, fun c hc => ?_⟩
  obtain ⟨horder, hended, hagree, hbefore⟩ := hpast c hc
  exact ⟨horder, hended, hagree, fun _ => hbefore hr⟩

/-! ### A cycle begins (R18, R23, R31) -/

/-- A cycle of the nominal length begins now, at offset 0, or at 20 on a beacon, and what ran before is remembered. -/
structure Begins (t : State) : Prop where
  running : t.tb.sync.running = true
  offset : t.tb.offset = 0 ∨ t.tb.offset = 20
  length : t.tb.length = t.cfg.cycleLength
  began : t.tb.began = t.now
  past : PastSound t.now t.tb.past

theorem Begins.timeSound (h : Begins t) (hp : ParamsSound t.cfg) (hs : SyncSound t) : TimeSound t := by
  have hlength := h.length
  have hbegan := h.began
  have hoffset := h.offset
  obtain ⟨-, hnominal, -⟩ := id hp
  refine ⟨hp, fun hn => (nomatch hn.symm.trans h.running), fun _ => ?_, ⟨hbegan.le, fun _ => ?_, fun c hc => ?_⟩, hs⟩
  · omega
  · omega
  · obtain ⟨horder, hended, hagree⟩ := h.past c hc
    exact ⟨horder, hended, hagree, fun _ => hended.trans hbegan.ge⟩

/-- While cycles run, the sync state, the role and the missed count tell whether they agree. -/
theorem SyncSound.carry (h : SyncSound s) (hr : s.tb.sync.running = true) (hc : t.cfg = s.cfg)
    (hs : t.tb.sync = s.tb.sync) (ho : t.tb.role = s.tb.role) (hm : t.tb.missed = s.tb.missed) : SyncSound t := by
  unfold SyncSound at h ⊢
  rw [hs, ho, hm, hc]
  cases hx : s.tb.sync with
  | offline | listen => simp [hx, Sync.running] at hr
  | acquire | locked | holdover => rwa [hx] at h

theorem TimeSound.cycleStartEvent (h : TimeSound s) (hc : cycleEnds s = true) (first : Promotions) :
    TimeSound (cycleStartEvent first s) := by
  simp only [cycleEnds, Bool.and_eq_true] at hc
  have hp := h.passTo hc.2
  have hrun : s.tb.sync.running = true := ((reaches_iff _ _).1 hc.2).1
  have hbegin : TimeSound (beginCycle s) :=
    Begins.timeSound ⟨hrun, .inl rfl, rfl, rfl, pastCycles_sound hp.clock hrun⟩ h.params (h.sync.carry hrun rfl rfl rfl rfl)
  exact hbegin.of_clock ((launchBeacon_clock _ _).trans (blockReactions_clock _))

/-- The startup listen runs in LISTEN, and at its end the cycles begin (R22, R23). -/
theorem TimeSound.expireListen (h : TimeSound s) (hs : s.tb.sync = .listen) (moment : Nat) :
    TimeSound (expireListen moment s) := by
  obtain ⟨-, hmissed, hnode⟩ := h.atListen hs
  have hpast := (PastSound.of_clock h.clock).later (Nat.le_max_left s.now moment)
  let t : State := { s with
    now := max s.now moment
    tb := { s.tb with
      sync := .locked, startupListen := none, cycle := 0, offset := 0, length := s.cfg.cycleLength
      began := max s.now moment, beaconMark := false, deadlinePassed := false, atCycleStart := false
      markUntil := some (max s.now moment + 2) } }
  have ht : TimeSound t := Begins.timeSound ⟨rfl, .inl rfl, rfl, rfl, hpast⟩ h.params ⟨hmissed, hnode⟩
  have hc := changeSync_clock { s with now := max s.now moment, tb := { s.tb with startupListen := none } } .locked
  refine ht.of_clock ((answerDeferred_clock _ _ _).trans ((launchBeacon_clock _ _).trans ?_))
  exact congrArg (fun c : Clock => { c with tb := { c.tb with
    cycle := 0, offset := 0, length := c.cfg.cycleLength, began := c.now, beaconMark := false, deadlinePassed := false
    atCycleStart := false, markUntil := some (c.now + 2) } }) hc

/-! ### Beacons (R29 to R36) -/

theorem alignedTimebase_congr {number : BitVec 6} (h : t.clock = s.clock) :
    alignedTimebase number t = alignedTimebase number s := congrArg (fun c => alignedTimebase number c.state) h

theorem hardAlign_clock {number : BitVec 6} (hr : s.tb.sync.running = true) :
    (hardAlign number s).clock = { s.clock with tb := alignedTimebase number s } := by
  rw [hardAlign_running hr]
  refine (blockReactions_clock _).trans ?_
  exact congrArg (fun c : Clock => { c with tb := alignedTimebase number s }) (stopped_clock s)

theorem alignAndAcquire_clock {number : BitVec 6} (hr : s.tb.sync.running = true) : (alignAndAcquire number s).clock =
    { s.clock with tb := { alignedTimebase number s with sync := .acquire } } :=
  (changeSync_clock _ _).trans
    (congrArg (fun c : Clock => { c with tb := { c.tb with sync := .acquire } }) (hardAlign_clock hr))

/-- A running cycle ends with hard alignment, and the node is a follower in ACQUIRE (R27, R34, R36). -/
theorem TimeSound.realigned (h : TimeSound s) (hr : s.tb.sync.running = true) {number : BitVec 6}
    (ht : t.clock = { s.clock with tb := { alignedTimebase number s with sync := .acquire, role := .follower } }) :
    TimeSound t := by
  have hx : TimeSound (setTimebase { alignedTimebase number s with sync := .acquire, role := .follower } s) :=
    Begins.timeSound ⟨rfl, .inr rfl, rfl, rfl, pastCycles_sound h.clock hr⟩ h.params
      ⟨rfl, rfl, h.nodeId hr⟩
  exact hx.of_clock ht

theorem TimeSound.conflictInLocked (h : TimeSound s) (hr : s.tb.sync.running = true) (l : Lane) (number : BitVec 6)
    (sender : Nat) : TimeSound (conflictInLocked l number sender s) := by
  have hd : (raiseMasterConflict l number sender (demote (Machine.cutLaunch LaneSet.both s))).clock = (demote s).clock :=
    (raiseMasterConflict_clock _ _ _ _).trans
      (congrArg (fun c : Clock => { c with tb := { c.tb with role := .follower } }) (cutLaunch_clock s LaneSet.both))
  refine h.realigned (number := number) hr ((alignAndAcquire_clock ?_).trans ?_)
  · exact (congrArg (fun c : Clock => c.tb.sync.running) hd).trans hr
  · rw [alignedTimebase_congr hd, hd]
    rfl

theorem TimeSound.realignFromHoldover (h : TimeSound s) (hs : s.tb.sync = .holdover) (number : BitVec 6) :
    TimeSound (realignFromHoldover number s) := by
  have hrole := (h.atHoldover hs).1
  have hcut := cutLaunch_clock (synced .acquire s) LaneSet.both
  refine h.realigned (number := number) (by rw [hs]; rfl) ((raiseSyncChanged_clock _ _).trans ((hardAlign_clock ?_).trans ?_))
  · exact congrArg (fun c : Clock => c.tb.sync.running) hcut
  · have htb := alignedTimebase_congr (number := number) hcut
    rw [← hrole]
    exact congrArg₂ (fun (c : Clock) (tb : Timebase) => { c with tb := tb }) hcut htb

theorem TimeSound.hardAlign_acquire (h : TimeSound s) (hs : s.tb.sync = .acquire) (number : BitVec 6) :
    TimeSound (hardAlign number s) := by
  have hr : s.tb.sync.running = true := by rw [hs]; rfl
  refine h.realigned (number := number) hr ((hardAlign_clock hr).trans ?_)
  rw [← hs, ← (h.atAcquire hs).1]
  rfl

/-- The cycles begin on a beacon taken in LISTEN, and the node is a follower (R24, R34). -/
theorem TimeSound.startedOn (h : TimeSound s) (hs : s.tb.sync = .listen) (number : BitVec 6) :
    TimeSound (startedOn number .follower s) := by
  obtain ⟨-, -, hnode⟩ := h.atListen hs
  have hpast := PastSound.of_clock h.clock
  exact Begins.timeSound ⟨rfl, .inr rfl, rfl, rfl, hpast⟩ h.params ⟨rfl, rfl, hnode⟩

theorem TimeSound.actOnBeacon_listen (h : TimeSound s) (hs : s.tb.sync = .listen) (l : Lane) (stamp : Stamp)
    (number : BitVec 6) (sender : Nat) : TimeSound (actOnBeacon l stamp number sender s) := by
  rw [Machine.actOnBeacon_listen hs]
  split
  next => exact (h.startedOn hs number).of_clock (conflictInListen_posts (.refl s) hs).clock_eq
  next hn =>
    have hrole : s.tb.role = .follower := follower_of_not_master fun hm => hn ((h.atListen hs).1 hm)
    have hx : TimeSound (synced .acquire (begunIdle number s)) := by
      have hpast := PastSound.of_clock h.clock
      exact Begins.timeSound ⟨rfl, .inr rfl, rfl, rfl, hpast⟩ h.params ⟨hrole, rfl, (h.atListen hs).2.2⟩
    exact hx.of_clock (alignAndAcquire_idle_posts (.refl s) hs).clock_eq

/-- A beacon is taken 16 microseconds after its arrival, and an arrival in window lies no more than 20 after the start of a
cycle: so the running cycle has begun no longer ago than 36 (R29, R30). -/
theorem offset_of_inWindow (h : TimeSound s) (hr : s.tb.sync.running = true)
    (hw : inWindow s.cfg (phaseError s (stampOf s (s.now - 16))) = true) : s.tb.offset ≤ 36 := by
  obtain ⟨-, hmoment, -⟩ := h.clock
  have hm := hmoment hr
  rcases Nat.lt_or_ge s.now (s.tb.began + 16) with hb | hb
  · omega
  · obtain ⟨-, -, -, ⟨-, hlock⟩, -⟩ := h.params
    obtain ⟨hlength, -⟩ := h.cycle hr
    rw [stampOf_this hr hb, inWindow_iff, phaseError] at hw
    split at hw <;> omega

/-- An in-window beacon gives the running cycle a length that it has not passed (R32). -/
theorem TimeSound.lockedOn (h : TimeSound s) (hr : s.tb.sync.running = true) (ho : s.tb.offset ≤ 36) (e : Int)
    (number : BitVec 6) : TimeSound (lockedOn e number s) := by
  obtain ⟨-, ⟨hnominal, -⟩, -, -, ⟨-, hlimit⟩, -⟩ := h.params
  have hlength : s.cfg.cycleLength ≤ (Machine.lockedOn e number s).tb.length + s.cfg.correctionLimit ∧
      (Machine.lockedOn e number s).tb.length ≤ s.cfg.cycleLength + s.cfg.correctionLimit := by
    simp only [Machine.lockedOn, setTimebase, correction]
    omega
  have hmissed : (if s.tb.sync = .holdover then 0 else s.tb.missed) = 0 := by
    cases hs : s.tb.sync with
    | offline | listen => simp [hs, Sync.running] at hr
    | holdover => rfl
    | acquire => exact (h.atAcquire hs).2.1
    | locked => exact (h.atLocked hs).1
  refine ⟨h.params, fun hn => (nomatch hn), fun _ => ⟨?_, hlength⟩, h.clock.carry hr rfl rfl rfl rfl,
    ⟨hmissed, h.nodeId hr⟩⟩
  have hoffset : (Machine.lockedOn e number s).tb.offset = s.tb.offset := rfl
  omega

/-- The timebase acts on a beacon whose arrival, if in window, lies close to the start of the running cycle. -/
theorem TimeSound.actOnBeacon (h : TimeSound s) {stamp : Stamp}
    (ho : s.tb.sync.running = true → inWindow s.cfg (phaseError s stamp) = true → s.tb.offset ≤ 36) (l : Lane)
    (number : BitVec 6) (sender : Nat) : TimeSound (actOnBeacon l stamp number sender s) := by
  have hlock (hr : s.tb.sync.running = true) (hrole : s.tb.role = .follower)
      (hw : inWindow s.cfg (phaseError s stamp) = true) : TimeSound (Machine.actOnBeacon l stamp number sender s) := by
    rw [actOnBeacon_inWindow hr hrole hw]
    exact (h.lockedOn hr (ho hr hw) _ number).of_clock (lockOn_posts (.refl s) hr hrole).clock_eq
  cases hs : s.tb.sync with
  | offline => simpa only [Machine.actOnBeacon, hs] using h
  | listen => exact h.actOnBeacon_listen hs l stamp number sender
  | acquire =>
    by_cases hw : inWindow s.cfg (phaseError s stamp) = true
    · exact hlock (by rw [hs]; rfl) (h.atAcquire hs).1 hw
    · simp only [Machine.actOnBeacon, hs, hw, if_false, Bool.false_eq_true]
      exact h.hardAlign_acquire hs number
  | locked =>
    by_cases hrole : s.tb.role = .master
    · simp only [Machine.actOnBeacon, hs, hrole, if_true]
      exact h.conflictInLocked (by rw [hs]; rfl) l number sender
    · have hfollower := follower_of_not_master hrole
      by_cases hw : inWindow s.cfg (phaseError s stamp) = true
      · exact hlock (by rw [hs]; rfl) hfollower hw
      · simp only [Machine.actOnBeacon, hs, hrole, hw, if_false, Bool.false_eq_true]
        exact h.of_clock (raise_clock _ _ _)
  | holdover =>
    by_cases hw : inWindow s.cfg (phaseError s stamp) = true
    · exact hlock (by rw [hs]; rfl) (h.atHoldover hs).1 hw
    · simp only [Machine.actOnBeacon, hs, hw, if_false, Bool.false_eq_true]
      exact h.realignFromHoldover hs number

/-! ### Messages heard in FREE mode (R10, R15) -/

/-- A receiver that takes a message is not OFF, so the part is not OFFLINE (R10). -/
theorem not_offline_of_hearsFree {l : Lane} {lead : Nat} {m : Message} (h : hearsFree s l lead m = true) :
    s.tb.sync ≠ .offline := by
  intro hs
  have hoff : receiverMode s l = .off := if_pos (.inl hs)
  unfold hearsFree takesFree at h
  split at h
  · simp [hoff] at h
  · cases h

/-- A GOOD beacon outcome is a beacon's, with its header and its check right (R15). -/
theorem beaconOutcome_good {stamp : Stamp} {m : Message} (h : beaconOutcome s stamp m = some .good) :
    m.age = some 16 := by
  cases hc : freeCheckRight m with
  | false =>
    rw [beaconOutcome_wrong hc] at h
    split at h <;> simp at h
  | true =>
    unfold beaconOutcome at h
    rw [hc] at h
    cases hh : m.header with
    | none => simp [hh] at h
    | some x =>
      obtain ⟨h1, h2⟩ := x
      by_cases hb : freeIsBeacon h1 h2 = true
      · exact beacon_age hc hh hb
      · simp only [hh, hb] at h
        split at h <;> simp_all

/-- A beacon taken is remembered with its moment (R29). -/
theorem TimeSound.taken (h : TimeSound s) (hs : s.tb.sync ≠ .offline) :
    TimeSound (setTimebase { s.tb with lastTaken := some s.now } s) := by
  refine ⟨h.params, h.still, h.cycle, h.clock, ?_⟩
  have hsync : (setTimebase { s.tb with lastTaken := some s.now } s).tb.sync = s.tb.sync := rfl
  unfold SyncSound
  rw [hsync]
  cases hx : s.tb.sync with
  | offline => exact absurd hx hs
  | listen => exact h.atListen hx
  | acquire => exact h.atAcquire hx
  | locked => exact h.atLocked hx
  | holdover => exact h.atHoldover hx

theorem TimeSound.freeMessage (h : TimeSound s) (hs : s.tb.sync ≠ .offline) {k : Nat} {m : Message} (ha : m.age = some k)
    (l : Lane) : TimeSound (freeMessage l (stampOf s (s.now - k)) m s) := by
  unfold Machine.freeMessage
  split
  next hgood =>
    obtain rfl : k = 16 := Option.some.inj (ha.symm.trans (beaconOutcome_good hgood))
    have hg := gradeBeacon_clock s l .good
    unfold Machine.takeBeacon
    dsimp only
    split
    next => exact h.of_clock hg
    next =>
      generalize gradeBeacon l .good s = y at hg
      have hy : TimeSound y := h.of_clock hg
      have htb : y.tb = s.tb := congrArg Clock.tb hg
      have hcfg : y.cfg = s.cfg := congrArg Clock.cfg hg
      refine TimeSound.actOnBeacon (s := setTimebase { y.tb with lastTaken := some y.now } y)
        (hy.taken (by rw [htb]; exact hs)) (fun hr hw => ?_) l _ _
      have hw' : inWindow s.cfg (phaseError s (stampOf s (s.now - 16))) = true := by
        have hphase (stamp : Stamp) :
            phaseError (setTimebase { y.tb with lastTaken := some y.now } y) stamp = phaseError s stamp := by
          unfold phaseError setTimebase
          rw [htb]
        rw [hphase] at hw
        exact hcfg ▸ hw
      have hr' : s.tb.sync.running = true := htb ▸ hr
      have := offset_of_inWindow h hr' hw'
      exact htb ▸ this
  next => exact h.of_clock (gradeBeacon_clock _ _ _)
  next => exact h

/-! ### Missed beacons (R33 to R36) -/

theorem fallToListen_clock (s : State) : (fallToListen s).clock = { s.clock with tb := { s.tb with
    sync := .listen, offset := 0, missed := 0, past := pastCycles s, atCycleStart := false, markUntil := none } } := by
  refine (settleCommit_clock _ _).trans ((raiseSyncChanged_clock _ _).trans ?_)
  exact congrArg (fun c : Clock => { c with tb := { c.tb with
    sync := .listen, offset := 0, missed := 0, past := pastCycles c.state, atCycleStart := false, markUntil := none } })
    (stopped_clock s)

/-- A follower falls to LISTEN, whatever its missed count (R34, R36). -/
theorem TimeSound.fallToListen (hp : ParamsSound s.cfg) (hc : ClockSound s) (hr : s.tb.sync.running = true)
    (hrole : s.tb.role = .follower) (hn : s.cfg.nodeId ≠ 0) : TimeSound (fallToListen s) := by
  have hx : TimeSound (setTimebase { s.tb with
      sync := .listen, offset := 0, missed := 0, past := pastCycles s, atCycleStart := false, markUntil := none } s) := by
    have hpast := pastCycles_sound hc hr
    exact ⟨hp, fun _ => ⟨rfl, rfl, rfl⟩, fun hrun => (nomatch hrun), .of_still rfl hc.1 hpast,
      ⟨fun hm => (nomatch hm.symm.trans hrole), rfl, hn⟩⟩
  exact hx.of_clock (fallToListen_clock s)

theorem TimeSound.missedBeacon (h : TimeSound s) (hr : s.tb.sync.running = true) (hrole : s.tb.role = .follower) :
    TimeSound (missedBeacon s) := by
  have hnode := h.nodeId hr
  unfold Machine.missedBeacon
  cases hs : s.tb.sync with
  | offline | listen => simp [hs, Sync.running] at hr
  | acquire => exact .fallToListen h.params h.clock hr hrole hnode
  | locked =>
    have ht : TimeSound (setTimebase { s.tb with sync := .holdover, missed := 1 } s) :=
      ⟨h.params, fun hn => (nomatch hn), fun _ => h.cycle hr, h.clock.carry hr rfl rfl rfl rfl,
        ⟨hrole, Nat.le_refl _, .inl rfl, hnode⟩⟩
    exact ht.of_clock ((raiseSyncChanged_clock _ _).trans (raiseBeaconMissed_clock _))
  | holdover =>
    have hm := raiseBeaconMissed_clock (setTimebase { s.tb with missed := s.tb.missed + 1 } s)
    dsimp only
    generalize raiseBeaconMissed (setTimebase { s.tb with missed := s.tb.missed + 1 } s) = y at hm
    have htb : y.tb = { s.tb with missed := s.tb.missed + 1 } := congrArg Clock.tb hm
    have hcfg : y.cfg = s.cfg := congrArg Clock.cfg hm
    have hclock : ClockSound y := h.clock.carry hr (congrArg Clock.now hm) (by rw [htb]) (by rw [htb]) (by rw [htb])
    split
    next => exact .fallToListen (hcfg ▸ h.params) hclock (htb ▸ hr) (htb ▸ hrole) (hcfg ▸ hnode)
    next hlimit =>
      refine TimeSound.of_clock (s := setTimebase { s.tb with missed := s.tb.missed + 1 } s)
        ⟨h.params, h.still, h.cycle, h.clock, ?_⟩ hm
      have hlt : s.tb.missed + 1 < s.cfg.holdoverLimit := by
        rw [htb, hcfg] at hlimit
        exact Nat.lt_of_not_le hlimit
      unfold SyncSound
      rw [show (setTimebase { s.tb with missed := s.tb.missed + 1 } s).tb.sync = .holdover from hs]
      exact ⟨hrole, Nat.succ_le_succ (Nat.zero_le _), .inr hlt, hnode⟩

theorem TimeSound.meetDeadline (h : TimeSound s) (hd : deadlineDue s = true) : TimeSound (meetDeadline s) := by
  simp only [deadlineDue, Bool.and_eq_true, beq_iff_eq] at hd
  obtain ⟨⟨hrole, -⟩, hr⟩ := hd
  have hp := h.passTo hr
  have ht : TimeSound (setTimebase { (Machine.passTo (deadlineOffset s.cfg) s).tb with deadlinePassed := true }
      (Machine.passTo (deadlineOffset s.cfg) s)) := ⟨hp.params, hp.still, hp.cycle, hp.clock, hp.sync⟩
  unfold Machine.meetDeadline
  dsimp only
  split
  · exact ht
  · exact ht.missedBeacon ((reaches_iff _ _).1 hr).1 hrole

/-! ### Start and stop (R22, R38) -/

theorem TimeSound.startPart (h : TimeSound s) (hs : s.tb.sync = .offline) (hn : s.cfg.nodeId ≠ 0) :
    TimeSound (startPart s) := by
  obtain ⟨-, -, hmissed, -⟩ := h.atOffline hs
  have hstill := h.still (by rw [hs]; rfl)
  have hpast := PastSound.of_clock h.clock
  have listening {listen : Option Nat} (hl : s.cfg.role = .master → listen.isSome = true) : TimeSound (setTimebase
      { s.tb with role := s.cfg.role, sync := .listen, startupListen := listen } s) :=
    ⟨h.params, fun _ => hstill, fun hrun => (nomatch hrun), .of_still rfl h.clock.1 hpast, ⟨hl, hmissed, hn⟩⟩
  have hc := changeSync_clock (setTimebase { s.tb with role := s.cfg.role }
    (Machine.receivers LaneSet.both (Receiver.listen s.now) s)) .listen
  unfold Machine.startPart
  dsimp only
  split
  next => exact (listening fun _ => rfl).of_clock (congrArg (fun c : Clock => { c with
      tb := { c.tb with startupListen := some (c.now + 2 * c.cfg.cycleLength) } }) hc)
  next hm => exact (listening fun hx => absurd hx hm).of_clock hc

theorem TimeSound.stopPart (h : TimeSound s) : TimeSound (stopPart s) := by
  have hpast := PastSound.of_clock h.clock
  have hx : TimeSound (setTimebase { s.tb with
      sync := .offline, role := s.cfg.role, offset := 0, length := s.cfg.cycleLength, missed := 0
      startupListen := none, beaconMark := false, lastTaken := none, atCycleStart := false, markUntil := none } s) :=
    ⟨h.params, fun _ => ⟨rfl, rfl, rfl⟩, fun hrun => (nomatch hrun), .of_still rfl h.clock.1 hpast, ⟨rfl, rfl, rfl, rfl⟩⟩
  refine hx.of_clock ((answerDeferred_clock _ _ _).trans ((settleCommit_clock _ _).trans ((raiseSyncChanged_clock _ _).trans ?_)))
  exact congrArg (fun c : Clock => { c with tb := { c.tb with
    sync := .offline, role := c.cfg.role, offset := 0, length := c.cfg.cycleLength, missed := 0
    startupListen := none, beaconMark := false, lastTaken := none, atCycleStart := false, markUntil := none } })
    (stopped_clock s)

end

end Sys2Proof.Machine
end

section
/-! What a block's invariant keeps through the handler, the arbiter and the link follows from what its requests keep. -/
namespace Sys2Proof.Machine

/-! ### Changes of the link and the notification unit alone -/

/-- t is s but for the link, the notification unit, a reset's end and the model's own counts. -/
def LinkOnly (s t : State) : Prop :=
  t = { s with notif := t.notif, link := t.link, resetting := t.resetting, races := t.races, pending := t.pending }

section
variable {s t u : State}

theorem LinkOnly.trans (h : LinkOnly s t) (k : LinkOnly t u) : LinkOnly s u := by
  unfold LinkOnly at *
  rw [k, h]

theorem LinkOnly.clock_eq (h : LinkOnly s t) : t.clock = s.clock := by
  rw [h]
  rfl

variable (s)

theorem raise_linkOnly (e : Event) (d : Detail) : LinkOnly s (raise e d s) := by
  obtain ⟨n, new, r, h, -⟩ := raise_notifies e d s
  rw [h]
  rfl

theorem compose_linkOnly : LinkOnly s (compose s) := by
  obtain ⟨n, new, r, h, -⟩ := compose_notifies s
  rw [h]
  rfl

theorem acceptFrame_linkOnly (kind : Byte) (r : Request) : LinkOnly s (acceptFrame kind r s) := by
  unfold acceptFrame enterIntake overflow
  split_ifs
  · exact raise_linkOnly s _ _
  · rfl
  · exact raise_linkOnly s _ _

theorem parseByte_linkOnly (b : Byte) : LinkOnly s (parseByte b s) := by
  have hsync : LinkOnly s (setParser .sync s) := rfl
  unfold parseByte
  split
  next => split_ifs <;> rfl
  next =>
    split
    · rfl
    · exact hsync.trans (raise_linkOnly _ _ _)
  next => rfl
  next => rfl
  next =>
    unfold completeFrame
    split
    · exact hsync.trans (raise_linkOnly _ _ _)
    · exact hsync.trans (acceptFrame_linkOnly _ _ _)

theorem clockOut_linkOnly : LinkOnly s (clockOut s) := by
  unfold clockOut
  split
  · rfl
  · split_ifs <;> rfl

theorem fallCS_linkOnly : LinkOnly s (fallCS s) := by
  unfold fallCS
  split <;> rfl

theorem riseCS_linkOnly : LinkOnly s (riseCS s) := by
  have hcut : LinkOnly s (setParser .sync { s with link := { s.link with transaction := false, exchange := none } }) := rfl
  unfold riseCS cutFrame
  split
  · split
    · exact hcut.trans (raise_linkOnly _ _ _)
    · rfl
  · rfl

theorem requestArrives_linkOnly (code tag : Byte) (payload : List Byte) : LinkOnly s (requestArrives code tag payload s) := by
  unfold requestArrives
  split
  · rfl
  · exact acceptFrame_linkOnly s _ _

end

/-! ### The handler and the arbiter (R144, R180) -/

/-- The property does not depend on the link, and no request ends it. -/
structure Kept (P : State → Prop) : Prop where
  beside : ∀ {s t : State}, P s → LinkOnly s t → P t
  carryOut : ∀ {s : State} (c : Code) (tag : Byte) (p : List Byte), P s → P (carryOut c tag p s)

section
variable {P : State → Prop} {s t : State}

theorem Kept.takeRequest (k : Kept P) (h : P s) : P (takeRequest s) := by
  unfold Machine.takeRequest
  split
  next => exact h
  next r rest _ =>
    have hr : P (reserveFor rest s) := k.beside h rfl
    unfold Machine.checkRequest
    split
    next => exact k.beside hr rfl
    next =>
      split
      next => exact k.beside hr rfl
      next c _ =>
        split
        · exact k.carryOut c r.tag r.payload hr
        · exact k.beside hr rfl

theorem Kept.serve (k : Kept P) (h : P s) : P (serve s) := by
  have hcount : P (countRace s) := k.beside h rfl
  unfold Machine.serve
  split_ifs
  · exact k.beside hcount (compose_linkOnly _)
  · exact k.takeRequest hcount
  · exact k.takeRequest h
  · exact k.beside h (compose_linkOnly _)
  · exact h

theorem Kept.serveTimes (k : Kept P) (n : Nat) (h : P s) : P (serveTimes n s) := by
  induction n generalizing s with
  | zero => exact h
  | succ n ih => exact ih (k.serve h)

theorem Kept.settle (k : Kept P) (h : P s) : P (settle s) := k.serveTimes _ h

/-- A command that ends in a state with the property answers one. -/
theorem Kept.finish (k : Kept P) (h : P s) (he : finish s = .next t) : P t := by
  obtain rfl := Host.Outcome.next.inj he
  exact k.settle h

/-- A command that does something under a condition, and else nothing. -/
theorem Kept.guarded (k : Kept P) {x : State} {c : Bool} (h : P s) (hx : c = true → P x)
    (he : Machine.finish (if c then x else s) = .next t) : P t := by
  refine k.finish ?_ he
  split
  next hc => exact hx hc
  next => exact h

theorem Kept.exchange (k : Kept P) (h : P s) (b : Byte) : P (exchange b s) := by
  have hmove {x : State} (hx : P x) : P (moveFirst x) := by
    have hcount : P (countRace x) := k.beside hx rfl
    unfold moveFirst
    split_ifs
    · exact k.settle hcount
    · exact hcount
    · exact hx
  have hsent : P (if sendsFrame s && s.resetting.isNone then moveFirst (clockOut s) else s) := by
    split
    · exact hmove (k.beside h (clockOut_linkOnly s))
    · exact h
  unfold Machine.exchange
  dsimp only
  generalize (if sendsFrame s && s.resetting.isNone then moveFirst (clockOut s) else s) = x at hsent
  have hparsed : P (if hears x then parseByte b x else x) := by
    split
    · exact k.beside hsent (parseByte_linkOnly x b)
    · exact hsent
  exact k.beside (k.settle hparsed) rfl

end

end Sys2Proof.Machine
end

section
/-! Requests, and then every command and every step, keep the timebase sound (O55). -/
namespace Sys2Proof.Machine

section
variable {s t : State}

/-! ### Requests (R182) -/

theorem firstBad_none {fields : List (Nat × Bool)} (h : firstBad fields = none) : ∀ x ∈ fields, x.2 = true := by
  induction fields with
  | nil => simp
  | cons x xs ih =>
    obtain ⟨offset, passes⟩ := x
    cases passes with
    | false => cases h
    | true => exact List.forall_mem_cons.2 ⟨rfl, ih h⟩

/-- A CONFIG that passes its tests carries parameters in their ranges (R154, R155). -/
theorem paramsSound_of_configBad {p : List Byte} (h : configBad p = none) : ParamsSound (configOf p) := by
  have hall := firstBad_none h
  simp only [List.forall_mem_cons, within, Bool.and_eq_true, decide_eq_true_eq] at hall
  obtain ⟨⟨-, hnode⟩, -, hlength, htol, hlock, hcorrection, hholdover, -, hdebit, hhold, hprobation, -⟩ := hall
  exact ⟨hnode, hlength, htol, hlock, hcorrection, hholdover, hdebit, hhold, hprobation⟩

theorem TimeSound.doConfig (h : TimeSound s) (tag : Byte) (p : List Byte) : TimeSound (doConfig tag p s) := by
  unfold Machine.doConfig
  split
  next => exact h.of_clock rfl
  next hs =>
    split
    next => exact h.of_clock rfl
    next hbad =>
      split
      next => exact h.of_clock rfl
      next =>
        have hsync : s.tb.sync = .offline := not_not.1 hs
        have hr : s.tb.sync.running = false := by rw [hsync]; rfl
        obtain ⟨-, -, hmissed, htaken⟩ := h.atOffline hsync
        have hx : TimeSound (storeConfig (configOf p) s) := by
          refine ⟨paramsSound_of_configBad hbad, h.still, fun hrun => (nomatch hr.symm.trans hrun), h.clock, ?_⟩
          unfold SyncSound
          rw [show (storeConfig (configOf p) s).tb.sync = .offline from hsync]
          exact ⟨rfl, rfl, hmissed, htaken⟩
        exact hx.of_clock rfl

theorem TimeSound.doStart (h : TimeSound s) (tag : Byte) : TimeSound (doStart tag s) := by
  unfold Machine.doStart
  split
  next => exact h.of_clock rfl
  next hs =>
    split
    next => exact h.of_clock rfl
    next hn =>
      have ht := h.startPart (not_not.1 hs) hn
      dsimp only
      split
      · exact ht.of_clock rfl
      · exact ht.of_clock rfl

theorem TimeSound.doStop (h : TimeSound s) (tag : Byte) : TimeSound (doStop tag s) := by
  unfold Machine.doStop
  split
  · exact h.of_clock rfl
  · exact h.stopPart.of_clock rfl

/-- A reset holds the timebase at its reset values (R165). -/
theorem TimeSound.of_reset (hc : s.clock = State.held.clock) : TimeSound s := by
  have hheld : TimeSound State.held :=
    ⟨by decide, fun _ => ⟨rfl, rfl, rfl⟩, by decide, by decide, ⟨rfl, rfl, rfl, rfl⟩⟩
  exact hheld.of_clock hc

/-- The requests that change neither the configuration nor the timebase. -/
theorem carryOut_clock {c : Code} (hc : c ≠ .config ∧ c ≠ .start ∧ c ≠ .stop ∧ c ≠ .reset) (tag : Byte) (p : List Byte)
    (s : State) : (carryOut c tag p s).clock = s.clock := by
  obtain ⟨hconfig, hstart, hstop, hreset⟩ := hc
  cases c with
  | config => exact absurd rfl hconfig
  | start => exact absurd rfl hstart
  | stop => exact absurd rfl hstop
  | reset => exact absurd rfl hreset
  | ident | cfgget | stat | lstat | slist => rfl
  | eput | edel | eget | tclr | tload | tchk =>
    simp only [carryOut, doEput, doEdel, doEget, doTclr, doTload, doTchk]
    repeat' split
    all_goals rfl
  | bsetup | bwrite | bread | bstat =>
    simp only [carryOut, doBsetup, doBwrite, doBread, doBstat]
    repeat' split
    all_goals rfl
  | spost | scancel | rfetch | rthresh | gset | nmask | nack | evread =>
    simp only [carryOut, doSpost, doScancel, doRfetch, doRthresh, doGset, doNmask, doNack, doEvread]
    repeat' split
    all_goals rfl
  | tcommit =>
    simp only [carryOut, doTcommit]
    repeat' split
    · rfl
    · rfl
    · rfl
    · exact raise_clock _ _ _
  | tcancel =>
    simp only [carryOut, doTcancel]
    split
    · exact (raise_clock _ _ _).trans (answerDeferred_clock _ .tcommit .cancelled)
    · rfl
  | rdrop =>
    simp only [carryOut, doRdrop]
    repeat' split
    · rfl
    · exact insertRecord_clock _ _
    · rfl
  | lset =>
    simp only [carryOut, doLset, laneDisable, laneEnable, laneClear]
    repeat' split
    · rfl
    · rfl
    · exact (raise_clock _ _ _).trans (laneLeaves_clock s _)
    · exact enterProbation_clock _ _ _
    · rfl
    · rfl
    · rfl
    · rfl

theorem TimeSound.kept : Kept TimeSound where
  beside h hl := h.of_clock hl.clock_eq
  carryOut c tag p h := by
    by_cases hc : c ≠ .config ∧ c ≠ .start ∧ c ≠ .stop ∧ c ≠ .reset
    · exact h.of_clock (carryOut_clock hc tag p _)
    · cases c with
      | config => exact h.doConfig tag p
      | start => exact h.doStart tag
      | stop => exact h.doStop tag
      | reset => exact .of_reset rfl
      | _ => exact absurd (by simp) hc

/-! ### Commands -/

theorem reaches_of_opens {role : EntryRole} {position : Nat} {e : Entry} (h : opens s role position = some e) :
    reaches s e.start = true := by
  unfold opens at h
  split at h
  next f _ =>
    split at h
    next hall =>
      obtain rfl := Option.some.inj h
      exact hall.2.2.1
    next => cases h
  next => cases h

/-- A window-start event of one role, where what the role does leaves the clock alone. -/
theorem TimeSound.windowStart (h : TimeSound s) {role : EntryRole} {start : Nat → Entry → State → State}
    (hs : ∀ (position : Nat) (e : Entry) (x : State), (start position e x).clock = x.clock) (position : Nat) :
    TimeSound (windowStart role start position s) := by
  unfold Machine.windowStart
  split
  next e he => exact (h.passTo (reaches_of_opens he)).of_clock (hs _ _ _)
  next => exact h

theorem TimeSound.launchEnd (h : TimeSound s) {kind : LaunchKind} {stop : Launch → State → State}
    (hs : ∀ (x : Launch) (y : State), (stop x y).clock = y.clock) : TimeSound (launchEnd kind stop s) := by
  unfold Machine.launchEnd
  split
  next x _ =>
    split
    next hc =>
      rw [Bool.and_eq_true] at hc
      exact (h.passTo hc.2).of_clock (hs _ _)
    next => exact h
  next => exact h

theorem TimeSound.carrierStart (h : TimeSound s) (l : Lane) (offset : Nat) : TimeSound (carrierStart l offset s) := by
  unfold Machine.carrierStart
  split
  next w _ =>
    split
    next hb =>
      simp only [isBreach, Bool.and_eq_true] at hb
      exact (h.passTo hb.1.1.1.2).of_clock (breachAt_clock _ _ _ _)
    next => exact h
  next => exact h

theorem TimeSound.closeExpect (h : TimeSound s) (a b : List Heard) : TimeSound (closeExpect a b s) := by
  unfold Machine.closeExpect
  split
  next w _ =>
    split
    next hc =>
      rw [Bool.and_eq_true] at hc
      exact (h.passTo hc.2).of_clock (endExpect_clock _ _ _ _)
    next => exact h
  next => exact h

theorem TimeSound.closeWindow (h : TimeSound s) : TimeSound (closeWindow s) := by
  unfold Machine.closeWindow
  split
  next w _ =>
    split
    next hc =>
      rw [Bool.and_eq_true] at hc
      exact (h.passTo hc.2).of_clock rfl
    next => exact h
  next => exact h

/-- A message that ends after time has passed: what the receiver does not take is not heard (R15). -/
theorem TimeSound.freeMessageEnd (h : TimeSound s) {l : Lane} {elapsed : Nat} {m : FreeMessage}
    (hp : canPass elapsed s = true) (hf : hearsFree (Machine.pass elapsed s) l m.lead m.body = true) :
    TimeSound (endFree l m.body (Machine.pass elapsed s)) := by
  have hpass := h.pass hp
  have hon := not_offline_of_hearsFree hf
  cases ha : m.body.age with
  | none => simp [hearsFree, ha] at hf
  | some k =>
    unfold Machine.endFree
    rw [ha]
    exact TimeSound.freeMessage (s := { Machine.pass elapsed s with
      rx := (Machine.pass elapsed s).rx.update l (Receiver.occupy (Machine.pass elapsed s).now) })
      (hpass.of_clock rfl) hon ha l

/-- Every command keeps the timebase sound; only the end of the startup listen needs to know in which sync state it comes. -/
theorem TimeSound.exec (h : TimeSound s) (hd : DeferredSound s) {c : Instr} (he : exec c s = .next t) : TimeSound t := by
  have k := TimeSound.kept
  have beside {x : State} (hx : LinkOnly s x) (he : finish x = .next t) : TimeSound t := k.finish (k.beside h hx) he
  cases c with
  | ident | config | cfgget | start | stop | stat | reset | eput | edel | eget | tclr | tload | tchk | tcommit | tcancel
  | bsetup | bwrite | bread | bstat | lsetDisable | lsetEnable | lsetClear | lstat | spost | scancel | slist | rfetch | rdrop
  | rthresh | gset | nmask | nack | evread => exact beside (requestArrives_linkOnly s _ _ _) he
  | unknownRequest tag code payload =>
    exact k.guarded h (fun _ => k.beside h (requestArrives_linkOnly s code tag payload)) he
  | inboundFrameComplete b | frameLength b | syncByteClockedOut b | frameClockedOut b | exchangeComplete b =>
    exact k.guarded h (fun _ => k.exchange h b) he
  | transactionStart => exact beside (fallCS_linkOnly s) he
  | transactionEnd => exact beside (riseCS_linkOnly s) he
  | notificationFrameComposed => exact k.guarded h (fun _ => k.beside h (compose_linkOnly s)) he
  | powerReset => exact k.finish (.of_reset (s := holdReset .power s) rfl) he
  | pinReset => exact k.finish (.of_reset (s := holdReset .pin s) rfl) he
  | resetEnd =>
    refine k.finish ?_ he
    split
    · exact k.beside h rfl
    · exact h
  | cycleStart first => exact k.guarded h (fun hc => h.cycleStartEvent hc first) he
  | cycleMarkPulseEnd =>
    refine k.finish ?_ he
    split
    · exact h.endPulse _
    · exact h
  | startupListenExpiry =>
    refine k.finish ?_ he
    split
    next m hm => exact h.expireListen (listen_of_startupListen hd hm) m
    next => exact h
  | beaconDeadline => exact k.guarded h (fun hc => h.meetDeadline hc) he
  | holdoverLimitReached =>
    refine k.guarded h (fun hc => h.meetDeadline ?_) he
    simp only [limitComes, Bool.and_eq_true] at hc
    exact hc.1.1.1
  | freeMessageEnd l elapsed m =>
    refine k.guarded h (fun hc => ?_) he
    rw [Bool.and_eq_true] at hc
    exact h.freeMessageEnd hc.1 hc.2
  | sendWindowStart position => exact k.finish (h.windowStart (fun p e x => openSend_clock x p e) position) he
  | expectWindowStart position => exact k.finish (h.windowStart (fun p e x => openExpect_clock x p e) position) he
  | openWindowStart position => exact k.finish (h.windowStart (fun p e x => openOpen_clock x p e) position) he
  | quietWindowStart position => exact k.finish (h.windowStart (fun p e x => openQuiet_clock x p e) position) he
  | breach l offset => exact k.finish (h.carrierStart l offset) he
  | expectWindowEnd a b => exact k.finish (h.closeExpect a b) he
  | windowEnd => exact k.finish h.closeWindow he
  | sendLaunchEnd a b => exact k.finish (h.launchEnd fun x y => endSend_clock y x a b) he
  | sporadicLaunchEnd a b => exact k.finish (h.launchEnd fun x y => endSporadic_clock y x a b) he
  | beaconLaunchEnd a b => exact k.finish (h.launchEnd fun x y => endBeacon_clock y x a b) he
  | expiry => exact k.guarded h (fun _ => h.of_clock (expireDue_clock s)) he
  | holdExpired l => exact k.guarded h (fun _ => h.of_clock (enterProbation_clock s l .holdExpired)) he
  | probationPassed l => exact k.guarded h (fun _ => h.of_clock (promoteLane_clock s l)) he

/-- Every step keeps the timebase sound. -/
theorem TimeSound.step (h : TimeSound s) (hd : DeferredSound s) (he : step s = .next t) : TimeSound t := by
  unfold Machine.step at he
  split at he
  next c rest _ =>
    have hp : TimeSound { s with pending := rest } := h.of_clock rfl
    exact hp.exec hd he
  next =>
    split at he
    next c _ =>
      have hc : TimeSound (countRace s) := h.of_clock rfl
      exact hc.exec hd he
    next =>
      obtain rfl := Host.Outcome.next.inj he
      exact h.microtick

end

/-- Settles O55: the timebase is part of what every step keeps; that nothing of a cycle is in progress where none runs is
the bus side's part (O57). -/
theorem timebaseStaysSound : Obligations.TimebaseStaysSound := by
  intro s t hinv hstep
  have h := (TimeSound.of_inv hinv).step hinv.deferred hstep
  have hbus := (BusSound.of_inv hinv).step hinv.deferred hstep
  refine ⟨h.params, fun hr => ?_, h.cycle, h.clock, h.sync⟩
  obtain ⟨hoffset, hmark, hstart⟩ := h.still hr
  exact ⟨hoffset, hmark, hstart, hbus.still hr⟩

end Sys2Proof.Machine
end

section
/-! What a step does with no command waiting: the part's own events in their order, and else a microtick (R17; log 4). -/
namespace Sys2Proof.Machine

section
variable {s : State} {c : Instr}

/-! ### The events that are due -/

theorem listenOver_eq_false (h : ∀ m, s.tb.startupListen = some m → s.now < m) : listenOver s = false := by
  unfold listenOver
  split
  next m hm => exact decide_eq_false (Nat.not_le.2 (h m hm))
  next => rfl

theorem pulseOver_eq_false (h : ∀ m, s.tb.markUntil = some m → s.now < m) : pulseOver s = false := by
  unfold pulseOver
  split
  next m hm => exact decide_eq_false (Nat.not_le.2 (h m hm))
  next => rfl

theorem windowEndDue_iff : windowEndDue s = true ↔
    ∃ w, s.sched.window = some w ∧ w.role.isExpect = false ∧ s.launch = none ∧ w.ends = s.tb.offset := by
  unfold windowEndDue
  cases s.sched.window with
  | none => simp
  | some w => simp [and_assoc]

theorem entryAt_iff {b : Bank} {position : Nat} {e : Entry} : b.entryAt position = some e ↔ b[position]? = some (some e) := by
  rw [Bank.entryAt, Option.join_eq_some_iff]

/-- The window of this entry at this position begins at this offset (R56). -/
def StartsHere (s : State) (position : Nat) (e : Entry) : Prop :=
  e.start = s.tb.offset ∧ (opens s e.role position).isSome = true

theorem opens_eq_some {position : Nat} {e : Entry} (he : s.sched.active.entryAt position = some e) {role : EntryRole} :
    (opens s role position).isSome = true ↔ opens s role position = some e := by
  unfold opens
  rw [he]
  dsimp only
  split <;> simp

/-- What the statement says of such a window. -/
theorem startsHere_iff {position : Nat} {e : Entry} (he : s.sched.active[position]? = some (some e)) :
    StartsHere s (0 + position) e ↔ s.sched.active.entryAt position = some e ∧ e.start = s.tb.offset ∧
      opens s e.role position = some e := by
  have hat := entryAt_iff.2 he
  rw [Nat.zero_add, StartsHere, opens_eq_some hat]
  exact (and_iff_right hat).symm

/-- With no window that begins here in the bank, none is due. -/
theorem windowDue_none {b : Bank} {i : Nat} (h : ∀ k e, b[k]? = some (some e) → ¬StartsHere s (i + k) e) :
    windowDue s b i = none := by
  induction b generalizing i with
  | nil => rfl
  | cons p b ih =>
    have hrest : windowDue s b (i + 1) = none := ih fun k e hk => by
      have := h (k + 1) e hk
      rwa [← Nat.add_assoc, Nat.add_right_comm] at this
    cases p with
    | none => exact hrest
    | some e => exact (if_neg (h 0 e rfl)).trans hrest

/-- Of the windows that begin here, that of the lowest position is due. -/
theorem windowDue_first {b : Bank} {i k : Nat} {e : Entry} (hk : b[k]? = some (some e)) (hs : StartsHere s (i + k) e)
    (hfirst : ∀ j f, j < k → b[j]? = some (some f) → ¬StartsHere s (i + j) f) :
    windowDue s b i = some (e.role.startRow (i + k)) := by
  induction b generalizing i k with
  | nil => simp at hk
  | cons p b ih =>
    cases k with
    | zero =>
      obtain rfl : p = some e := by simpa using hk
      exact if_pos hs
    | succ k =>
      have hrest : windowDue s b (i + 1) = some (e.role.startRow (i + (k + 1))) := by
        rw [← Nat.add_assoc, Nat.add_right_comm] at hs ⊢
        refine ih hk hs fun j f hj hf => ?_
        have := hfirst (j + 1) f (Nat.succ_lt_succ hj) hf
        rwa [← Nat.add_assoc, Nat.add_right_comm] at this
      cases p with
      | none => exact hrest
      | some f => exact (if_neg (hfirst 0 f (Nat.succ_pos k) rfl)).trans hrest

/-! ### The step with an empty queue -/

theorem step_of_selfTimed (hq : s.pending = []) (h : selfTimed s = some c) : step s = exec c (countRace s) := by
  unfold step
  rw [hq]
  dsimp only
  rw [h]

theorem step_of_waiting (hq : s.pending = []) (h : selfTimed s = none) : step s = .next (microtick s) := by
  unfold step
  rw [hq]
  dsimp only
  rw [h]

theorem selfTimed_reset (h : s.resetting.isSome = true) : selfTimed s = none := if_pos h

theorem selfTimed_listen (hr : s.resetting = none) (h : listenOver s = true) : selfTimed s = some .startupListenExpiry := by
  simp [selfTimed, hr, h]

theorem selfTimed_pulse (hr : s.resetting = none) (hl : listenOver s = false) (h : pulseOver s = true) :
    selfTimed s = some .cycleMarkPulseEnd := by
  simp [selfTimed, hr, hl, h]

theorem selfTimed_still (hr : s.resetting = none) (hl : listenOver s = false) (hp : pulseOver s = false)
    (h : s.tb.sync.running = false) : selfTimed s = none := by
  simp [selfTimed, hr, hl, hp, h]

/-- While a cycle runs, the end of a window comes before the beacon deadline, that before the end of the cycle, and that before
the start of a window. -/
theorem selfTimed_running (hr : s.resetting = none) (hl : listenOver s = false) (hp : pulseOver s = false)
    (h : s.tb.sync.running = true) : selfTimed s =
      if windowEndDue s then some .windowEnd
      else if deadlineDue s && s.tb.offset == deadlineOffset s.cfg then some .beaconDeadline
      else if cycleEnds s && s.tb.offset == s.tb.length then
        some (.cycleStart ⟨(Config.promotedFirst s.races).1, (Config.promotedFirst s.races).2⟩)
      else windowDue s s.sched.active 0 := by
  simp [selfTimed, hr, hl, hp, h]

theorem microtick_reset (h : s.resetting.isSome = true) : microtick s = s := if_pos h

theorem microtick_still (hr : s.resetting = none) (h : s.tb.sync.running = false) :
    microtick s = { s with now := s.now + 1 } := by
  simp [microtick, hr, h]

theorem microtick_running (hr : s.resetting = none) (h : s.tb.sync.running = true) :
    microtick s = if reaches s (s.tb.offset + 1) then { s with
      now := s.now + 1, tb := { s.tb with offset := s.tb.offset + 1, atCycleStart := false } } else s := by
  have hpass : passTo (s.tb.offset + 1) s = { s with
      now := s.now + 1, tb := { s.tb with offset := s.tb.offset + 1, atCycleStart := false } } := by
    simp [passTo]
  rw [← hpass]
  simp [microtick, hr, h]

end

/-- Settles O1: `selfTimed` finds the first event that is due, clause by clause. -/
theorem stepRunsACommandOrTheClock : Obligations.StepRunsACommandOrTheClock := by
  refine ⟨fun _ _ _ => rfl, ?_⟩
  intro s hq due windowOver deadline cycleOver starts
  refine ⟨fun hr => ?_, fun hr => ⟨?_, fun hlisten => ⟨?_, fun hpulse => ⟨fun hrun => ?_, fun hrun => ?_⟩⟩⟩⟩
  · have hsome : s.resetting.isSome = true := Option.isSome_iff_ne_none.2 hr
    rw [step_of_waiting hq (selfTimed_reset hsome), microtick_reset hsome]
  · intro m hm hle
    exact step_of_selfTimed hq (selfTimed_listen hr (by simpa [listenOver, hm] using hle))
  · intro m hm hle
    exact step_of_selfTimed hq (selfTimed_pulse hr (listenOver_eq_false hlisten) (by simpa [pulseOver, hm] using hle))
  · rw [step_of_waiting hq (selfTimed_still hr (listenOver_eq_false hlisten) (pulseOver_eq_false hpulse) hrun),
      microtick_still hr hrun]
  · have hself := selfTimed_running hr (listenOver_eq_false hlisten) (pulseOver_eq_false hpulse) hrun
    have hwindow : windowEndDue s = true ↔ windowOver := windowEndDue_iff
    have hdeadline : (deadlineDue s && s.tb.offset == deadlineOffset s.cfg) = true ↔ deadline := by
      rw [Bool.and_eq_true, beq_iff_eq]
      exact .rfl
    have hcycle : (cycleEnds s && s.tb.offset == s.tb.length) = true ↔ cycleOver := by
      rw [Bool.and_eq_true, beq_iff_eq]
    refine ⟨fun hw => ?_, fun hw hd => ?_, fun hw hd hc => ?_, fun hw hd hc => ?_⟩
    · exact step_of_selfTimed hq (hself.trans (if_pos (hwindow.2 hw)))
    · rw [if_neg (mt hwindow.1 hw), if_pos (hdeadline.2 hd)] at hself
      exact step_of_selfTimed hq hself
    · rw [if_neg (mt hwindow.1 hw), if_neg (mt hdeadline.1 hd), if_pos (hcycle.2 hc)] at hself
      exact ⟨_, step_of_selfTimed hq hself⟩
    · rw [if_neg (mt hwindow.1 hw), if_neg (mt hdeadline.1 hd), if_neg (mt hcycle.1 hc)] at hself
      refine ⟨fun position e hs hfirst => ?_, fun hnone => ?_⟩
      · have he := entryAt_iff.1 hs.1
        rw [windowDue_first he ((startsHere_iff he).2 hs) fun j f hj hf => mt (startsHere_iff hf).1 (hfirst j f hj),
          Nat.zero_add] at hself
        have hstep := step_of_selfTimed hq hself
        cases hrole : e.role <;> (rw [hrole] at hstep; exact hstep)
      · rw [windowDue_none fun k e he => mt (startsHere_iff he).1 (hnone k e)] at hself
        have hstep := step_of_waiting hq hself
        rw [microtick_running hr hrun] at hstep
        exact ⟨fun hreach => hstep.trans (congrArg _ (if_pos hreach)),
          fun hreach => hstep.trans (congrArg _ (if_neg (by rw [hreach]; decide)))⟩

end Sys2Proof.Machine
end

section
/-! A cycle reaches its length and the next begins (R18, R26); and the startup listen expires (R23). -/
namespace Sys2Proof.Machine

/-- A LOCKED master's beacon on these lanes, if any, as the statements spell it (R7, R26). -/
theorem launchBeacon_eq (lanes : LaneSet) (s : State) : launchBeacon lanes s = { s with
    launch := if s.tb.role = .master ∧ s.tb.sync = .locked ∧ lanes.isEmpty = false then
      some (beaconLaunch lanes s) else s.launch
    rx := if s.tb.role = .master ∧ s.tb.sync = .locked ∧ lanes.isEmpty = false then
      s.rx.on lanes (Receiver.abandon s.now) else s.rx } := by
  unfold launchBeacon
  split <;> rfl

theorem launchBeacon_blind (lanes : LaneSet) : Blind (launchBeacon lanes) := by
  intro n o r s
  rw [launchBeacon_eq, launchBeacon_eq]
  rfl

/-! ### The cycle-start event that ends a cycle -/

/-- The lanes on which the beacon of the next cycle goes out: those ACTIVE before the event, and of those promoted at it the
ones whose promotion comes first (R26, R98; log 7). -/
def beaconLanes (first : Promotions) (s : State) : LaneSet :=
  (activeLanes s).union ((activeLanes { s with lanes := ⟨s.lanes.a.afterCycle s.cfg, s.lanes.b.afterCycle s.cfg⟩ }).inter
    ⟨first.a, first.b⟩)

/-- What the blocks raise at the start of the cycle after the running one. -/
def startNotices (s : State) : List Notice :=
  commitNotices .cycleStart (s.tb.cycle + 1) s ++ s.lanes.a.cycleNotices .A s.cfg (s.tb.cycle + 1) ++
    s.lanes.b.cycleNotices .B s.cfg (s.tb.cycle + 1) ++ expiryNotices s.spor.expiring s.spor.surviving (s.tb.cycle + 1) ++
    RecordQueue.filingNoticesAll (s.tb.cycle + 1) (s.spor.expiring.map fun e => expiredRecord e (s.tb.cycle + 1)) s.recs

theorem reacted_lanes (s : State) :
    (reacted s).lanes = ⟨s.lanes.a.afterCycle s.cfg, s.lanes.b.afterCycle s.cfg⟩ := by
  rw [reacted, committed_eq]
  rfl

section
variable {s : State}

/-- The next cycle begins, every block reacts, and a LOCKED master's beacon goes out. -/
theorem cycleStartEvent_posts (hn : (s.spor.entries.map SporadicEntry.ticket).Nodup) (first : Promotions) :
    Posts (alignAnswers s) (startNotices s) (launchBeacon (beaconLanes first s) (reacted (beginCycle s)))
      (cycleStartEvent first s) := by
  have hb := blockReactions_posts (.refl (beginCycle s)) hn
  have hlanes : (blockReactions (beginCycle s)).lanes = ⟨s.lanes.a.afterCycle s.cfg, s.lanes.b.afterCycle s.cfg⟩ :=
    hb.lanes_eq.trans (reacted_lanes _)
  have hset : (activeLanes (beginCycle s)).union
      ((activeLanes (blockReactions (beginCycle s))).inter ⟨first.a, first.b⟩) = beaconLanes first s := by
    unfold beaconLanes activeLanes
    rw [hlanes]
    rfl
  have h := hb.map (launchBeacon_blind (beaconLanes first s))
  unfold cycleStartEvent startNotices
  dsimp only
  rw [hset, List.append_assoc _ (expiryNotices _ _ _)]
  exact h

/-- The blocks' reactions as the statement lists them. -/
theorem reacted_beginCycle (s : State) : reacted (beginCycle s) = { beginCycle s with
    sched := if s.sched.commitPending then { s.sched with active := s.sched.edit, commitPending := false } else s.sched
    bufs := s.bufs.map Buffer.aged, lanes := ⟨s.lanes.a.afterCycle s.cfg, s.lanes.b.afterCycle s.cfg⟩
    rx := s.rx.on (readmitted s.cfg s.lanes) (Receiver.listen (beginCycle s).now)
    spor := ⟨s.spor.surviving, s.spor.counter⟩
    recs := (s.spor.expiring.map fun e => expiredRecord e (s.tb.cycle + 1)).foldl RecordQueue.filed s.recs
    link := if s.sched.commitPending then s.link.withoutDeferred .tcommit else s.link } := by
  have hp : (beginCycle s).sched.commitPending = s.sched.commitPending := rfl
  unfold reacted committed
  rw [hp]
  cases s.sched.commitPending <;> rfl

end

/-- Settles O40: the cycle-start event is the timebase's part, the blocks' reactions, and the beacon launch. -/
theorem cycleStarts : Obligations.CycleStarts := by
  intro first s hends hreset hi ten hn number now lanes gone records usable launches heard
  have hc : exec (.cycleStart first) s = finish (cycleStartEvent first s) := by
    change execCycleStart first s = _
    rw [execCycleStart, if_pos hends]
  have hlaunch : s.launch = none := by
    simp only [cycleEnds, Bool.and_eq_true, Option.isNone_iff_eq_none] at hends
    exact hends.1.2
  have hposts := cycleStartEvent_posts hn first
  rw [reacted_beginCycle, launchBeacon_eq] at hposts
  have hlink : (if s.sched.commitPending then s.link.withoutDeferred .tcommit else s.link).intake = s.link.intake ∧
      (if s.sched.commitPending then s.link.withoutDeferred .tcommit else s.link).outbound = s.link.outbound := by
    split
    · exact withoutDeferred_queues .tcommit s.link
    · exact ⟨rfl, rfl⟩
  obtain ⟨t, ht, hposts', hraised, hanswers⟩ := answers_of_posts hc hposts (hlink.1.trans hi) rfl hlink.2 ten
  refine ⟨t, ht, ?_, hraised, ?_⟩
  · rw [cycleMark, hposts'.tb_eq, hposts'.now_eq]
    exact decide_eq_true (Nat.lt_add_of_pos_right (by decide))
  · rw [show (beginCycle s).launch = none from hlaunch] at hanswers
    exact hanswers

/-! ### The end of the startup listen (R23) -/

/-- The state when cycle 0 begins at this moment, in LOCKED. -/
def firstCycle (moment : Nat) (s : State) : State :=
  { s with
    now := max s.now moment
    tb := { s.tb with
      sync := .locked, startupListen := none, cycle := 0, offset := 0, length := s.cfg.cycleLength
      began := max s.now moment, beaconMark := false, deadlinePassed := false, atCycleStart := false
      markUntil := some (max s.now moment + 2) } }

section
variable {s : State}

/-- STATE_CHANGED is raised, cycle 0 begins with its beacon, and the deferred START is answered. -/
theorem expireListen_posts (moment : Nat) (s : State) :
    Posts (s.link.deferredAnswer .start .ok)
      [syncNotice s.tb.cycle s.tb.sync .locked s.tb.role (cycleByte s.tb.cycle)]
      (undefer .start (launchBeacon (activeLanes s) (firstCycle moment s))) (expireListen moment s) := by
  let waited : State := { s with now := max s.now moment, tb := { s.tb with startupListen := none } }
  have hc := (changeSync_does .locked).posts waited
  have hlanes : (changeSync .locked waited).lanes = s.lanes := hc.lanes_eq
  have hb := (hc.map (f := fun t => setTimebase { t.tb with
    cycle := 0, offset := 0, length := t.cfg.cycleLength, began := t.now, beaconMark := false, deadlinePassed := false
    atCycleStart := false, markUntil := some (t.now + 2) } t) fun _ _ _ _ => rfl).map (launchBeacon_blind (activeLanes s))
  have ha := (answerDeferred_does .start .ok).after hb
  have hset (tb : Timebase) : activeLanes (setTimebase tb (changeSync .locked waited)) = activeLanes s := by
    unfold activeLanes setTimebase
    rw [hlanes]
  have hlink : (launchBeacon (activeLanes s) (firstCycle moment s)).link = s.link := by rw [launchBeacon_eq]; rfl
  rw [← hlink]
  unfold expireListen
  dsimp only
  rw [hset]
  exact ha

/-- A master's beacon of cycle 0 goes out on the ACTIVE lanes; with none its receivers hear on. -/
theorem launchBeacon_firstCycle (hr : s.tb.role = .master) (hl : s.launch = none) (moment : Nat) :
    launchBeacon (activeLanes s) (firstCycle moment s) = { firstCycle moment s with
      rx := s.rx.on (activeLanes s) (Receiver.abandon (max s.now moment))
      launch := if (activeLanes s).isEmpty then none else some (beaconLaunch (activeLanes s) (firstCycle moment s)) } := by
  have hrole : (firstCycle moment s).tb.role = .master := hr
  have hsync : (firstCycle moment s).tb.sync = .locked := rfl
  have hlaunch : (firstCycle moment s).launch = none := hl
  rw [launchBeacon_eq, hrole, hsync, hlaunch]
  cases he : (activeLanes s).isEmpty with
  | false => simp [firstCycle]
  | true =>
    have hnone : activeLanes s = LaneSet.none := by
      simp only [LaneSet.isEmpty, Bool.not_eq_true', Bool.or_eq_false_iff] at he
      exact congrArg₂ LaneSet.mk he.1 he.2
    simp [firstCycle, hnone, on_none]

end

/-- Settles O42: the row is `expireListen` at the moment of the expiry. -/
theorem startupListenExpires : Obligations.StartupListenExpires := by
  intro m d s hm hd hrole hreset hi hlaunch ten now
  have hc : exec .startupListenExpiry s = finish (expireListen m s) := by
    change execStartupListenExpiry s = _
    simp only [execStartupListenExpiry, hm]
  have hposts := expireListen_posts m s
  have hanswer : s.link.deferredAnswer .start .ok = [responseFrame d .ok []] := by simp [Link.deferredAnswer, hd]
  have hlink : s.link.withoutDeferred .start = { s.link with deferred := none, reservations := s.link.reservations - 1 } := by
    simp [Link.withoutDeferred, hd]
  rw [launchBeacon_firstCycle hrole hlaunch, hanswer, hrole] at hposts
  obtain ⟨hi', ho'⟩ := withoutDeferred_queues .start s.link
  obtain ⟨t, ht, hposts', hraised, hanswers⟩ := answers_of_posts hc hposts (hi'.trans hi) rfl ho' ten
  refine ⟨t, ht, ?_, hraised, ?_⟩
  · rw [cycleMark, hposts'.tb_eq, hposts'.now_eq]
    exact decide_eq_true (Nat.lt_add_of_pos_right (by decide))
  · rw [← hlink]
    exact hanswers

end Sys2Proof.Machine
end

section
/-! The beacon deadline of a follower (R33 to R36): time alone passes, HOLDOVER begins or counts on, or cycles stop. -/
namespace Sys2Proof.Machine

/-! ### Cycles stop (R34, R36, R53, R57) -/

/-- Cycles have stopped on a fall to LISTEN. -/
def fallen (s : State) : State :=
  { s with
    tb := { s.tb with
      sync := .listen, offset := 0, missed := 0, atCycleStart := false, markUntil := none, past := pastCycles s }
    sched := stoppedSchedule s.sched, launch := none, spor := cutQueue s, rx := stoppedReceivers s
    link := if s.sched.commitPending then s.link.withoutDeferred .tcommit else s.link }

/-- The timebase has stopped, and a pending commit is not settled yet. -/
def halted (s : State) : State :=
  setTimebase { (stopped s).tb with
    sync := .listen, offset := 0, missed := 0, past := pastCycles (stopped s), atCycleStart := false, markUntil := none }
    (stopped s)

theorem halted_blind : Blind halted := fun n o r s => by
  unfold halted
  rw [stopped_blind]
  rfl

theorem committed_halted (s : State) : committed (halted s) = fallen s := by
  rw [committed_eq, halted, stopped_eq]
  rfl

/-- The events of a fall to LISTEN from this state. -/
def fallNotices (s : State) : List Notice :=
  syncNotice s.tb.cycle s.tb.sync .listen s.tb.role 0 :: commitNotices .cyclesStopped s.tb.cycle s

section
variable {x y : State} {notices : List Notice}

/-- STATE_CHANGED is raised, and then a pending commit takes effect (log 28). -/
theorem fallToListen_posts (h : Posts [] notices x y) :
    Posts (alignAnswers x) (notices ++ fallNotices x) (fallen x) (fallToListen y) := by
  have hs := (settleCommit_does .cyclesStopped).after ((raiseSyncChanged_does x.tb.sync).after (h.map halted_blind))
  unfold fallToListen
  dsimp only
  rw [h.tb_eq]
  rw [id_eq, committed_halted, List.append_assoc notices] at hs
  have hstopped : halted x = { x with
      tb := { x.tb with
        sync := .listen, offset := 0, missed := 0, past := pastCycles x, atCycleStart := false, markUntil := none }
      launch := none, spor := cutQueue x, rx := stoppedReceivers x, sched := { x.sched with window := none } } := by
    rw [halted, stopped_eq]
    rfl
  rw [hstopped] at hs
  exact hs

/-! ### A missed beacon (R34 to R36) -/

/-- The sync state and the missed count are these. -/
def countingMissed (sync : Sync) (count : Nat) (s : State) : State := setTimebase { s.tb with sync := sync, missed := count } s

/-- BEACON_MISSED with this count. -/
def missedNotice (count : Nat) (s : State) : Notice :=
  ⟨.beaconMissed, s.tb.cycle, ⟨byte count, cycleByte s.tb.cycle, 0, 0⟩⟩

theorem raiseBeaconMissed_posts (s : State) : Posts [] [missedNotice s.tb.missed s] s (raiseBeaconMissed s) :=
  (raise_does .beaconMissed (detail2 (byte s.tb.missed) (cycleByte s.tb.cycle))).posts s

theorem missedBeacon_locked (hs : x.tb.sync = .locked) :
    Posts [] [missedNotice 1 x, syncNotice x.tb.cycle .locked .holdover x.tb.role (cycleByte x.tb.cycle)]
      (countingMissed .holdover 1 x) (missedBeacon x) := by
  have h := (raiseSyncChanged_does .locked).after (raiseBeaconMissed_posts (countingMissed .holdover 1 x))
  unfold missedBeacon
  rw [hs]
  exact h

/-- What a missed beacon does in HOLDOVER, by the count it brings. -/
theorem missedBeacon_holdover (hs : x.tb.sync = .holdover) : missedBeacon x =
    if x.cfg.holdoverLimit ≤ x.tb.missed + 1 then fallToListen (raiseBeaconMissed (countingMissed .holdover (x.tb.missed + 1) x))
    else raiseBeaconMissed (countingMissed .holdover (x.tb.missed + 1) x) := by
  have hm : setTimebase { x.tb with missed := x.tb.missed + 1 } x = countingMissed .holdover (x.tb.missed + 1) x := by
    unfold countingMissed
    rw [← hs]
  have h := raiseBeaconMissed_posts (countingMissed .holdover (x.tb.missed + 1) x)
  unfold missedBeacon
  rw [hs]
  dsimp only
  rw [hm, h.tb_eq, h.cfg_eq]
  rfl

theorem missedBeacon_acquire (hs : x.tb.sync = .acquire) : missedBeacon x = fallToListen x := by
  unfold missedBeacon
  rw [hs]

end

/-! ### The deadline (R33) -/

/-- The state at the deadline of its cycle, before anything is made of it. -/
def atDeadline (s : State) : State :=
  { s with
    now := s.now + (21 + s.cfg.lockWindow - s.tb.offset)
    tb := { s.tb with
      offset := 21 + s.cfg.lockWindow, deadlinePassed := true
      atCycleStart := s.tb.atCycleStart && decide (21 + s.cfg.lockWindow = s.tb.offset) } }

section
variable {s : State}

theorem beaconDeadline_eq (hd : deadlineDue s = true) :
    exec .beaconDeadline s = finish (if s.tb.beaconMark then atDeadline s else missedBeacon (atDeadline s)) := by
  change execBeaconDeadline s = _
  rw [execBeaconDeadline, if_pos hd]
  rfl

/-- HOLDOVER_LIMIT_REACHED is the deadline at which the count reaches the limit (log 6). -/
theorem holdoverLimitReached_eq (hd : deadlineDue s = true) (hm : s.tb.beaconMark = false) (hs : s.tb.sync = .holdover)
    (hl : s.cfg.holdoverLimit ≤ s.tb.missed + 1) : exec .holdoverLimitReached s = exec .beaconDeadline s := by
  have hc : limitComes s = true := by simp [limitComes, hd, hm, hs, hl]
  change execHoldoverLimitReached s = execBeaconDeadline s
  rw [execHoldoverLimitReached, execBeaconDeadline, if_pos hc, if_pos hd]

/-- The fall of a follower whose missed count was changed at the deadline. -/
theorem fallen_countingMissed (sync : Sync) (count : Nat) (s : State) : fallen (countingMissed sync count s) = fallen s := by
  have hrx : stoppedReceivers (countingMissed sync count s) = stoppedReceivers s :=
    stoppedReceivers_beside (tb := { s.tb with sync := sync, missed := count }) (units := s.lanes) rfl
  unfold fallen
  rw [hrx]
  rfl

end

/-- Settles O43: by the mark and the sync state, what the deadline makes of a missed beacon. -/
theorem deadlineActsOnTheMissedBeacon : Obligations.DeadlineActsOnTheMissedBeacon := by
  intro s hd hreset hi ten at' now' fallen' answered missedNotice' stopped'
  have hexec := beaconDeadline_eq hd
  have hqueues : (fallen (atDeadline s)).link.intake = [] ∧ (fallen (atDeadline s)).link.outbound = s.link.outbound := by
    unfold fallen
    dsimp only
    split
    · obtain ⟨hi', ho'⟩ := withoutDeferred_queues .tcommit s.link
      exact ⟨hi'.trans hi, ho'⟩
    · exact ⟨hi, rfl⟩
  refine ⟨fun hm => ?_, fun hm hs => ?_, fun hm hs hl => ?_, fun hm hs hl => ?_, fun hm hs => ?_⟩ <;>
    simp only [hm, if_true, if_false, Bool.false_eq_true] at hexec
  · exact effect_of_posts hexec (.refl _) hi rfl ten
  · exact effect_of_posts hexec (missedBeacon_locked hs) hi rfl ten
  · rw [(missedBeacon_holdover (x := atDeadline s) hs).trans (if_neg (Nat.not_le.2 hl))] at hexec
    have h := effect_of_posts hexec (raiseBeaconMissed_posts _) hi rfl ten
    rw [countingMissed, ← hs] at h
    exact h
  · rw [(missedBeacon_holdover (x := atDeadline s) hs).trans (if_pos hl)] at hexec
    have h := fallToListen_posts (raiseBeaconMissed_posts (countingMissed .holdover ((atDeadline s).tb.missed + 1) (atDeadline s)))
    rw [fallen_countingMissed] at h
    obtain ⟨t, ht, -, hraised, hanswers⟩ := answers_of_posts hexec h hqueues.1 rfl hqueues.2 ten
    refine ⟨t, (holdoverLimitReached_eq hd hm hs hl).trans ht, ht, ?_, hanswers⟩
    simp only [stopped', hs]
    exact hraised
  · rw [missedBeacon_acquire (x := atDeadline s) hs] at hexec
    obtain ⟨t, ht, -, hraised, hanswers⟩ := answers_of_posts hexec (fallToListen_posts (.refl _)) hqueues.1 rfl hqueues.2 ten
    exact ⟨t, ht, hraised, hanswers⟩

end Sys2Proof.Machine
end

section
/-! Validation of a bank (R41, R42): the entries in the order in which it tests them, and what it depends on. -/
namespace Sys2Proof.Machine

/-! ### The entries of a bank -/

/-- The entries from position k on, each with its position. -/
theorem mem_occupiedFrom {b : Bank} {k i : Nat} {e : Entry} :
    (i, e) ∈ occupiedFrom b k ↔ k ≤ i ∧ b[i - k]? = some (some e) := by
  induction b generalizing k with
  | nil => simp [occupiedFrom]
  | cons x b ih =>
    have hcons : (k + 1 ≤ i ∧ b[i - (k + 1)]? = some (some e)) ↔ k < i ∧ (x :: b)[i - k]? = some (some e) := by
      refine and_congr_right fun hlt => ?_
      rw [show i - k = i - (k + 1) + 1 by omega, List.getElem?_cons_succ]
    have hhead : k ≤ i ∧ (x :: b)[i - k]? = some (some e) ↔
        (i = k ∧ x = some e) ∨ (k < i ∧ (x :: b)[i - k]? = some (some e)) := by
      rcases Nat.lt_trichotomy i k with h | rfl | h
      · exact iff_of_false (by omega) (by omega)
      · simp
      · simp [h, h.le, h.ne']
    rw [hhead, ← hcons, ← ih]
    cases x with
    | none => simp [occupiedFrom]
    | some f => simp [occupiedFrom, eq_comm]

theorem mem_occupied {b : Bank} {i : Nat} {e : Entry} : (i, e) ∈ occupiedFrom b 0 ↔ b.entryAt i = some e := by
  rw [mem_occupiedFrom, Bank.entryAt, Option.join_eq_some_iff]
  simp

/-- Their positions ascend. -/
theorem occupiedFrom_ascending (b : Bank) (k : Nat) : (occupiedFrom b k).Pairwise fun x y => x.1 < y.1 := by
  induction b generalizing k with
  | nil => exact .nil
  | cons x b ih =>
    cases x with
    | none => exact ih (k + 1)
    | some e => exact .cons (fun y hy => (mem_occupiedFrom.1 hy).1) (ih (k + 1))

theorem mem_bank_of_occupied {b : Bank} {x : Nat × Entry} (h : x ∈ occupiedFrom b 0) : some x.2 ∈ b :=
  List.mem_of_getElem? (mem_occupiedFrom.1 (show (x.1, x.2) ∈ occupiedFrom b 0 from h)).2

/-! ### What validation depends on -/

theorem firstEntryFault_congr {p : Params} {bufs others : List Buffer} {es : List (Nat × Entry)}
    (h : ∀ x ∈ es, x.2.fault p bufs = x.2.fault p others) : firstEntryFault p bufs es = firstEntryFault p others es := by
  induction es with
  | nil => rfl
  | cons x es ih =>
    rw [List.forall_mem_cons] at h
    rw [firstEntryFault, firstEntryFault, h.1, ih h.2]

/-- Validation reads of the buffers only whether those that entries name are of the wrong kind. -/
theorem validate_congr {p : Params} {bufs others : List Buffer} {b : Bank}
    (h : ∀ e, some e ∈ b → e.wrongBuffer bufs = e.wrongBuffer others) : validate p bufs b = validate p others b := by
  have hfault : ∀ x ∈ occupiedFrom b 0, x.2.fault p bufs = x.2.fault p others := fun x hx => by
    rw [Entry.fault, Entry.fault, h x.2 (mem_bank_of_occupied hx)]
  rw [validate, validate, firstEntryFault_congr hfault]

/-- The kinds of the buffers, as codes (R65). -/
def kinds (bufs : List Buffer) : List Byte := bufs.map fun b => b.status.kindCode

theorem kindCode_getD (bufs : List Buffer) (n : Nat) :
    ((bufs[n]?).getD Buffer.unused).status.kindCode = ((kinds bufs)[n]?).getD 0 := by
  rw [kinds, List.getElem?_map]
  cases bufs[n]? <;> rfl

theorem wrongBuffer_eq (e : Entry) (bufs : List Buffer) : e.wrongBuffer bufs =
    match e.role with
    | .send => (e.buffer.bind fun n => (kinds bufs)[n]?).getD 0 != 1
    | .expect => (e.buffer.bind fun n => (kinds bufs)[n]?).getD 0 != 2
    | .openSlot | .quiet => false := by
  have hkind : ((e.buffer.bind fun n => bufs[n]?).getD Buffer.unused).status.kindCode =
      (e.buffer.bind fun n => (kinds bufs)[n]?).getD 0 := by
    cases e.buffer with
    | none => rfl
    | some n => exact kindCode_getD bufs n
  rw [← hkind]
  unfold Entry.wrongBuffer
  cases e.role <;> rfl

/-- A bank stays valid, or invalid for the same reason, while every buffer keeps its kind. -/
theorem validate_kinds {bufs others : List Buffer} (h : kinds bufs = kinds others) (p : Params) (b : Bank) :
    validate p bufs b = validate p others b :=
  validate_congr fun e _ => by rw [wrongBuffer_eq, wrongBuffer_eq, h]

/-- A bank that does not name a buffer does not depend on it (R66). -/
theorem validate_set {b : Bank} {n : Nat} (h : b.names n = false) (p : Params) (bufs : List Buffer) (x : Buffer) :
    validate p (bufs.set n x) b = validate p bufs b := by
  refine validate_congr fun e he => ?_
  have hnot : ¬((e.role = .send ∨ e.role = .expect) ∧ e.buffer = some n) := by
    have := List.any_eq_false.1 h (some e) he
    simpa using this
  have hbuffer (hr : e.role = .send ∨ e.role = .expect) :
      (e.buffer.bind fun m => (bufs.set n x)[m]?) = e.buffer.bind fun m => bufs[m]? := by
    cases hb : e.buffer with
    | none => rfl
    | some m =>
      have hne : n ≠ m := fun hm => hnot ⟨hr, by rw [hb, hm]⟩
      exact List.getElem?_set_ne hne
  unfold Entry.wrongBuffer
  cases hr : e.role with
  | send => rw [hbuffer (.inl hr)]
  | expect => rw [hbuffer (.inr hr)]
  | openSlot | quiet => rfl

end Sys2Proof.Machine
end

section
/-! The schedule tables as one invariant, and the operations that leave them alone. -/
namespace Sys2Proof.Machine

/-! ### The part of the state that the tables' soundness speaks of -/

/-- The fields on which the soundness of the tables depends. -/
structure Tables where
  cfg : Params
  active : Bank
  edit : Bank
  commitPending : Bool
  kinds : List Byte

/-- The tables of a state, with the configuration and the buffer kinds that they are tested against. -/
def State.tables (s : State) : Tables :=
  { cfg := s.cfg, active := s.sched.active, edit := s.sched.edit, commitPending := s.sched.commitPending
    kinds := kinds s.bufs }

/-- The tables are valid where they have to be, and both banks hold entries in their ranges (R40, R43). -/
structure TablesValid (s : State) : Prop where
  table : TableSound s
  active : BankSound s.sched.active
  edit : BankSound s.sched.edit

/-- The tables are valid, and a commit is pending only while cycles run (R51, R53). -/
structure TablesSound (s : State) : Prop where
  valid : TablesValid s
  pending : s.sched.commitPending = true → s.tb.sync.running = true

/-- t has the tables of s, and cycles that run in s run in t. -/
def SameTables (s t : State) : Prop := t.tables = s.tables ∧ (s.tb.sync.running = true → t.tb.sync.running = true)

section
variable {s t u : State}

theorem TablesSound.of_inv (h : Inv s) : TablesSound s where
  valid := ⟨h.table, h.active, h.edit⟩
  pending hp := by
    have hd := h.deferred
    unfold DeferredSound at hd
    split at hd
    next => rw [hd.1] at hp; cases hp
    next =>
      split at hd
      next => rw [hd.1] at hp; cases hp
      next => exact hd.2.2

theorem TablesValid.of_tables (h : TablesValid s) (ht : t.tables = s.tables) : TablesValid t := by
  obtain ⟨hcfg, hactive, hedit, hpending, hkinds⟩ := Tables.mk.inj ht
  obtain ⟨⟨hva, hve⟩, ha, he⟩ := h
  refine ⟨⟨?_, ?_⟩, hactive ▸ ha, hedit ▸ he⟩
  · rw [hcfg, hactive, validate_kinds hkinds]
    exact hva
  · rw [hcfg, hedit, hpending, validate_kinds hkinds]
    exact hve

theorem SameTables.refl (s : State) : SameTables s s := ⟨rfl, id⟩

theorem SameTables.trans (h : SameTables s t) (k : SameTables t u) : SameTables s u := ⟨k.1.trans h.1, k.2 ∘ h.2⟩

theorem TablesSound.same (h : TablesSound s) (k : SameTables s t) : TablesSound t where
  valid := h.valid.of_tables k.1
  pending hp := by
    have hpending : t.sched.commitPending = s.sched.commitPending := congrArg Tables.commitPending k.1
    exact k.2 (h.pending (hpending ▸ hp))

/-- Without a commit pending, cycles may run or not. -/
theorem TablesValid.sound (h : TablesValid s) (hp : s.sched.commitPending = false) : TablesSound s :=
  ⟨h, fun ht => (nomatch ht.symm.trans hp)⟩

/-- While no cycle runs no commit is pending. -/
theorem TablesSound.not_pending (h : TablesSound s) (hr : s.tb.sync.running = false) : s.sched.commitPending = false :=
  Bool.eq_false_iff.2 fun hp => (nomatch hr.symm.trans (h.pending hp))

/-- What is posted to the host does not touch the tables. -/
theorem Posts.sameTables {responses : List OutFrame} {notices : List Notice} (h : Posts responses notices s t) :
    SameTables s t := by
  obtain ⟨n, new, r, rfl, -⟩ := h
  exact ⟨rfl, id⟩

theorem Does.sameTables {op f : State → State} {resp : State → List OutFrame} {said : State → List Notice}
    (d : Does op f resp said) (hf : SameTables s (f s)) : SameTables s (op s) := hf.trans (d.posts s).sameTables

theorem LinkOnly.sameTables (h : LinkOnly s t) : SameTables s t := by
  rw [h]
  exact ⟨rfl, id⟩

/-! ### Operations that leave them alone -/

variable (s)

theorem raise_same (e : Event) (d : Detail) : SameTables s (raise e d s) := (raise_linkOnly s e d).sameTables

theorem fileRecord_same (r : Record) : SameTables s (fileRecord r s) := (fileRecord_does r).sameTables ⟨rfl, id⟩

theorem answerDeferred_same (kind : DeferredKind) (r : Result) : SameTables s (answerDeferred kind r s) :=
  (answerDeferred_does kind r).sameTables ⟨rfl, id⟩

theorem cutLaunch_same (lanes : LaneSet) : SameTables s (cutLaunch lanes s) := by
  rcases cutLaunch_cases lanes s with ⟨-, h⟩ | ⟨x, -, ⟨-, h⟩ | ⟨-, h⟩⟩
  · rw [h]
    exact .refl s
  · rw [h]
    exact ⟨rfl, id⟩
  · rw [h]
    by_cases hb : x.kind = .beacon
    · rw [if_pos hb]
      exact ⟨rfl, id⟩
    · rw [if_neg hb]
      exact ⟨rfl, id⟩

theorem laneLeaves_same (l : Lane) : SameTables s (laneLeaves l s) := by
  rw [laneLeaves_keeps]
  exact ⟨rfl, id⟩

theorem gradeOutcome_same (l : Lane) (o : Outcome) (proved : Bool) (position : Option Nat) (cycle : BitVec 6) :
    SameTables s (gradeOutcome l o proved position cycle s) := by
  refine (gradeOutcome_does l o proved position cycle).sameTables ?_
  unfold graded
  split
  · exact (laneLeaves_same s l).trans ⟨rfl, id⟩
  · exact ⟨rfl, id⟩

theorem echoed_same (l : Lane) (o : Outcome) : SameTables s (echoed l o s) := by
  unfold echoed
  split
  · exact (laneLeaves_same s l).trans ⟨rfl, id⟩
  · exact ⟨rfl, id⟩

theorem gradeEchoes_same (k : LaunchKind) (position : Option Nat) (cycle : BitVec 6) (o : PerLane Outcome) :
    SameTables s (gradeEchoes k position cycle o s) :=
  (gradeEchoes_does k position cycle o).sameTables ((echoed_same s .A o.a).trans (echoed_same _ .B o.b))

theorem enterProbation_same (l : Lane) (cause : LaneCause) : SameTables s (enterProbation l cause s) :=
  (enterProbation_does l cause).sameTables ⟨rfl, id⟩

theorem promoteLane_same (l : Lane) : SameTables s (promoteLane l s) := (promoteLane_does l).sameTables ⟨rfl, id⟩

theorem laneCycleStart_same (l : Lane) : SameTables s (laneCycleStart l s) := by
  refine (laneCycleStart_does l).sameTables ?_
  rw [lived_eq]
  exact ⟨rfl, id⟩

theorem expireDue_same : SameTables s (expireDue s) := by
  have hqueue (ticket : Nat) (cause : Byte) (cycle : BitVec 6) (x : State) :
      SameTables x (raiseQueueEmpty ticket cause cycle x) := by
    unfold raiseQueueEmpty
    split
    · exact raise_same x _ _
    · exact .refl x
  unfold expireDue
  split
  · exact .refl s
  · refine SameTables.trans ?_ (hqueue _ _ _ _)
    refine SameTables.trans ?_ (expireAll_posts s.spor.due (.refl s)).sameTables
    rw [expiredAll_eq]
    exact ⟨rfl, id⟩

theorem launchBeacon_same (lanes : LaneSet) : SameTables s (launchBeacon lanes s) := by
  unfold launchBeacon
  split <;> exact ⟨rfl, id⟩

theorem stopped_same : SameTables s (stopped s) := (cutLaunch_same s LaneSet.both).trans ⟨rfl, id⟩

theorem pass_same (elapsed : Nat) : SameTables s (pass elapsed s) := by
  unfold pass
  split <;> exact ⟨rfl, id⟩

/-! #### Buffers that keep their kind (R66) -/

variable {s}

/-- A buffer takes new values of the same kind. -/
theorem kinds_set {n : Nat} {b : Buffer} (h : b.status.kindCode = (bufferAt s n).status.kindCode) :
    kinds (s.bufs.set n b) = kinds s.bufs := by
  rw [kinds, List.map_set, h, bufferAt, kindCode_getD, ← kinds]
  refine List.ext_getElem? fun i => ?_
  rw [List.getElem?_set]
  split
  next hi =>
    subst hi
    split
    next hn => rw [List.getElem?_eq_getElem hn, Option.getD_some]
    next hn => rw [List.getElem?_eq_none (Nat.le_of_not_lt hn)]
  next => rfl

theorem setBuffer_same {n : Nat} {b : Buffer} (h : b.status.kindCode = (bufferAt s n).status.kindCode) :
    SameTables s (setBuffer n b s) :=
  ⟨congrArg (fun k => { s.tables with kinds := k }) (kinds_set h), id⟩

theorem aged_kind (b : Buffer) : b.aged.status.kindCode = b.status.kindCode := by
  unfold Buffer.aged
  split
  next h => rw [h]; rfl
  next => rfl

theorem ageBuffers_same (s : State) : SameTables s (ageBuffers s) := by
  have hk : kinds (s.bufs.map Buffer.aged) = kinds s.bufs := by
    rw [kinds, List.map_map]
    exact List.map_congr_left fun b _ => aged_kind b
  exact ⟨congrArg (fun k => { s.tables with kinds := k }) hk, id⟩

theorem markRead_kind (b : Buffer) : b.markRead.status.kindCode = b.status.kindCode := by
  unfold Buffer.markRead
  split
  next h =>
    split
    · rw [h]; rfl
    · rfl
  next => rfl

theorem write_kind (b : Buffer) (ws : List Word) : (b.write ws).status.kindCode = b.status.kindCode := by
  unfold Buffer.write
  split
  next h => rw [h]; rfl
  next => rfl

theorem afterWindow_kind (w : Window) (c : Combined) (f : Facts) (b : Buffer) :
    (b.afterWindow w c f).status.kindCode = b.status.kindCode := by
  unfold Buffer.afterWindow Buffer.store Buffer.heardNull
  split
  · split
    next h => rw [h]; rfl
    next => rfl
  · split
    next h => rw [h]; rfl
    next => rfl
  · rfl
  · rfl

theorem sporadicLaunch_kind (b : Buffer) : b.sporadicLaunch.2.status.kindCode = b.status.kindCode := by
  unfold Buffer.sporadicLaunch
  split
  next h => rw [h]; rfl
  next => rfl

theorem snapshot_kind {b : Buffer} {k : Nat} {x : Snapshot} (h : b.snapshot k = some x) :
    x.after.status.kindCode = b.status.kindCode := by
  unfold Buffer.snapshot at h
  split at h
  next hs =>
    rw [hs]
    dsimp only at h
    split at h <;> obtain rfl := Option.some.inj h <;> rfl
  next => cases h

/-! ### Windows and launches leave them alone -/

section
variable (s) (position : Nat) (e : Entry) (w : Window) (x : Launch)

theorem suppressSend_same : SameTables s (suppressSend position e s) := by
  unfold suppressSend
  dsimp only
  split
  · exact (raise_same _ _ _).trans (fileRecord_same _ _)
  · exact raise_same _ _ _

theorem openSend_same : SameTables s (openSend position e s) := by
  have hopen (role : WindowRole) : SameTables s (openWindow position e role s) := ⟨rfl, id⟩
  unfold openSend
  dsimp only
  split
  · exact hopen _
  · split
    · exact (hopen _).trans (suppressSend_same _ position e)
    · split
      next n y hy =>
        obtain ⟨m, -, hsnap⟩ := Option.bind_eq_some_iff.1 hy
        obtain ⟨z, hz, hpair⟩ := Option.map_eq_some_iff.1 hsnap
        obtain ⟨rfl, rfl⟩ := Prod.mk.inj hpair
        have hset : SameTables s (setBuffer m z.after s) := setBuffer_same (snapshot_kind hz)
        have hlaunch := hset.trans (u := openWindow position e (.send (e.lanes.inter (activeLanes s)) .inProgress)
          (beginLaunch (sendLaunch e (e.lanes.inter (activeLanes s)) z s) (setBuffer m z.after s))) ⟨rfl, id⟩
        unfold launchSend
        dsimp only
        split
        · exact hlaunch.trans (raise_same _ _ _)
        · exact hlaunch
      next => exact hopen _

theorem openOpen_same : SameTables s (openOpen position e s) := by
  unfold openOpen
  split
  · exact ⟨rfl, id⟩
  · split
    next y _ =>
      have hput : SameTables s { s with spor := s.spor.putOnAir y.ticket } := ⟨rfl, id⟩
      have hset : SameTables { s with spor := s.spor.putOnAir y.ticket } (setBuffer y.buffer
        (bufferAt s y.buffer).sporadicLaunch.2 { s with spor := s.spor.putOnAir y.ticket }) :=
        setBuffer_same (sporadicLaunch_kind _)
      exact (hput.trans hset).trans ⟨rfl, id⟩
    next => exact ⟨rfl, id⟩

theorem breachAt_same (l : Lane) (m : Nat) : SameTables s (breachAt w l m s) :=
  SameTables.trans (t := breached w l m s) ⟨rfl, id⟩ (breachAt_posts w l m s).sameTables

theorem applyToBuffer_same (c : Combined) (f : Facts) : SameTables s (applyToBuffer w c f s) := by
  cases hb : w.entry.buffer with
  | none =>
    unfold applyToBuffer
    rw [hb]
    exact .refl s
  | some n =>
    refine (applyToBuffer_does c f hb).sameTables ?_
    unfold appliedTo poolAfter
    cases c.kind with
    | received | nullHeard => exact setBuffer_same (afterWindow_kind w c f _)
    | missing | faulty => exact ⟨rfl, id⟩

theorem endExpect_same (a b : List Heard) : SameTables s (endExpect w a b s) := by
  have hclosed : SameTables s (closeHeard w a b s) := ⟨rfl, id⟩
  unfold endExpect gradeWindow
  refine SameTables.trans ?_ ((reportAlarm_does _ _ _).sameTables (.refl _))
  refine SameTables.trans ?_ ((logRecord_does _ _).sameTables ⟨rfl, id⟩)
  refine SameTables.trans ?_ (applyToBuffer_same _ _ _ _)
  refine SameTables.trans ?_ ((reportDisagree_does _ _).sameTables (.refl _))
  exact (hclosed.trans (gradeOutcome_same _ _ _ _ _ _)).trans (gradeOutcome_same _ _ _ _ _ _)

/-- The launch is over and its lanes are graded. -/
theorem gradeLaunch_same (k : LaunchKind) (position : Option Nat) (o : PerLane Outcome) :
    SameTables s (gradeEchoes k position x.cycle o (endLaunch x s)) :=
  SameTables.trans (t := endLaunch x s) ⟨rfl, id⟩ (gradeEchoes_same _ _ _ _ _)

theorem endSend_same (a b : Echo) : SameTables s (endSend x a b s) := by
  unfold endSend
  dsimp only
  split
  · split
    · exact (gradeLaunch_same s x _ _ _).trans (fileRecord_same _ _)
    · exact gradeLaunch_same s x _ _ _
  · exact gradeLaunch_same s x _ _ _

theorem endSporadic_same (a b : Echo) : SameTables s (endSporadic x a b s) := by
  unfold endSporadic
  dsimp only
  split
  · exact (gradeLaunch_same s x _ _ _).trans ((completeSporadic_does _ _ _ _).sameTables ⟨rfl, id⟩)
  · exact gradeLaunch_same s x _ _ _

theorem endBeacon_same (a b : Echo) : SameTables s (endBeacon x a b s) :=
  SameTables.trans (t := releaseLaunch x s) ⟨rfl, id⟩ (gradeEchoes_same _ _ _ _ _)

end

end

end Sys2Proof.Machine
end

section
/-! The tables stay valid through the commit and the timebase's operations (R43, R51 to R53). -/
namespace Sys2Proof.Machine

section
variable {s t : State}

/-! ### The commit (R52, R53) -/

/-- A pending commit takes effect: the EDIT bank was tested when the commit was asked for. Nothing is pending after it. -/
theorem TablesValid.settleCommit (h : TablesValid s) (cause : CommitCause) : TablesSound (settleCommit cause s) := by
  obtain ⟨⟨hactive, hpending⟩, ha, he⟩ := h
  refine TablesSound.same (s := committed s) ?_ ((settleCommit_does cause).posts s).sameTables
  rw [committed_eq]
  by_cases hp : s.sched.commitPending = true
  · simp only [hp, if_true]
    exact TablesValid.sound ⟨⟨hpending hp, fun hx => (nomatch hx)⟩, he, he⟩ rfl
  · simp only [hp, if_false, Bool.false_eq_true]
    exact TablesValid.sound ⟨⟨hactive, fun hx => (nomatch hx)⟩, ha, he⟩ rfl

theorem TablesSound.blockReactions (h : TablesSound s) : TablesSound (blockReactions s) := by
  have hsporadic (x : State) : SameTables x (sporadicCycleStart x) :=
    SameTables.trans (t := older x) ⟨rfl, id⟩ (expireDue_same (older x))
  refine (h.valid.settleCommit .cycleStart).same ?_
  exact (((ageBuffers_same _).trans (laneCycleStart_same _ .A)).trans (laneCycleStart_same _ .B)).trans (hsporadic _)

/-! ### Cycle starts and beacons (R18, R29 to R36) -/

theorem TablesSound.cycleStartEvent (h : TablesSound s) (first : Promotions) : TablesSound (cycleStartEvent first s) := by
  have hbegin : TablesSound (beginCycle s) := h.same ⟨rfl, id⟩
  exact hbegin.blockReactions.same (launchBeacon_same _ _)

theorem setTimebase_same {tb : Timebase} (hr : s.tb.sync.running = true → tb.sync.running = true) :
    SameTables s (setTimebase tb s) := ⟨rfl, hr⟩

/-- The sync state becomes one in which cycles run. -/
theorem changeSync_same {new : Sync} (hr : new.running = true) (s : State) : SameTables s (changeSync new s) :=
  (changeSync_does new).sameTables ⟨rfl, fun _ => hr⟩

theorem raiseSyncChanged_same (old : Sync) (s : State) : SameTables s (raiseSyncChanged old s) :=
  (raiseSyncChanged_does old).sameTables (.refl s)

theorem TablesSound.hardAlign (h : TablesSound s) (number : BitVec 6) : TablesSound (hardAlign number s) := by
  unfold Machine.hardAlign
  dsimp only
  split
  · refine TablesSound.blockReactions (h.same ⟨?_, id⟩)
    exact (stopped_same s).1
  · exact h.same ⟨rfl, id⟩

theorem TablesSound.alignAndAcquire (h : TablesSound s) (number : BitVec 6) : TablesSound (alignAndAcquire number s) :=
  (h.hardAlign number).same (changeSync_same rfl _)

theorem TablesSound.conflictInListen (h : TablesSound s) (l : Lane) (number : BitVec 6) (sender : Nat) :
    TablesSound (conflictInListen l number sender s) := by
  have hd : SameTables s (demote (setTimebase { s.tb with startupListen := none } s)) := ⟨rfl, id⟩
  exact ((h.same (hd.trans (raise_same _ _ _))).alignAndAcquire number).same (answerDeferred_same _ _ _)

theorem TablesSound.conflictInLocked (h : TablesSound s) (l : Lane) (number : BitVec 6) (sender : Nat) :
    TablesSound (conflictInLocked l number sender s) := by
  have hd : SameTables s (demote (cutLaunch LaneSet.both s)) := (cutLaunch_same s LaneSet.both).trans ⟨rfl, id⟩
  exact (h.same (hd.trans (raise_same _ _ _))).alignAndAcquire number

theorem TablesSound.realignFromHoldover (h : TablesSound s) (number : BitVec 6) :
    TablesSound (realignFromHoldover number s) := by
  unfold Machine.realignFromHoldover
  refine TablesSound.same (TablesSound.hardAlign (h.same ?_) number) (raiseSyncChanged_same _ _)
  exact (setTimebase_same fun _ => rfl).trans (cutLaunch_same _ _)

theorem correct_same (e : Int) (number : BitVec 6) (l : Lane) (sender : Nat) (s : State) :
    SameTables s (correct e number l sender s) := by
  unfold correct
  dsimp only
  split
  · exact setTimebase_same id
  · refine (setTimebase_same ?_).trans (raise_same _ _ _)
    exact id

theorem TablesSound.actOnBeacon (h : TablesSound s) (l : Lane) (stamp : Stamp) (number : BitVec 6) (sender : Nat) :
    TablesSound (actOnBeacon l stamp number sender s) := by
  have hcorrect := h.same (correct_same (phaseError s stamp) number l sender s)
  unfold Machine.actOnBeacon
  cases s.tb.sync with
  | offline => exact h
  | listen =>
    dsimp only
    split
    · exact h.conflictInListen l number sender
    · exact h.alignAndAcquire number
  | acquire =>
    dsimp only
    split
    · exact hcorrect.same (changeSync_same rfl _)
    · exact h.hardAlign number
  | locked =>
    dsimp only
    split_ifs
    · exact h.conflictInLocked l number sender
    · exact hcorrect
    · exact h.same (raise_same _ _ _)
  | holdover =>
    dsimp only
    split
    · exact (hcorrect.same ⟨rfl, id⟩).same (changeSync_same rfl _)
    · exact h.realignFromHoldover number

theorem TablesSound.freeMessage (h : TablesSound s) (l : Lane) (stamp : Stamp) (m : Message) :
    TablesSound (freeMessage l stamp m s) := by
  have hgraded (o : Outcome) : TablesSound (gradeBeacon l o s) := h.same (gradeOutcome_same _ _ _ _ _ _)
  unfold Machine.freeMessage
  split
  next =>
    unfold Machine.takeBeacon
    dsimp only
    split
    · exact hgraded .good
    · refine TablesSound.actOnBeacon ?_ l stamp _ _
      exact (hgraded .good).same (setTimebase_same id)
  next o _ _ => exact hgraded o
  next => exact h

/-! ### Missed beacons (R33 to R36) -/

theorem TablesSound.fallToListen (h : TablesSound s) : TablesSound (fallToListen s) := by
  refine TablesValid.settleCommit (h.valid.of_tables ?_) .cyclesStopped
  exact (raise_same _ _ _).1.trans (stopped_same s).1

theorem TablesSound.meetDeadline (h : TablesSound s) : TablesSound (meetDeadline s) := by
  have hmissed {x : State} (hx : TablesSound x) : TablesSound (missedBeacon x) := by
    unfold missedBeacon
    split
    · exact hx.fallToListen
    · refine TablesSound.same (hx.same ?_) (raiseSyncChanged_same _ _)
      exact (setTimebase_same fun _ => rfl).trans (raise_same _ _ _)
    · have ht : TablesSound (raiseBeaconMissed (setTimebase { x.tb with missed := x.tb.missed + 1 } x)) := by
        refine hx.same ((setTimebase_same ?_).trans (raise_same _ _ _))
        exact id
      dsimp only
      split
      · exact ht.fallToListen
      · exact ht
    · exact hx
    · exact hx
  have hpassed : TablesSound (setTimebase { (passTo (deadlineOffset s.cfg) s).tb with deadlinePassed := true }
      (passTo (deadlineOffset s.cfg) s)) := h.same ⟨rfl, id⟩
  unfold Machine.meetDeadline
  dsimp only
  split
  · exact hpassed
  · exact hmissed hpassed

/-! ### Start and stop (R22, R23, R38) -/

theorem TablesSound.expireListen (h : TablesSound s) (moment : Nat) : TablesSound (expireListen moment s) := by
  have hx : SameTables s { s with now := max s.now moment, tb := { s.tb with startupListen := none } } := ⟨rfl, id⟩
  refine TablesSound.same (TablesSound.same ?_ (launchBeacon_same _ _)) (answerDeferred_same _ _ _)
  exact (h.same (hx.trans (changeSync_same rfl _))).same (setTimebase_same id)

/-- No commit is pending in OFFLINE, and none is asked for by the START. -/
theorem TablesSound.startPart (h : TablesSound s) (hs : s.tb.sync = .offline) : TablesSound (startPart s) := by
  have hp := h.not_pending (by rw [hs]; rfl)
  have ht : (changeSync .listen (setTimebase { s.tb with role := s.cfg.role }
      (Machine.receivers LaneSet.both (Receiver.listen s.now) s))).tables = s.tables :=
    ((changeSync_does .listen).posts _).sameTables.1
  have hpending := (congrArg Tables.commitPending ht).trans hp
  have hstarted := (h.valid.of_tables ht).sound hpending
  unfold Machine.startPart
  dsimp only
  split
  · exact hstarted.same ⟨rfl, id⟩
  · exact hstarted

theorem TablesSound.stopPart (h : TablesSound s) : TablesSound (stopPart s) := by
  refine TablesSound.same (TablesValid.settleCommit (h.valid.of_tables ?_) .cyclesStopped) (answerDeferred_same _ _ _)
  exact (raise_same _ _ _).1.trans (stopped_same s).1

end

end Sys2Proof.Machine
end

section
/-! Requests, and then every command and every step, keep the tables valid (O56). -/
namespace Sys2Proof.Machine

section
variable {s t : State}

theorem answer_same (tag : Byte) (r : Result) (p : List Byte) (s : State) : SameTables s (answer tag r p s) := ⟨rfl, id⟩

/-! ### Requests that change a bank (R44 to R54) -/

/-- An EPUT that passes its tests carries an entry in its ranges (R40, R198). -/
theorem entrySound_of_entryBad {p : List Byte} (h : entryBad p = none) : EntrySound (entryOf p) := by
  have hall := firstBad_none h
  simp only [List.forall_mem_cons, within, Bool.and_eq_true, Bool.or_eq_true, Bool.not_eq_true', decide_eq_true_eq] at hall
  obtain ⟨-, hslot, hrole, hlanes, hlength, hbuffer, -, hwords, -⟩ := hall
  have hlow (w : Word) : w.toNat ≤ 65535 := Nat.le_of_lt_succ w.isLt
  have hnone : (entryOf p).lanes.isEmpty = false := by
    obtain ⟨x, hx⟩ := Option.isSome_iff_exists.1 hlanes
    have hget : (entryOf p).lanes = x := by rw [entryOf, hx, Option.getD_some]
    rw [hget]
    unfold LaneSet.ofCode at hx
    split_ifs at hx <;> obtain rfl := Option.some.inj hx <;> rfl
  refine ⟨hslot, hlow _, ⟨?_, hlow _⟩, hnone, ?_⟩
  · refine Nat.one_le_iff_ne_zero.2 fun hz => hlength ?_
    exact BitVec.eq_of_toNat_eq hz
  · have hcode : fieldAt p 2 = 1 ∨ fieldAt p 2 = 2 ∨ fieldAt p 2 = 3 ∨ fieldAt p 2 = 4 := by
      unfold EntryRole.ofCode at hrole
      split_ifs at hrole <;> simp_all
    rcases hcode with hc | hc | hc | hc <;> simp_all [entryOf, EntryRole.ofCode, roleUsesBuffer]

theorem bankSound_set {b : Bank} (h : BankSound b) (i : Nat) {x : Option Entry} (hx : ∀ e ∈ x, EntrySound e) :
    BankSound (b.set i x) := by
  refine ⟨(List.length_set ..).trans h.1, fun y hy => ?_⟩
  rcases List.mem_or_eq_of_mem_set hy with hy | rfl
  · exact h.2 y hy
  · exact hx

/-- The EDIT bank changes while no commit is pending. -/
theorem TablesSound.withEdit (h : TablesSound s) (hp : s.sched.commitPending = false) {b : Bank} (hb : BankSound b) :
    TablesSound (setEdit b s) :=
  TablesValid.sound ⟨⟨h.valid.table.1, fun hx => (nomatch hx.symm.trans hp)⟩, h.valid.active, hb⟩ hp

theorem bankSound_empty : BankSound Bank.empty :=
  ⟨List.length_replicate, fun y hy e he => by rw [List.eq_of_mem_replicate hy] at he; cases he⟩

theorem TablesSound.doEput (h : TablesSound s) (tag : Byte) (p : List Byte) : TablesSound (doEput tag p s) := by
  unfold Machine.doEput
  split
  next => exact h.same ⟨rfl, id⟩
  next hp =>
    split
    next => exact h.same ⟨rfl, id⟩
    next hbad =>
      have hb := bankSound_set h.valid.edit (fieldAt p 0) (x := some (entryOf p)) fun e he =>
        Option.some.inj he ▸ entrySound_of_entryBad hbad
      exact (h.withEdit (Bool.eq_false_iff.2 hp) hb).same ⟨rfl, id⟩

theorem TablesSound.doEdel (h : TablesSound s) (tag : Byte) (p : List Byte) : TablesSound (doEdel tag p s) := by
  unfold Machine.doEdel
  split
  next => exact h.same ⟨rfl, id⟩
  next hp =>
    split
    next => exact h.same ⟨rfl, id⟩
    next =>
      have hb := bankSound_set h.valid.edit (fieldAt p 0) (x := none) nofun
      exact (h.withEdit (Bool.eq_false_iff.2 hp) hb).same ⟨rfl, id⟩

theorem TablesSound.doTclr (h : TablesSound s) (tag : Byte) : TablesSound (doTclr tag s) := by
  unfold Machine.doTclr
  split
  next => exact h.same ⟨rfl, id⟩
  next hp => exact (h.withEdit (Bool.eq_false_iff.2 hp) bankSound_empty).same ⟨rfl, id⟩

theorem TablesSound.doTload (h : TablesSound s) (tag : Byte) : TablesSound (doTload tag s) := by
  unfold Machine.doTload
  split
  next => exact h.same ⟨rfl, id⟩
  next hp => exact (h.withEdit (Bool.eq_false_iff.2 hp) h.valid.active).same ⟨rfl, id⟩

/-- What a TCOMMIT copies, or leaves pending, has just been tested. -/
theorem TablesSound.doTcommit (h : TablesSound s) (tag : Byte) : TablesSound (doTcommit tag s) := by
  obtain ⟨⟨⟨hactive, -⟩, ha, he⟩, -⟩ := id h
  unfold Machine.doTcommit
  split
  next => exact h.same ⟨rfl, id⟩
  next hp =>
    split
    next => exact h.same ⟨rfl, id⟩
    next hvalid =>
      split
      next hr => exact ⟨⟨⟨hactive, fun _ => hvalid⟩, ha, he⟩, fun _ => hr⟩
      next =>
        have hcopied : TablesSound (copyEdit s) := TablesValid.sound ⟨⟨hvalid, fun hx => (nomatch hx)⟩, he, he⟩ rfl
        exact hcopied.same ((answer_same tag .ok [] _).trans (raise_same _ _ _))

theorem TablesSound.doTcancel (h : TablesSound s) (tag : Byte) : TablesSound (doTcancel tag s) := by
  obtain ⟨⟨⟨hactive, -⟩, ha, he⟩, -⟩ := id h
  unfold Machine.doTcancel
  split
  next =>
    have hx : TablesSound { s with sched := { s.sched with commitPending := false } } :=
      TablesValid.sound ⟨⟨hactive, fun hx => (nomatch hx)⟩, ha, he⟩ rfl
    exact (hx.same (answerDeferred_same _ .tcommit .cancelled)).same ((answer_same tag .ok [] _).trans (raise_same _ _ _))
  next => exact h.same ⟨rfl, id⟩

/-! ### Requests that change what a bank is tested against (R43, R66) -/

/-- CONFIG tests the ACTIVE table against the new parameters; in OFFLINE no commit is pending (R155). -/
theorem TablesSound.doConfig (h : TablesSound s) (tag : Byte) (p : List Byte) : TablesSound (doConfig tag p s) := by
  unfold Machine.doConfig
  split
  next => exact h.same ⟨rfl, id⟩
  next hs =>
    split
    next => exact h.same ⟨rfl, id⟩
    next =>
      split
      next => exact h.same ⟨rfl, id⟩
      next hvalid =>
        have hp := h.not_pending (by rw [not_not.1 hs]; rfl)
        have hx : TablesSound (storeConfig (configOf p) s) :=
          TablesValid.sound ⟨⟨hvalid, fun hx => (nomatch hx.symm.trans hp)⟩, h.valid.active, h.valid.edit⟩ hp
        exact hx.same ⟨rfl, id⟩

/-- BSETUP changes the kind of no buffer that the ACTIVE table names, nor a pending EDIT bank (R66, R67). -/
theorem TablesSound.doBsetup (h : TablesSound s) (tag : Byte) (p : List Byte) : TablesSound (doBsetup tag p s) := by
  obtain ⟨⟨⟨hactive, hedit⟩, ha, he⟩, hpending⟩ := id h
  have hset {n : Nat} (hr : referenced s n = false) (b : Buffer) : TablesSound (setBuffer n b s) := by
    rw [referenced, Bool.or_eq_false_iff] at hr
    obtain ⟨hra, hre⟩ := hr
    refine ⟨⟨⟨(validate_set hra _ _ _).trans hactive, fun hp => ?_⟩, ha, he⟩, hpending⟩
    have hnames : s.sched.edit.names n = false := by
      rw [show s.sched.commitPending = true from hp, Bool.true_and] at hre
      exact hre
    exact (validate_set hnames _ _ _).trans (hedit hp)
  unfold Machine.doBsetup
  dsimp only
  split_ifs with _ _ _ hr
  · exact h.same ⟨rfl, id⟩
  · exact h.same ⟨rfl, id⟩
  · exact h.same ⟨rfl, id⟩
  · exact h.same ⟨rfl, id⟩
  · exact h.same ⟨rfl, id⟩
  · exact (hset (Bool.eq_false_iff.2 hr) _).same ⟨rfl, id⟩

theorem TablesSound.doStart (h : TablesSound s) (tag : Byte) : TablesSound (doStart tag s) := by
  unfold Machine.doStart
  split
  next => exact h.same ⟨rfl, id⟩
  next hs =>
    have ht := h.startPart (not_not.1 hs)
    dsimp only
    split_ifs
    · exact h.same ⟨rfl, id⟩
    · exact ht.same ⟨rfl, id⟩
    · exact ht.same ⟨rfl, id⟩

theorem TablesSound.doStop (h : TablesSound s) (tag : Byte) : TablesSound (doStop tag s) := by
  unfold Machine.doStop
  split
  · exact h.same ⟨rfl, id⟩
  · exact h.stopPart.same ⟨rfl, id⟩

/-- A reset empties both banks (R165). -/
theorem TablesSound.of_reset (ht : s.tables = State.held.tables) : TablesSound s := by
  have hheld : TablesValid State.held := ⟨⟨by decide, fun hp => (nomatch hp)⟩, bankSound_empty, bankSound_empty⟩
  exact (hheld.of_tables ht).sound (congrArg Tables.commitPending ht)

/-! ### The other requests leave the tables alone -/

section
variable (tag : Byte) (p : List Byte) (s : State)

theorem doBwrite_same : SameTables s (doBwrite tag p s) := by
  have hwritten : SameTables s (setBuffer (fieldAt p 0) ((bufferAt s (fieldAt p 0)).write (wordsOf (p.drop 2))) s) :=
    setBuffer_same (write_kind _ _)
  unfold doBwrite
  dsimp only
  split_ifs
  · exact ⟨rfl, id⟩
  · exact ⟨rfl, id⟩
  · exact ⟨rfl, id⟩
  · exact ⟨rfl, id⟩
  · exact hwritten.trans ⟨rfl, id⟩

theorem doBread_same : SameTables s (doBread tag p s) := by
  have hread : SameTables s (setBuffer (fieldAt p 0) (bufferAt s (fieldAt p 0)).markRead s) :=
    setBuffer_same (markRead_kind _)
  unfold doBread
  dsimp only
  split_ifs
  · exact ⟨rfl, id⟩
  · exact ⟨rfl, id⟩
  · exact ⟨rfl, id⟩
  · exact hread.trans ⟨rfl, id⟩

theorem doLset_same : SameTables s (doLset tag p s) := by
  unfold doLset
  split
  next => exact answer_same _ _ _ s
  next l _ =>
    have hdisable : SameTables s (laneDisable tag l s) := by
      unfold laneDisable
      dsimp only
      split
      · exact answer_same _ _ _ s
      · exact ((laneLeaves_same s l).trans (answer_same _ _ _ _)).trans ((changeLane_does l _ _).sameTables ⟨rfl, id⟩)
    have henable : SameTables s (laneEnable tag l s) := by
      unfold laneEnable
      dsimp only
      split
      · exact (answer_same _ _ _ s).trans (enterProbation_same _ l _)
      · exact answer_same _ _ _ s
    have hclear : SameTables s (laneClear tag l s) := by
      unfold laneClear
      split <;> exact ⟨rfl, id⟩
    split_ifs
    · exact hdisable
    · exact henable
    · exact hclear
    · exact answer_same _ _ _ s

theorem doRdrop_same : SameTables s (doRdrop tag p s) := by
  have hgap (lost : Nat) (x : State) : SameTables x (closeGap lost x) := by
    unfold closeGap insertRecord
    dsimp only
    split
    · exact SameTables.trans ⟨rfl, id⟩ (raise_same _ _ _)
    · exact ⟨rfl, id⟩
  unfold doRdrop
  dsimp only
  split_ifs
  · exact ⟨rfl, id⟩
  · exact (SameTables.trans (t := dropRecords (fieldAt p 0) s) ⟨rfl, id⟩ (hgap _ _)).trans ⟨rfl, id⟩
  · exact ⟨rfl, id⟩

/-- The requests that change neither the banks, nor the configuration, nor a buffer, nor the sync state. -/
theorem carryOut_same {c : Code} (hc : c ∈ [Code.ident, .cfgget, .stat, .eget, .tchk, .bstat, .lstat, .spost, .scancel,
    .slist, .rfetch, .rthresh, .gset, .nmask, .nack, .evread]) : SameTables s (carryOut c tag p s) := by
  cases c with
  | ident | cfgget | stat | lstat | slist => exact ⟨rfl, id⟩
  | eget | tchk | bstat =>
    simp only [carryOut, doEget, doTchk, doBstat]
    repeat' split
    all_goals exact ⟨rfl, id⟩
  | spost | scancel =>
    simp only [carryOut, doSpost, doScancel]
    repeat' split
    all_goals exact ⟨rfl, id⟩
  | rfetch | rthresh | gset | nmask | nack | evread =>
    simp only [carryOut, doRfetch, doRthresh, doGset, doNmask, doNack, doEvread]
    repeat' split
    all_goals exact ⟨rfl, id⟩
  | _ => simp at hc

end

theorem TablesSound.kept : Kept TablesSound where
  beside h hl := h.same hl.sameTables
  carryOut c tag p h := by
    cases c with
    | config => exact h.doConfig tag p
    | start => exact h.doStart tag
    | stop => exact h.doStop tag
    | reset => exact .of_reset rfl
    | eput => exact h.doEput tag p
    | edel => exact h.doEdel tag p
    | tclr => exact h.doTclr tag
    | tload => exact h.doTload tag
    | tcommit => exact h.doTcommit tag
    | tcancel => exact h.doTcancel tag
    | bsetup => exact h.doBsetup tag p
    | bwrite => exact h.same (doBwrite_same tag p _)
    | bread => exact h.same (doBread_same tag p _)
    | lset => exact h.same (doLset_same tag p _)
    | rdrop => exact h.same (doRdrop_same tag p _)
    | _ => exact h.same (carryOut_same tag p _ (by simp))

/-! ### Commands -/

/-- A window-start event of one role, where what the role does leaves the tables alone. -/
theorem windowStart_same {role : EntryRole} {start : Nat → Entry → State → State}
    (hs : ∀ (position : Nat) (e : Entry) (x : State), SameTables x (start position e x)) (position : Nat) (s : State) :
    SameTables s (windowStart role start position s) := by
  unfold Machine.windowStart
  split
  next e _ => exact SameTables.trans (t := passTo e.start s) ⟨rfl, id⟩ (hs position e _)
  next => exact .refl s

theorem launchEnd_same {kind : LaunchKind} {stop : Launch → State → State}
    (hs : ∀ (x : Launch) (y : State), SameTables y (stop x y)) (s : State) : SameTables s (launchEnd kind stop s) := by
  unfold Machine.launchEnd
  split
  next x _ =>
    split
    · exact SameTables.trans (t := passTo x.ends s) ⟨rfl, id⟩ (hs x _)
    · exact .refl s
  next => exact .refl s

theorem carrierStart_same (l : Lane) (offset : Nat) (s : State) : SameTables s (carrierStart l offset s) := by
  unfold Machine.carrierStart
  split
  next w _ =>
    split
    · exact SameTables.trans (t := passTo offset s) ⟨rfl, id⟩ (breachAt_same _ w l offset)
    · exact .refl s
  next => exact .refl s

theorem closeExpect_same (a b : List Heard) (s : State) : SameTables s (closeExpect a b s) := by
  unfold Machine.closeExpect
  split
  next w _ =>
    split
    · exact SameTables.trans (t := passTo w.ends s) ⟨rfl, id⟩ (endExpect_same _ w a b)
    · exact .refl s
  next => exact .refl s

theorem closeWindow_same (s : State) : SameTables s (closeWindow s) := by
  unfold Machine.closeWindow
  split
  · split <;> exact ⟨rfl, id⟩
  · exact .refl s

theorem endPulse_same (m : Nat) (s : State) : SameTables s (endPulse m s) := by
  unfold Machine.endPulse
  dsimp only
  split_ifs <;> exact ⟨rfl, id⟩

theorem microtick_same (s : State) : SameTables s (microtick s) := by
  unfold Machine.microtick
  split_ifs <;> exact ⟨rfl, id⟩

/-- Every command keeps the tables sound. -/
theorem TablesSound.exec (h : TablesSound s) {c : Instr} (he : exec c s = .next t) : TablesSound t := by
  have k := TablesSound.kept
  have beside {x : State} (hx : LinkOnly s x) (he : finish x = .next t) : TablesSound t := k.finish (k.beside h hx) he
  have same {x : State} (hx : SameTables s x) (he : finish x = .next t) : TablesSound t := k.finish (h.same hx) he
  cases c with
  | ident | config | cfgget | start | stop | stat | reset | eput | edel | eget | tclr | tload | tchk | tcommit | tcancel
  | bsetup | bwrite | bread | bstat | lsetDisable | lsetEnable | lsetClear | lstat | spost | scancel | slist | rfetch | rdrop
  | rthresh | gset | nmask | nack | evread => exact beside (requestArrives_linkOnly s _ _ _) he
  | unknownRequest tag code payload =>
    exact k.guarded h (fun _ => k.beside h (requestArrives_linkOnly s code tag payload)) he
  | inboundFrameComplete b | frameLength b | syncByteClockedOut b | frameClockedOut b | exchangeComplete b =>
    exact k.guarded h (fun _ => k.exchange h b) he
  | transactionStart => exact beside (fallCS_linkOnly s) he
  | transactionEnd => exact beside (riseCS_linkOnly s) he
  | notificationFrameComposed => exact k.guarded h (fun _ => k.beside h (compose_linkOnly s)) he
  | powerReset => exact k.finish (.of_reset (s := holdReset .power s) rfl) he
  | pinReset => exact k.finish (.of_reset (s := holdReset .pin s) rfl) he
  | resetEnd =>
    refine k.finish ?_ he
    split
    · exact h.same ⟨rfl, id⟩
    · exact h
  | cycleStart first => exact k.guarded h (fun _ => h.cycleStartEvent first) he
  | cycleMarkPulseEnd =>
    refine k.finish ?_ he
    split
    · exact h.same (endPulse_same _ s)
    · exact h
  | startupListenExpiry =>
    refine k.finish ?_ he
    split
    next m _ => exact h.expireListen m
    next => exact h
  | beaconDeadline | holdoverLimitReached => exact k.guarded h (fun _ => h.meetDeadline) he
  | freeMessageEnd l elapsed m =>
    have hp := h.same (pass_same s elapsed)
    have hx : SameTables (pass elapsed s) { pass elapsed s with
      rx := (pass elapsed s).rx.update l (Receiver.occupy (pass elapsed s).now) } := ⟨rfl, id⟩
    exact k.guarded h (fun _ => (hp.same hx).freeMessage l _ m.body) he
  | sendWindowStart position => exact same (windowStart_same (fun p e x => openSend_same x p e) position s) he
  | expectWindowStart position => exact same (windowStart_same (start := openExpect) (fun _ _ _ => ⟨rfl, id⟩) position s) he
  | openWindowStart position => exact same (windowStart_same (fun p e x => openOpen_same x p e) position s) he
  | quietWindowStart position => exact same (windowStart_same (start := openQuiet) (fun _ _ _ => ⟨rfl, id⟩) position s) he
  | breach l offset => exact same (carrierStart_same l offset s) he
  | expectWindowEnd a b => exact same (closeExpect_same a b s) he
  | windowEnd => exact same (closeWindow_same s) he
  | sendLaunchEnd a b => exact same (launchEnd_same (fun x y => endSend_same y x a b) s) he
  | sporadicLaunchEnd a b => exact same (launchEnd_same (fun x y => endSporadic_same y x a b) s) he
  | beaconLaunchEnd a b => exact same (launchEnd_same (fun x y => endBeacon_same y x a b) s) he
  | expiry => exact k.guarded h (fun _ => h.same (expireDue_same s)) he
  | holdExpired l => exact k.guarded h (fun _ => h.same (enterProbation_same s l .holdExpired)) he
  | probationPassed l => exact k.guarded h (fun _ => h.same (promoteLane_same s l)) he

/-- Every step keeps the tables sound. -/
theorem TablesSound.step (h : TablesSound s) (he : step s = .next t) : TablesSound t := by
  unfold Machine.step at he
  split at he
  next c rest _ =>
    have hp : TablesSound { s with pending := rest } := h.same ⟨rfl, id⟩
    exact hp.exec he
  next =>
    split at he
    next c _ =>
      have hc : TablesSound (countRace s) := h.same ⟨rfl, id⟩
      exact hc.exec he
    next =>
      obtain rfl := Host.Outcome.next.inj he
      exact h.same (microtick_same s)

end

/-- Settles O56: that the tables are valid, and that a commit is pending only while cycles run, is what every step keeps. -/
theorem tablesStayValid : Obligations.TablesStayValid := by
  intro s t hinv hstep
  obtain ⟨htable, hactive, hedit⟩ := ((TablesSound.of_inv hinv).step hstep).valid
  exact ⟨htable, hactive, hedit⟩

end Sys2Proof.Machine
end

section
/-! Validation of a bank follows the tests of R41 and R42: the first single-entry test that fails for the first entry for which
one fails, and else the first pair that meets in a cycle and overlaps or shares a slot id (O17). -/
namespace Sys2Proof.Machine

/-! ### The single-entry tests (R41) -/

/-- The single-entry test of this reason fails for the entry, in the terms of R41. -/
def Entry.Breaks (e : Entry) (p : Params) (bufs : List Buffer) : Reason → Prop
  | .cyclesEmpty => e.cycles = 0
  | .lanesNone => e.lanes = LaneSet.none
  | .beforeBeacon => e.start < 20 + 2 * p.tol
  | .pastTail => p.cycleLength < e.start + e.length + 20
  | .windowShort => e.length < (match e.role with
      | .send | .expect => 20 + 4 * e.maxWords.getD 0 + 2 * p.tol
      | .openSlot => 20 + 2 * p.tol
      | .quiet => 1)
  | .bufferKind =>
    (e.role = .send ∧ ¬∃ n x f q c k, e.buffer = some n ∧ bufs[n]? = some x ∧ x.status = .send f q c k) ∨
    (e.role = .expect ∧ ¬∃ n x st, e.buffer = some n ∧ bufs[n]? = some x ∧ x.status = .receive st)
  | .senderSelf => e.role = .expect ∧ e.sender = some (.node p.nodeId)
  | .overlap | .dupSlot => False

/-- The same test as the model makes it. -/
def Entry.fails (e : Entry) (p : Params) (bufs : List Buffer) : Reason → Bool
  | .cyclesEmpty => decide (e.cycles = 0)
  | .lanesNone => e.lanes.isEmpty
  | .beforeBeacon => decide (e.start < beaconWindow p)
  | .pastTail => decide (p.cycleLength < e.start + e.length + 20)
  | .windowShort => decide (e.length < e.minimum p.tol)
  | .bufferKind => e.wrongBuffer bufs
  | .senderSelf => decide (e.role = .expect ∧ e.sender = some (.node p.nodeId))
  | .overlap | .dupSlot => false

/-- The single-entry reasons in the order in which they are tested. -/
def entryReasons : List Reason :=
  [.cyclesEmpty, .lanesNone, .beforeBeacon, .pastTail, .windowShort, .bufferKind, .senderSelf]

section
variable (e : Entry) (p : Params) (bufs : List Buffer)

theorem find_cons_ite {α : Type} (q : α → Bool) (x : α) (xs : List α) :
    (x :: xs).find? q = if q x = true then some x else xs.find? q := by
  rw [List.find?_cons]
  cases q x <;> rfl

theorem fault_eq_find : e.fault p bufs = entryReasons.find? (e.fails p bufs) := by
  simp only [Entry.fault, entryReasons, find_cons_ite, List.find?_nil, Entry.fails, decide_eq_true_eq]

theorem lanes_isEmpty_iff (s : LaneSet) : s.isEmpty = true ↔ s = LaneSet.none := by
  obtain ⟨a, b⟩ := s
  cases a <;> cases b <;> simp [LaneSet.isEmpty, LaneSet.none]

theorem isSend_iff (b : Buffer) : b.isSend = true ↔ ∃ f q c k, b.status = .send f q c k := by
  unfold Buffer.isSend
  cases b.status <;> simp [BufferStatus.kindCode]

theorem isReceive_iff (b : Buffer) : b.isReceive = true ↔ ∃ st, b.status = .receive st := by
  unfold Buffer.isReceive
  cases b.status <;> simp [BufferStatus.kindCode]

/-- A test that an UNUSED buffer does not pass is passed by no buffer that is missing. -/
theorem named_buffer_iff {test : Buffer → Bool} (h : test Buffer.unused = false) :
    test ((e.buffer.bind fun n => bufs[n]?).getD Buffer.unused) = true ↔
      ∃ n x, e.buffer = some n ∧ bufs[n]? = some x ∧ test x = true := by
  cases e.buffer with
  | none => simp [h]
  | some n => cases hx : bufs[n]? <;> simp [h, hx]

theorem wrongBuffer_iff : e.wrongBuffer bufs = true ↔ e.Breaks p bufs .bufferKind := by
  unfold Entry.wrongBuffer Entry.Breaks
  cases e.role with
  | send =>
    rw [Bool.not_eq_true', ← Bool.not_eq_true, named_buffer_iff e bufs (test := Buffer.isSend) rfl]
    simp [isSend_iff]
  | expect =>
    rw [Bool.not_eq_true', ← Bool.not_eq_true, named_buffer_iff e bufs (test := Buffer.isReceive) rfl]
    simp [isReceive_iff]
  | openSlot | quiet => simp

theorem fails_iff (r : Reason) : e.fails p bufs r = true ↔ e.Breaks p bufs r := by
  cases r with
  | lanesNone => exact lanes_isEmpty_iff e.lanes
  | bufferKind => exact wrongBuffer_iff e p bufs
  | cyclesEmpty | beforeBeacon | pastTail | windowShort | senderSelf => exact decide_eq_true_iff
  | overlap | dupSlot => exact iff_of_false Bool.false_ne_true id

variable {e p bufs}

/-- The first reason, in the order of the tests, that holds. -/
theorem fault_eq_some_iff {r : Reason} : e.fault p bufs = some r ↔ ∃ before after,
    entryReasons = before ++ r :: after ∧ e.Breaks p bufs r ∧ ∀ q ∈ before, ¬e.Breaks p bufs q := by
  rw [fault_eq_find, List.find?_eq_some_iff_append, fails_iff]
  simp only [Bool.not_eq_true', ← Bool.not_eq_true, fails_iff]
  constructor
  · rintro ⟨hr, before, after, horder, hbefore⟩
    exact ⟨before, after, horder, hr, hbefore⟩
  · rintro ⟨before, after, horder, hr, hbefore⟩
    exact ⟨hr, before, after, horder, hbefore⟩

/-- Every reason of a single-entry test is among those tested. -/
theorem mem_entryReasons {r : Reason} (h : e.Breaks p bufs r) : r ∈ entryReasons := by
  cases r with
  | overlap | dupSlot => exact h.elim
  | _ => simp [entryReasons]

theorem fault_eq_none_iff : e.fault p bufs = none ↔ ∀ r, ¬e.Breaks p bufs r := by
  rw [fault_eq_find, List.find?_eq_none]
  simp only [fails_iff]
  exact ⟨fun h r hr => h r (mem_entryReasons hr) hr, fun h r _ => h r⟩

end

/-! ### The pair tests (R42) -/

section
variable {e f : Entry}

/-- The windows of two entries with a cycle in common overlap. -/
def Entry.Overlaps (e f : Entry) : Prop :=
  e.cycles &&& f.cycles ≠ 0 ∧ e.start < f.start + f.length ∧ f.start < e.start + e.length

/-- Two entries with a cycle in common have one slot id. -/
def Entry.Doubles (e f : Entry) : Prop := e.cycles &&& f.cycles ≠ 0 ∧ e.slot = f.slot

theorem pairFault_eq_some_iff {r : Reason} : pairFault e f = some r ↔
    (r = .overlap ∧ e.Overlaps f) ∨ (r = .dupSlot ∧ ¬e.Overlaps f ∧ e.Doubles f) := by
  unfold pairFault Entry.Overlaps Entry.Doubles
  split_ifs <;> simp_all [eq_comm]

theorem pairFault_eq_none_iff : pairFault e f = none ↔ ¬e.Overlaps f ∧ ¬e.Doubles f := by
  unfold pairFault Entry.Overlaps Entry.Doubles
  split_ifs <;> simp_all

/-- Entries active in one cycle have a cycle in common. -/
theorem cycles_meet {c : BitVec 6} (he : e.activeIn c = true) (hf : f.activeIn c = true) : e.cycles &&& f.cycles ≠ 0 := by
  intro h
  have hbit : (e.cycles &&& f.cycles).getLsbD c.toNat = true := by
    rw [BitVec.getLsbD_and, Bool.and_eq_true]
    exact ⟨he, hf⟩
  rw [h] at hbit
  simp at hbit

/-- In one cycle, entries that pass the pair tests have disjoint windows and different slot ids. -/
theorem apart_of_pairFault (h : pairFault e f = none) {c : BitVec 6} (he : e.activeIn c = true)
    (hf : f.activeIn c = true) : (e.start + e.length ≤ f.start ∨ f.start + f.length ≤ e.start) ∧ e.slot ≠ f.slot := by
  obtain ⟨hoverlap, hdouble⟩ := pairFault_eq_none_iff.1 h
  have hmeet := cycles_meet he hf
  refine ⟨?_, fun hs => hdouble ⟨hmeet, hs⟩⟩
  by_contra hno
  exact hoverlap ⟨hmeet, by omega⟩

end

/-! ### The first failure in the order of positions -/

section
variable {es : List (Nat × Entry)} {p : Params} {bufs : List Buffer} {r : Reason} {i : Nat} {j : Option Nat}

/-- What is found first in ascending positions is found at the lowest. -/
theorem findSome_ascending {β : Type} {g : Nat × Entry → Option β} {v : β} (h : es.Pairwise fun x y => x.1 < y.1) :
    es.findSome? g = some v ↔ ∃ x ∈ es, g x = some v ∧ ∀ y ∈ es, y.1 < x.1 → g y = none := by
  induction es with
  | nil => simp
  | cons x es ih =>
    obtain ⟨hx, hes⟩ := List.pairwise_cons.1 h
    have hfirst : ∀ y ∈ x :: es, ¬y.1 < x.1 := by
      rintro y hy
      rcases List.mem_cons.1 hy with rfl | hy
      · exact lt_irrefl _
      · exact (hx y hy).asymm
    rw [List.findSome?_cons]
    cases hg : g x with
    | some w =>
      refine ⟨fun hv => ⟨x, List.mem_cons_self, hg.trans hv, fun y hy hlt => absurd hlt (hfirst y hy)⟩, ?_⟩
      rintro ⟨y, hy, hgy, hbefore⟩
      rcases List.mem_cons.1 hy with rfl | hy
      · exact hg.symm.trans hgy
      · exact nomatch hg.symm.trans (hbefore x List.mem_cons_self (hx y hy))
    | none =>
      dsimp only
      rw [ih hes]
      constructor
      · rintro ⟨y, hy, hgy, hbefore⟩
        refine ⟨y, List.mem_cons_of_mem _ hy, hgy, List.forall_mem_cons.2 ⟨fun _ => hg, hbefore⟩⟩
      · rintro ⟨y, hy, hgy, hbefore⟩
        rcases List.mem_cons.1 hy with rfl | hy
        · exact nomatch hg.symm.trans hgy
        · exact ⟨y, hy, hgy, fun z hz => hbefore z (List.mem_cons_of_mem _ hz)⟩

theorem firstEntryFault_eq : firstEntryFault p bufs es = es.findSome? fun x => (x.2.fault p bufs).map fun r => ⟨r, x.1, none⟩ := by
  induction es with
  | nil => rfl
  | cons x es ih =>
    rw [firstEntryFault, List.findSome?_cons, ih]
    cases x.2.fault p bufs <;> rfl

theorem firstPartnerFault_eq (i : Nat) (e : Entry) :
    firstPartnerFault i e es = es.findSome? fun y => (pairFault e y.2).map fun r => ⟨r, i, some y.1⟩ := by
  induction es with
  | nil => rfl
  | cons y es ih =>
    rw [firstPartnerFault, List.findSome?_cons, ih]
    cases pairFault e y.2 <;> rfl

theorem firstEntryFault_eq_none_iff : firstEntryFault p bufs es = none ↔ ∀ x ∈ es, x.2.fault p bufs = none := by
  simp [firstEntryFault_eq]

theorem firstEntryFault_eq_some_iff (h : es.Pairwise fun x y => x.1 < y.1) :
    firstEntryFault p bufs es = some ⟨r, i, j⟩ ↔ j = none ∧ ∃ e, (i, e) ∈ es ∧ e.fault p bufs = some r ∧
      ∀ x ∈ es, x.1 < i → x.2.fault p bufs = none := by
  rw [firstEntryFault_eq, findSome_ascending h]
  simp only [Option.map_eq_some_iff, Option.map_eq_none_iff, Failure.mk.injEq]
  constructor
  · rintro ⟨⟨k, e⟩, hx, ⟨q, hq, rfl, rfl, rfl⟩, hbefore⟩
    exact ⟨rfl, e, hx, hq, hbefore⟩
  · rintro ⟨rfl, e, hx, hq, hbefore⟩
    exact ⟨(i, e), hx, ⟨r, hq, rfl, rfl, rfl⟩, hbefore⟩

theorem firstPartnerFault_eq_some_iff (h : es.Pairwise fun x y => x.1 < y.1) {k : Nat} {e : Entry} :
    firstPartnerFault k e es = some ⟨r, i, j⟩ ↔ i = k ∧ ∃ l f, j = some l ∧ (l, f) ∈ es ∧ pairFault e f = some r ∧
      ∀ y ∈ es, y.1 < l → pairFault e y.2 = none := by
  rw [firstPartnerFault_eq, findSome_ascending h]
  simp only [Option.map_eq_some_iff, Option.map_eq_none_iff, Failure.mk.injEq]
  constructor
  · rintro ⟨⟨l, f⟩, hy, ⟨q, hq, rfl, rfl, rfl⟩, hbefore⟩
    exact ⟨rfl, l, f, rfl, hy, hq, hbefore⟩
  · rintro ⟨rfl, l, f, rfl, hy, hq, hbefore⟩
    exact ⟨(l, f), hy, ⟨r, hq, rfl, rfl, rfl⟩, hbefore⟩

theorem firstPairFault_eq_none_iff : firstPairFault es = none ↔ es.Pairwise fun x y => pairFault x.2 y.2 = none := by
  induction es with
  | nil => simp [firstPairFault]
  | cons x es ih =>
    have hx : firstPartnerFault x.1 x.2 es = none ↔ ∀ y ∈ es, pairFault x.2 y.2 = none := by simp [firstPartnerFault_eq]
    rw [List.pairwise_cons, ← hx, ← ih, firstPairFault]
    cases firstPartnerFault x.1 x.2 es <;> simp

/-- The pair of these positions is the first to fail a pair test, and this is the reason. -/
def FirstPair (es : List (Nat × Entry)) (r : Reason) (i k : Nat) : Prop :=
  ∃ e f, (i, e) ∈ es ∧ (k, f) ∈ es ∧ i < k ∧ pairFault e f = some r ∧
    ∀ x ∈ es, ∀ y ∈ es, x.1 < y.1 → x.1 < i ∨ (x.1 = i ∧ y.1 < k) → pairFault x.2 y.2 = none

section
variable {x : Nat × Entry}

/-- A pair of a list that ascends from x on: x with a later one, or two later ones. -/
theorem pair_cons (hx : ∀ y ∈ es, x.1 < y.1) {y z : Nat × Entry} (hy : y ∈ x :: es) (hz : z ∈ x :: es) (h : y.1 < z.1) :
    (y = x ∧ z ∈ es) ∨ (x.1 < y.1 ∧ y ∈ es ∧ z ∈ es) := by
  have hlater : z ∈ es := by
    rcases List.mem_cons.1 hz with rfl | hmem
    · rcases List.mem_cons.1 hy with rfl | hmem
      · exact absurd h (lt_irrefl _)
      · exact absurd h (hx y hmem).asymm
    · exact hmem
  rcases List.mem_cons.1 hy with rfl | hmem
  · exact .inl ⟨rfl, hlater⟩
  · exact .inr ⟨hx y hmem, hmem, hlater⟩

/-- In ascending positions, what holds of every pair in its order holds of every two of them. -/
theorem pairwise_ascending {R : Nat × Entry → Nat × Entry → Prop} (h : es.Pairwise fun x y => x.1 < y.1) :
    es.Pairwise R ↔ ∀ x ∈ es, ∀ y ∈ es, x.1 < y.1 → R x y := by
  induction es with
  | nil => simp
  | cons x es ih =>
    obtain ⟨hx, hes⟩ := List.pairwise_cons.1 h
    rw [List.pairwise_cons, ih hes]
    constructor
    · rintro ⟨hhead, htail⟩ y hy z hz hyz
      rcases pair_cons hx hy hz hyz with ⟨rfl, hlater⟩ | ⟨-, hy, hz⟩
      · exact hhead z hlater
      · exact htail y hy z hz hyz
    · intro hall
      exact ⟨fun z hz => hall x List.mem_cons_self z (List.mem_cons_of_mem _ hz) (hx z hz), fun y hy z hz =>
        hall y (List.mem_cons_of_mem _ hy) z (List.mem_cons_of_mem _ hz)⟩

/-- The first pair that fails has the first entry in it, as soon as that entry fails with any. -/
theorem firstPair_head (hx : ∀ y ∈ es, x.1 < y.1) (h : ∃ z ∈ es, pairFault x.2 z.2 ≠ none) {k : Nat} :
    FirstPair (x :: es) r i k ↔ i = x.1 ∧ ∃ f, (k, f) ∈ es ∧ pairFault x.2 f = some r ∧
      ∀ y ∈ es, y.1 < k → pairFault x.2 y.2 = none := by
  obtain ⟨z, hz, hfails⟩ := h
  constructor
  · rintro ⟨e, f, he, hf, hlt, hfail, hbefore⟩
    rcases pair_cons hx he hf hlt with ⟨rfl, hlater⟩ | ⟨hxi, -, -⟩
    · exact ⟨rfl, f, hlater, hfail, fun y hy hyk =>
        hbefore _ he y (List.mem_cons_of_mem _ hy) (hx y hy) (.inr ⟨rfl, hyk⟩)⟩
    · exact absurd (hbefore x List.mem_cons_self z (List.mem_cons_of_mem _ hz) (hx z hz) (.inl hxi)) hfails
  · rintro ⟨rfl, f, hf, hfail, hbefore⟩
    refine ⟨x.2, f, List.mem_cons_self, List.mem_cons_of_mem _ hf, hx _ hf, hfail, fun y hy w hw hlt hlow => ?_⟩
    rcases pair_cons hx hy hw hlt with ⟨rfl, hlater⟩ | ⟨hxy, -, -⟩
    · rcases hlow with hlow | ⟨-, hwk⟩
      · exact absurd hlow (lt_irrefl _)
      · exact hbefore w hlater hwk
    · omega

/-- An entry that fails with none is passed over. -/
theorem firstPair_tail (hx : ∀ y ∈ es, x.1 < y.1) (h : ∀ z ∈ es, pairFault x.2 z.2 = none) {k : Nat} :
    FirstPair (x :: es) r i k ↔ FirstPair es r i k := by
  constructor
  · rintro ⟨e, f, he, hf, hlt, hfail, hbefore⟩
    rcases pair_cons hx he hf hlt with ⟨rfl, hlater⟩ | ⟨-, he, hf⟩
    · exact nomatch hfail.symm.trans (h (k, f) hlater)
    · exact ⟨e, f, he, hf, hlt, hfail, fun y hy z hz =>
        hbefore y (List.mem_cons_of_mem _ hy) z (List.mem_cons_of_mem _ hz)⟩
  · rintro ⟨e, f, he, hf, hlt, hfail, hbefore⟩
    refine ⟨e, f, List.mem_cons_of_mem _ he, List.mem_cons_of_mem _ hf, hlt, hfail, fun y hy z hz hyz hlow => ?_⟩
    rcases pair_cons hx hy hz hyz with ⟨rfl, hlater⟩ | ⟨-, hy, hz⟩
    · exact h z hlater
    · exact hbefore y hy z hz hyz hlow

end

theorem firstPairFault_eq_some_iff (h : es.Pairwise fun x y => x.1 < y.1) :
    firstPairFault es = some ⟨r, i, j⟩ ↔ ∃ k, j = some k ∧ FirstPair es r i k := by
  induction es with
  | nil => simp [firstPairFault, FirstPair]
  | cons x es ih =>
    obtain ⟨hx, hes⟩ := List.pairwise_cons.1 h
    have hnone : firstPartnerFault x.1 x.2 es = none ↔ ∀ y ∈ es, pairFault x.2 y.2 = none := by simp [firstPartnerFault_eq]
    rw [firstPairFault]
    cases hf : firstPartnerFault x.1 x.2 es with
    | some v =>
      have hsome : ∃ z ∈ es, pairFault x.2 z.2 ≠ none := by
        by_contra hno
        push Not at hno
        exact nomatch hf.symm.trans (hnone.2 hno)
      simp only [← hf, firstPartnerFault_eq_some_iff hes, firstPair_head hx hsome]
      exact ⟨fun ⟨hi, k, f, hj, hrest⟩ => ⟨k, hj, hi, f, hrest⟩, fun ⟨k, hj, hi, f, hrest⟩ => ⟨hi, k, f, hj, hrest⟩⟩
    | none => simp only [ih hes, firstPair_tail hx (hnone.1 hf)]

end

/-! ### Validation -/

section
variable {p : Params} {bufs : List Buffer} {b : Bank} {r : Reason} {i : Nat}

/-- Every entry of the bank passes the single-entry tests. -/
def AllPass (p : Params) (bufs : List Buffer) (b : Bank) : Prop :=
  ∀ k f, b.entryAt k = some f → f.fault p bufs = none

theorem forall_occupied {P : Nat → Entry → Prop} :
    (∀ x ∈ occupiedFrom b 0, P x.1 x.2) ↔ ∀ k f, b.entryAt k = some f → P k f :=
  ⟨fun h k f hf => h (k, f) (mem_occupied.2 hf), fun h x hx => h x.1 x.2 (mem_occupied.1 hx)⟩

theorem forall_occupied_pairs {P : Nat → Nat → Entry → Entry → Prop} :
    (∀ x ∈ occupiedFrom b 0, ∀ y ∈ occupiedFrom b 0, x.1 < y.1 → P x.1 y.1 x.2 y.2) ↔
      ∀ k l g h, k < l → b.entryAt k = some g → b.entryAt l = some h → P k l g h :=
  ⟨fun hall k l g h hlt hg hh => hall (k, g) (mem_occupied.2 hg) (l, h) (mem_occupied.2 hh) hlt,
    fun hall x hx y hy hlt => hall x.1 y.1 x.2 y.2 hlt (mem_occupied.1 hx) (mem_occupied.1 hy)⟩

theorem allPass_iff : firstEntryFault p bufs (occupiedFrom b 0) = none ↔ AllPass p bufs b :=
  firstEntryFault_eq_none_iff.trans (forall_occupied (P := fun _ f => f.fault p bufs = none))

theorem validate_entry_iff : validate p bufs b = some ⟨r, i, none⟩ ↔ ∃ e, b.entryAt i = some e ∧
    e.fault p bufs = some r ∧ ∀ k f, k < i → b.entryAt k = some f → f.fault p bufs = none := by
  have hasc := occupiedFrom_ascending b 0
  have hentry : firstEntryFault p bufs (occupiedFrom b 0) = some ⟨r, i, none⟩ ↔ ∃ e, b.entryAt i = some e ∧
      e.fault p bufs = some r ∧ ∀ k f, k < i → b.entryAt k = some f → f.fault p bufs = none := by
    rw [firstEntryFault_eq_some_iff hasc]
    simp only [mem_occupied, true_and]
    refine exists_congr fun e => and_congr_right fun _ => and_congr_right fun _ => ?_
    exact (forall_occupied (P := fun k f => k < i → f.fault p bufs = none)).trans
      (forall₂_congr fun k f => ⟨fun h hk hf => h hf hk, fun h hf hk => h hk hf⟩)
  rw [← hentry, validate]
  cases hf : firstEntryFault p bufs (occupiedFrom b 0) with
  | some v => rfl
  | none => simp [firstPairFault_eq_some_iff hasc]

theorem validate_pair_iff {j : Nat} : validate p bufs b = some ⟨r, i, some j⟩ ↔ AllPass p bufs b ∧
    ∃ e f, i < j ∧ b.entryAt i = some e ∧ b.entryAt j = some f ∧ pairFault e f = some r ∧
      ∀ k l g h, k < l → k < i ∨ (k = i ∧ l < j) → b.entryAt k = some g → b.entryAt l = some h → pairFault g h = none := by
  have hasc := occupiedFrom_ascending b 0
  rw [← allPass_iff, validate]
  cases hf : firstEntryFault p bufs (occupiedFrom b 0) with
  | some v =>
    obtain ⟨q, a, c⟩ := v
    obtain ⟨rfl, -⟩ := (firstEntryFault_eq_some_iff hasc).1 hf
    simp
  | none =>
    simp only [firstPairFault_eq_some_iff hasc, Option.some.injEq, exists_eq_left', true_and, FirstPair, mem_occupied]
    have hbefore := forall_occupied_pairs (b := b)
      (P := fun k l g h => k < i ∨ (k = i ∧ l < j) → pairFault g h = none)
    constructor
    · rintro ⟨e, f, he, hf, hlt, hfail, hfirst⟩
      exact ⟨e, f, hlt, he, hf, hfail, fun k l g h hkl hlow hg hh => hbefore.1 hfirst k l g h hkl hg hh hlow⟩
    · rintro ⟨e, f, hlt, he, hf, hfail, hfirst⟩
      exact ⟨e, f, he, hf, hlt, hfail, hbefore.2 fun k l g h hkl hg hh hlow => hfirst k l g h hkl hlow hg hh⟩

theorem validate_none_iff : validate p bufs b = none ↔ AllPass p bufs b ∧
    ∀ k l g h, k < l → b.entryAt k = some g → b.entryAt l = some h → pairFault g h = none := by
  rw [← allPass_iff, validate]
  cases hf : firstEntryFault p bufs (occupiedFrom b 0) with
  | some v => simp
  | none =>
    simp only [firstPairFault_eq_none_iff, true_and, pairwise_ascending (occupiedFrom_ascending b 0)]
    exact forall_occupied_pairs (P := fun _ _ g h => pairFault g h = none)

end

/-- Settles O17, from what the first failing entry, the first failing pair and a bank with neither are. -/
theorem validationFollowsTheTests : Obligations.ValidationFollowsTheTests := by
  intro p bufs b holds order passes meet overlap twice
  have hpasses (e : Entry) : e.fault p bufs = none ↔ passes e := fault_eq_none_iff
  have hsome (e f : Entry) (r : Reason) : pairFault e f = some r ↔
      (r = .overlap ∧ overlap e f) ∨ (r = .dupSlot ∧ ¬overlap e f ∧ twice e f) := pairFault_eq_some_iff
  have hnone (e f : Entry) : pairFault e f = none ↔ ¬overlap e f ∧ ¬twice e f := pairFault_eq_none_iff
  refine ⟨fun r i => ?_, fun r i j => ?_, fun hvalid => ?_⟩
  · rw [validate_entry_iff]
    constructor
    · rintro ⟨e, he, hfault, hlower⟩
      obtain ⟨before, after, horder, hr, hbefore⟩ := fault_eq_some_iff.1 hfault
      exact ⟨e, before, after, he, horder, hr, hbefore, fun k f hk hf => (hpasses f).1 (hlower k f hk hf)⟩
    · rintro ⟨e, before, after, he, horder, hr, hbefore, hlower⟩
      exact ⟨e, he, fault_eq_some_iff.2 ⟨before, after, horder, hr, hbefore⟩, fun k f hk hf =>
        (hpasses f).2 (hlower k f hk hf)⟩
  · simp only [validate_pair_iff, AllPass, hpasses, hsome, hnone]
  · obtain ⟨hall, hpairs⟩ := validate_none_iff.1 hvalid
    refine ⟨fun i e he => ?_, fun i j e f c hne he hf hec hfc => ?_⟩
    · have hp := (hpasses e).1 (hall i e he)
      exact ⟨hp, not_lt.1 (hp .beforeBeacon), not_lt.1 (hp .pastTail)⟩
    · rcases Nat.lt_or_gt_of_ne hne with hlt | hlt
      · exact apart_of_pairFault (hpairs i j e f hlt he hf) hec hfc
      · obtain ⟨hwindows, hslots⟩ := apart_of_pairFault (hpairs j i f e hlt hf he) hfc hec
        exact ⟨hwindows.symm, hslots.symm⟩

end Sys2Proof.Machine
end

section
/-! A request that comes in to a free handler is carried out at once (R180, R182): the requests that edit the EDIT bank, and
those of the commit (O15, O18, O19). -/
namespace Sys2Proof.Machine

section
variable {tag : Byte} {s x : State}

/-! ### A request on a free handler -/

/-- With nothing else amiss, a free handler takes the request and its block carries it out (R181, R182). -/
theorem ready_request (h : Ready tag s) (c : Code) {p : List Byte} (hlen : p.length = c.required p) :
    finish (requestArrives c.byte tag p s) = .next (composeAll (carryOut c tag p (reserveFor [] s))) := by
  obtain ⟨⟨hreset, hintake, hplace, harbiter⟩, htag, hunused⟩ := h
  rw [request_row hreset hintake hplace harbiter htag, checkRequest]
  have hcode : Code.ofByte c.byte = some c := by cases c <;> rfl
  have hfree : tagInUse tag [] (reserveFor [] s).link.deferred = false := hunused
  simp only [hfree, Bool.false_eq_true, if_false, hcode]
  rw [if_pos hlen]

theorem composeAll_of_not_ready (h : arbiterReady s = false) : composeAll s = s := by
  have hf : ¬arbiterReady s = true := Bool.eq_false_iff.1 h
  unfold composeAll
  rw [if_neg hf]
  exact if_neg hf

/-- A handler that was free stays without a notification to compose while the outbound queue gets fuller (R144). -/
theorem arbiter_idle_of_fuller (h : Idle s) (hn : x.notif = s.notif) (hr : x.resetting = s.resetting)
    (hc : x.link.notifications = s.link.notifications) : arbiterReady x = false := by
  obtain ⟨-, -, hplace, harbiter⟩ := h
  unfold arbiterReady at harbiter ⊢
  rw [hplace, Bool.and_true] at harbiter
  rw [hn, hr, hc, harbiter, Bool.false_and]

/-- Its block answers and changes nothing that the arbiter looks at: the response stands in the outbound queue, in the place
that was reserved for it. -/
theorem ready_answer (h : Ready tag s) (c : Code) {p q : List Byte} {r : Result} (hlen : p.length = c.required p)
    (hx : carryOut c tag p (reserveFor [] s) = answer tag r q (reserveFor [] x)) (hn : x.notif = s.notif)
    (hr : x.resetting = s.resetting) (hl : x.link = s.link) :
    finish (requestArrives c.byte tag p s) = .next (replied tag r q x) := by
  have hreplied : answer tag r q (reserveFor [] x) = replied tag r q x := by
    have hintake : x.link.intake = [] := by rw [hl]; exact h.1.2.1
    unfold answer reserveFor replied
    rw [← hintake]
    rfl
  have hnotifications : (replied tag r q x).link.notifications = s.link.notifications := by
    rw [← hl]
    simp [replied, Link.notifications, responseFrame, OutFrame.isNotification]
  have hidle := arbiter_idle_of_fuller (x := replied tag r q x) h.1 hn hr hnotifications
  rw [ready_request h c hlen, hx, hreplied, composeAll_of_not_ready hidle]

end

/-! ### Requests that edit the EDIT bank (R44 to R48) -/

section
variable {tag : Byte} {s : State}

theorem doEput_stored {p : List Byte} (hp : s.sched.commitPending = false) (hb : entryBad p = none) :
    doEput tag p s = answer tag .ok [] (setEdit (s.sched.edit.set (fieldAt p 0) (some (entryOf p))) s) := by
  simp [doEput, hp, hb]

theorem doEput_refused {p : List Byte} {o : Nat} (hp : s.sched.commitPending = false) (hb : entryBad p = some o) :
    doEput tag p s = answer tag .badField [byte o] s := by
  simp [doEput, hp, hb, badField]

theorem doEdel_emptied {b : Byte} (hp : s.sched.commitPending = false) (hb : b.toNat ≤ 63) :
    doEdel tag [b] s = answer tag .ok [] (setEdit (s.sched.edit.set b.toNat none) s) := by
  have hn : ¬63 < fieldAt [b] 0 := Nat.not_lt.2 hb
  unfold doEdel
  rw [if_neg (by simp [hp]), if_neg hn]
  rfl

theorem doEdel_refused {b : Byte} (hp : s.sched.commitPending = false) (hb : 63 < b.toNat) :
    doEdel tag [b] s = answer tag .badField [0] s := by
  have hn : 63 < fieldAt [b] 0 := hb
  unfold doEdel
  rw [if_neg (by simp [hp]), if_pos hn]
  rfl

end

/-- Settles O15: each row is its block's request, carried out at once, and the request touches the EDIT bank alone. -/
theorem editRequests : Obligations.EditRequests := by
  intro tag s h
  have answers {c : Code} {p q : List Byte} {r : Result} (b : Bank) (hlen : p.length = c.required p)
      (hx : carryOut c tag p (reserveFor [] s) = answer tag r q (setEdit b (reserveFor [] s))) :
      finish (requestArrives c.byte tag p s) = .next (replied tag r q (setEdit b s)) :=
    ready_answer h c hlen hx rfl rfl rfl
  have refuses {c : Code} {p q : List Byte} {r : Result} (hlen : p.length = c.required p)
      (hx : carryOut c tag p (reserveFor [] s) = answer tag r q (reserveFor [] s)) :
      finish (requestArrives c.byte tag p s) = .next (replied tag r q s) :=
    ready_answer h c hlen hx rfl rfl rfl
  refine ⟨fun hp => ?_, fun hp => ?_⟩
  · have hpending : (reserveFor [] s).sched.commitPending = true := hp
    exact ⟨fun p hlen => refuses (c := .eput) hlen (if_pos hpending), fun b => refuses (c := .edel) rfl (if_pos hpending),
      refuses (c := .tclr) rfl (if_pos hpending), refuses (c := .tload) rfl (if_pos hpending)⟩
  · have hfree : (reserveFor [] s).sched.commitPending = false := hp
    have hnot : ¬(reserveFor [] s).sched.commitPending = true := Bool.eq_false_iff.1 hp
    exact ⟨fun p hlen hb => answers (c := .eput) _ hlen (doEput_stored hfree hb),
      fun p o hlen hb => refuses (c := .eput) hlen (doEput_refused hfree hb),
      fun b hb => answers (c := .edel) _ rfl (doEdel_emptied hfree hb),
      fun b hb => refuses (c := .edel) rfl (doEdel_refused hfree hb),
      answers (c := .tclr) _ rfl (if_neg hnot), answers (c := .tload) _ rfl (if_neg hnot)⟩

/-! ### The commit (R50, R51, R54) -/

section
variable {tag : Byte} {s : State}

/-- A reservation has been filled. -/
def unreserved (s : State) : State := { s with link := { s.link with reservations := s.link.reservations - 1 } }

theorem answer_does (tag : Byte) (r : Result) (p : List Byte) :
    Does (answer tag r p) unreserved (fun _ => [responseFrame tag r p]) (fun _ => []) where
  posts s := ⟨s.notif, [responseFrame tag r p], s.races, rfl, rfl, by simp [responseFrame], .refl _⟩
  blind _ _ _ _ := rfl
  respBlind _ _ _ _ := rfl
  saidBlind _ _ _ _ := rfl

/-- Between a request's reservation and its answer the link stays as it was. -/
theorem unreserved_reserveFor (hi : s.link.intake = []) : unreserved (reserveFor [] s) = s := by
  unfold unreserved reserveFor
  rw [← hi]
  rfl

/-! #### TCOMMIT (R50, R51) -/

theorem doTcommit_invalid {f : Failure} (hp : s.sched.commitPending = false)
    (hf : validate s.cfg s.bufs s.sched.edit = some f) : doTcommit tag s = answer tag .tableInvalid f.payload s := by
  simp [doTcommit, hp, hf]

/-- A commit is pending, and its TCOMMIT deferred. -/
def committing (tag : Byte) (s : State) : State :=
  { s with
    sched := { s.sched with commitPending := true }
    link := { s.link with deferred := some ⟨.tcommit, tag⟩ } }

theorem doTcommit_deferred (hp : s.sched.commitPending = false) (hv : validate s.cfg s.bufs s.sched.edit = none)
    (hr : s.tb.sync.running = true) : doTcommit tag s = committing tag s := by
  simp [doTcommit, hp, hv, hr, committing]

theorem doTcommit_copied (hp : s.sched.commitPending = false) (hv : validate s.cfg s.bufs s.sched.edit = none)
    (hr : s.tb.sync.running = false) :
    doTcommit tag s = raiseCommitDone .immediate (answer tag .ok [] (copyEdit s)) := by
  simp [doTcommit, hp, hv, hr]

/-- A TCOMMIT while cycles run: the handler and the arbiter have nothing more to do. -/
theorem tcommit_pending (h : Ready tag s) (hp : s.sched.commitPending = false)
    (hv : validate s.cfg s.bufs s.sched.edit = none) (hr : s.tb.sync.running = true) :
    exec (.tcommit tag []) s = .next { s with
      sched := { s.sched with commitPending := true }
      link := { s.link with deferred := some ⟨.tcommit, tag⟩, reservations := s.link.reservations + 1 } } := by
  have htaken : exec (.tcommit tag []) s = .next (composeAll (doTcommit tag (reserveFor [] s))) :=
    ready_request h .tcommit rfl
  rw [htaken, doTcommit_deferred (s := reserveFor [] s) hp hv hr,
    composeAll_of_not_ready (arbiter_idle_of_fuller (x := committing tag (reserveFor [] s)) h.1 rfl rfl rfl)]
  have hintake : s.link.intake = [] := h.1.2.1
  simp only [committing, reserveFor, ← hintake]

/-- A TCOMMIT while no cycle runs answers OK and raises COMMIT_DONE. -/
theorem tcommit_done (h : Ready tag s) (hp : s.sched.commitPending = false)
    (hv : validate s.cfg s.bufs s.sched.edit = none) (hr : s.tb.sync.running = false) :
    ∃ t, exec (.tcommit tag []) s = .next t ∧ Posts [responseFrame tag .ok []]
      [⟨.commitDone, s.tb.cycle, ⟨1, cycleByte s.tb.cycle, byte s.sched.edit.occupied, 0⟩⟩]
      { s with sched := { s.sched with active := s.sched.edit } } t := by
  have htaken : exec (.tcommit tag []) s = .next (composeAll (doTcommit tag (reserveFor [] s))) :=
    ready_request h .tcommit rfl
  rw [doTcommit_copied (s := reserveFor [] s) hp hv hr] at htaken
  have hcopied : unreserved (copyEdit (reserveFor [] s)) = { s with sched := { s.sched with active := s.sched.edit } } := by
    have hback : unreserved (copyEdit (reserveFor [] s)) = copyEdit s :=
      congrArg copyEdit (unreserved_reserveFor h.1.2.1)
    rw [hback, copyEdit, ← hp]
  have hposts := (answer_does tag .ok []).posts (copyEdit (reserveFor [] s))
  rw [hcopied] at hposts
  exact ⟨_, htaken, (hposts.raise .commitDone _).composeAll⟩

/-! #### TCANCEL (R54) -/

/-- No commit is pending any more. -/
def uncommitted (s : State) : State := { s with sched := { s.sched with commitPending := false } }

theorem doTcancel_pending (hp : s.sched.commitPending = true) : doTcancel tag s =
    raise .commitCancelled (detail2 (cycleByte s.tb.cycle) (byte s.sched.edit.occupied))
      (answer tag .ok [] (answerDeferred .tcommit .cancelled (uncommitted s))) := if_pos hp

theorem undefer_held {kind : DeferredKind} {d : Byte} (hd : s.link.deferred = some ⟨kind, d⟩) : undefer kind s =
    { s with link := { s.link with deferred := none, reservations := s.link.reservations - 1 } } := by
  simp [undefer, Link.withoutDeferred, hd]

/-- A TCANCEL of a pending commit answers the deferred TCOMMIT, then itself, and raises COMMIT_CANCELLED. -/
theorem tcancel_done (h : Ready tag s) (hk : LinkSound s.link) (hp : s.sched.commitPending = true) {d : Byte}
    (hd : s.link.deferred = some ⟨.tcommit, d⟩) :
    ∃ t, exec (.tcancel tag []) s = .next t ∧ Posts [responseFrame d .cancelled [], responseFrame tag .ok []]
      [⟨.commitCancelled, s.tb.cycle, ⟨cycleByte s.tb.cycle, byte s.sched.edit.occupied, 0, 0⟩⟩]
      { s with
        sched := { s.sched with commitPending := false }
        link := { s.link with deferred := none, reservations := 0 } } t := by
  have hreserved : s.link.reservations = 1 := by
    obtain ⟨-, -, -, hres⟩ := hk
    rw [hres, hd]
    rfl
  have hheld : (uncommitted (reserveFor [] s)).link.deferred = some ⟨.tcommit, d⟩ := hd
  have htaken : exec (.tcancel tag []) s = .next (composeAll (doTcancel tag (reserveFor [] s))) :=
    ready_request h .tcancel rfl
  rw [doTcancel_pending (s := reserveFor [] s) hp] at htaken
  have hdone : unreserved (undefer .tcommit (uncommitted (reserveFor [] s))) =
      { s with
        sched := { s.sched with commitPending := false }
        link := { s.link with deferred := none, reservations := 0 } } := by
    rw [undefer_held hheld]
    simp [unreserved, uncommitted, hreserved, show s.link.intake = [] from h.1.2.1]
  have hanswer : (uncommitted (reserveFor [] s)).link.deferredAnswer .tcommit .cancelled = [responseFrame d .cancelled []] := by
    simp [Link.deferredAnswer, hheld]
  have hposts := (answer_does tag .ok []).after
    ((answerDeferred_does .tcommit .cancelled).posts (uncommitted (reserveFor [] s)))
  rw [hdone, hanswer] at hposts
  exact ⟨_, htaken, (hposts.raise .commitCancelled _).composeAll⟩

end

/-- Settles O18: a TCOMMIT is refused, or leaves a commit pending with its answer deferred, or copies the EDIT bank. -/
theorem commitAtOnceOrPending : Obligations.CommitAtOnceOrPending := by
  intro tag s h ten
  have refuses {q : List Byte} {r : Result} (hx : doTcommit tag (reserveFor [] s) = answer tag r q (reserveFor [] s)) :
      exec (.tcommit tag []) s = .next (replied tag r q s) :=
    ready_answer h .tcommit rfl hx rfl rfl rfl
  refine ⟨fun hp => refuses (if_pos hp), fun hp => ⟨fun f hf => ?_, fun hvalid => ⟨tcommit_pending h hp hvalid, fun hr => ?_⟩⟩⟩
  · rw [← optByte_eq]
    exact refuses (doTcommit_invalid hp hf)
  · obtain ⟨t, ht, hposts⟩ := tcommit_done h hp hvalid hr
    exact ⟨t, ht, hposts.raised rfl ten, hposts.answers rfl⟩

/-- Settles O19: with a commit pending the TCANCEL ends it, and with none it is refused. -/
theorem cancelEndsTheCommit : Obligations.CancelEndsTheCommit := by
  intro tag s h ten hk
  refine ⟨fun hp => ?_, fun d hp hd => ?_⟩
  · have hnot : ¬(reserveFor [] s).sched.commitPending = true := Bool.eq_false_iff.1 hp
    exact ready_answer h .tcancel rfl (if_neg hnot) rfl rfl rfl
  · obtain ⟨t, ht, hposts⟩ := tcancel_done h hk hp hd
    exact ⟨t, ht, hposts.raised rfl ten, hposts.answers rfl⟩

end Sys2Proof.Machine
end

section
/-! Windows open and close: the window-start events of the four roles, and the end of a SEND, OPEN or QUIET window (O47, O48,
O49). -/
namespace Sys2Proof.Machine

section
variable {s : State} {e : Entry} {position : Nat}

/-- A window-start event that comes: time passes to the entry's start, and the role opens its window there (R56). -/
theorem windowStart_opens {role : EntryRole} (start : Nat → Entry → State → State) (h : opens s role position = some e) :
    windowStart role start position s = start position e (passTo e.start s) := by
  rw [windowStart, h]

/-! ### EXPECT and QUIET windows, and window ends (R59 to R63) -/

/-- The end of a window that is not EXPECT, with its launch over, abandons it at its end offset. -/
theorem closeWindow_ends {w : Window} (hw : s.sched.window = some w) (hrole : w.role.isExpect = false)
    (hlaunch : s.launch = none) (hreach : reaches s w.ends = true) :
    closeWindow s = abandonWindow (passTo w.ends s) := by
  simp [closeWindow, hw, hrole, hlaunch, hreach]

end

/-- Settles O48: each window start opens the window for its listeners, and the window end discards it. -/
theorem quietAndExpectWindowsOpen : Obligations.QuietAndExpectWindowsOpen := by
  intro s hsettled _ _
  have settles {t : State} (hn : t.notif = s.notif) (hl : t.link = s.link) (hr : t.resetting = s.resetting) :
      finish t = .next t := finish_of_settled hsettled hn hl hr
  refine ⟨fun position e h => ?_, fun position e h => ?_, fun w hw hrole hlaunch hreach => ?_⟩
  · have hstart : exec (.expectWindowStart position) s = finish (openExpect position e (passTo e.start s)) :=
      congrArg finish (windowStart_opens openExpect h)
    exact hstart.trans (settles rfl rfl rfl)
  · have hstart : exec (.quietWindowStart position) s = finish (openQuiet position e (passTo e.start s)) :=
      congrArg finish (windowStart_opens openQuiet h)
    exact hstart.trans (settles rfl rfl rfl)
  · have hend : exec .windowEnd s = finish (abandonWindow (passTo w.ends s)) :=
      congrArg finish (closeWindow_ends hw hrole hlaunch hreach)
    exact hend.trans (settles rfl rfl rfl)

/-! ### OPEN windows (R62, R113) -/

section
variable {eligible : SporadicEntry → Bool} {entries : List SporadicEntry}

/-- No entry is chosen exactly when none is eligible. -/
theorem chooseSporadic_none : chooseSporadic eligible entries = none ↔ ∀ x ∈ entries, eligible x = false := by
  induction entries with
  | nil => simp [chooseSporadic]
  | cons f fs ih =>
    rw [List.forall_mem_cons, ← ih, chooseSporadic]
    cases chooseSporadic eligible fs with
    | none => cases hf : eligible f <;> simp
    | some g => by_cases hf : (eligible f && decide (g.priority ≤ f.priority)) = true <;> simp [hf]

/-- The entry chosen is of the highest priority among the eligible, and the first of those in the queue (R113). -/
theorem chooseSporadic_split {x : SporadicEntry} (hx : chooseSporadic eligible entries = some x) :
    ∃ before after, entries = before ++ x :: after ∧
      (∀ z ∈ before, eligible z = true → z.priority < x.priority) ∧
      (∀ z ∈ after, eligible z = true → z.priority ≤ x.priority) := by
  induction entries generalizing x with
  | nil => cases hx
  | cons f fs ih =>
    rw [chooseSporadic] at hx
    cases hrest : chooseSporadic eligible fs with
    | none =>
      have hothers := chooseSporadic_none.1 hrest
      simp only [hrest] at hx
      split at hx
      · obtain rfl := Option.some.inj hx
        exact ⟨[], fs, rfl, by simp, fun z hz hel => by simp [hothers z hz] at hel⟩
      · cases hx
    | some g =>
      obtain ⟨before, after, rfl, hbefore, hafter⟩ := ih hrest
      simp only [hrest] at hx
      split at hx
      next hf =>
        obtain rfl := Option.some.inj hx
        have hprio : g.priority ≤ f.priority := by simp_all
        refine ⟨[], _, rfl, by simp, fun z hz hel => ?_⟩
        rcases List.mem_append.1 hz with hz | hz
        · exact (hbefore z hz hel).le.trans hprio
        · rcases List.mem_cons.1 hz with rfl | hz
          · exact hprio
          · exact (hafter z hz hel).trans hprio
      next hf =>
        obtain rfl := Option.some.inj hx
        refine ⟨f :: before, after, rfl, fun z hz hel => ?_, hafter⟩
        rcases List.mem_cons.1 hz with rfl | hz
        · simpa [hel] using hf
        · exact hbefore z hz hel

end

/-- A buffer of kind SPORADIC has a sporadic status, with its sequence count (R67). -/
theorem status_of_isSporadic {b : Buffer} (h : b.isSporadic = true) : ∃ q, b.status = .sporadic q := by
  unfold Buffer.isSporadic BufferStatus.kindCode at h
  cases hb : b.status <;> simp_all

/-- A launch of a SPORADIC buffer moves its sequence count (R74). -/
theorem sporadicLaunch_of_status {b : Buffer} {q : BitVec 4} (h : b.status = .sporadic q) :
    b.sporadicLaunch = (q + 1, ⟨b.words, .sporadic (q + 1)⟩) := by
  simp [Buffer.sporadicLaunch, h]

section
variable {s : State} {e : Entry} {position : Nat}

theorem openOpen_acquire (h : s.tb.sync = .acquire) :
    openOpen position e s = openWindow position e (.openSlot LaneSet.none .notLaunched) s := if_pos h

theorem openOpen_silent (h : s.tb.sync ≠ .acquire) (hx : selectSporadic s e = none) :
    openOpen position e s = openWindow position e (.openSlot (e.lanes.inter (activeLanes s)) .notLaunched) s := by
  rw [openOpen, if_neg h, hx]

theorem openOpen_launch {x : SporadicEntry} (h : s.tb.sync ≠ .acquire) (hx : selectSporadic s e = some x) :
    openOpen position e s = launchSporadic position e x s := by
  rw [openOpen, if_neg h, hx]

/-- The launch of a chosen entry, with the sequence count that its buffer held (R74, R113). -/
theorem launchSporadic_of_status {x : SporadicEntry} {q : BitVec 4} (hq : (bufferAt s x.buffer).status = .sporadic q) :
    let u := (x.lanes.inter e.lanes).inter (activeLanes s)
    launchSporadic position e x s = { s with
      sched := { s.sched with window := some ⟨position, e, s.tb.cycle, .openSlot u .inProgress⟩ }
      spor := s.spor.putOnAir x.ticket
      bufs := s.bufs.set x.buffer ⟨(bufferAt s x.buffer).words, .sporadic (q + 1)⟩
      rx := windowReceivers { s with rx := s.rx.on u (Receiver.abandon s.now) }
      launch := some ⟨.sporadic, u, LaneSet.none, e.start, s.tb.cycle,
        header1 kindData s.cfg.nodeId (bufferAt s x.buffer).words.length, header2 e.slot s.tb.cycle (q + 1),
        (bufferAt s x.buffer).words⟩ } := by
  simp only [launchSporadic, sporadicLaunch, sporadicLaunch_of_status hq]
  rfl

end

/-- Settles O49: the OPEN window is silent without an eligible entry, and else launches the entry chosen. -/
theorem openWindowLaunches : Obligations.OpenWindowLaunches := by
  intro position e s h hsettled _ _ p
  have starts : exec (.openWindowStart position) s = finish (openOpen position e p) :=
    congrArg finish (windowStart_opens openOpen h)
  have settles {t : State} (hn : t.notif = s.notif) (hl : t.link = s.link) (hr : t.resetting = s.resetting) :
      finish t = .next t := finish_of_settled hsettled hn hl hr
  refine ⟨fun hsync => ?_, fun hsync hnone => ?_, fun y hy hsync hel hsound _ => ?_⟩
  · rw [starts, openOpen_acquire (s := p) hsync]
    exact settles rfl rfl rfl
  · have hchosen : selectSporadic p e = none := chooseSporadic_none.2 hnone
    rw [starts, openOpen_silent (s := p) hsync hchosen]
    exact settles rfl rfl rfl
  · cases hchosen : selectSporadic s e with
    | none =>
      have hnot := chooseSporadic_none.1 hchosen y hy
      rw [hel] at hnot
      cases hnot
    | some x =>
      obtain ⟨hmem, helx⟩ := chooseSporadic_some hchosen
      obtain ⟨before, after, hsplit, hbefore, hafter⟩ := chooseSporadic_split hchosen
      obtain ⟨-, -, hentries, -, -⟩ := hsound
      obtain ⟨-, -, hkind, -⟩ := hentries x hmem
      obtain ⟨q, hq⟩ := status_of_isSporadic hkind
      refine ⟨before, x, after, q, hsplit, helx, hbefore, hafter, hq, ?_⟩
      have hpassed : selectSporadic p e = some x := hchosen
      have hlaunched := launchSporadic_of_status (s := p) (position := position) (e := e) hq
      rw [openOpen_launch (s := p) hsync hpassed, hlaunched] at starts
      exact starts.trans (settles rfl rfl rfl)

/-! ### SEND windows (R58, R71) -/

section
variable {s : State} {e : Entry} {position n k : Nat} {f : Freshness} {q : Policy} {c : BitVec 4} {count : Nat} {b : Buffer}

/-- A launch of a SEND buffer with this freshness and policy is DATA, and not NULL (R71). -/
abbrev CarriesData (f : Freshness) (q : Policy) : Prop := f = .fresh ∨ (f = .stale ∧ q = .repeat)

/-- The snapshot of a SEND buffer, field by field. -/
def sendSnapshot (b : Buffer) (k : Nat) (f : Freshness) (q : Policy) (c : BitVec 4) (count : Nat) : Snapshot where
  data := CarriesData f q
  payload := if CarriesData f q then b.words.take k else []
  sequence := if CarriesData f q then c + 1 else c
  stale := f = .stale ∧ q = .once
  after := ⟨b.words,
    .send (if f = .empty then .empty else .stale) q (if CarriesData f q then c + 1 else c) (min 255 (count + 1))⟩

theorem snapshot_of_status (h : b.status = .send f q c count) : b.snapshot k = some (sendSnapshot b k f q c count) := by
  rw [Buffer.snapshot, h]
  cases f with
  | empty => rfl
  | fresh => rfl
  | stale => cases q <;> rfl

theorem entrySnapshot_of_status (hn : e.buffer = some n) (hk : e.maxWords = some k)
    (hb : (bufferAt s n).status = .send f q c count) :
    entrySnapshot e s = some (n, sendSnapshot (bufferAt s n) k f q c count) := by
  have hsnapshot := snapshot_of_status (k := k) hb
  simp [entrySnapshot, hn, hk, hsnapshot]

theorem openSend_acquire (h : s.tb.sync = .acquire) :
    openSend position e s = openWindow position e (.send LaneSet.none .notLaunched) s := if_pos h

theorem openSend_suppressed (h : s.tb.sync ≠ .acquire) (hu : (e.lanes.inter (activeLanes s)).isEmpty = true) :
    openSend position e s = suppressSend position e (openWindow position e (.send LaneSet.none .notLaunched) s) := by
  rw [openSend, if_neg h, if_pos hu]

theorem openSend_launch {x : Snapshot} (h : s.tb.sync ≠ .acquire) (hu : (e.lanes.inter (activeLanes s)).isEmpty = false)
    (hx : entrySnapshot e s = some (n, x)) :
    openSend position e s = launchSend position e (e.lanes.inter (activeLanes s)) n x s := by
  rw [openSend, if_neg h, if_neg (Bool.eq_false_iff.1 hu), hx]

/-- A suppressed send raises SEND_SUPPRESSED, and files its record when logged (R58, R64). -/
theorem suppressSend_posts (position : Nat) (e : Entry) (x : State) :
    let r := plainRecord .suppressed ⟨position, e, x.tb.cycle, .send LaneSet.none .notLaunched⟩ ⟨.notUsed, .notUsed⟩
      (e.lanes.code, 0)
    Posts [] (⟨.sendSuppressed, x.tb.cycle, ⟨byte position, byte e.slot, cycleByte x.tb.cycle, e.lanes.code⟩⟩ ::
        (if e.log then x.recs.filingNotices x.tb.cycle r else []))
      { x with recs := if e.log then x.recs.filed r else x.recs } (suppressSend position e x) :=
  (logRecord_does e.log _).after ((Posts.refl x).raise .sendSuppressed _)

/-- The launch has begun and its window is open, before SEND_STALE. -/
def sendLaunched (position : Nat) (e : Entry) (usable : LaneSet) (n : Nat) (x : Snapshot) (s : State) : State :=
  openWindow position e (.send usable .inProgress) (beginLaunch (sendLaunch e usable x s) (setBuffer n x.after s))

/-- A launch raises SEND_STALE for a STALE buffer with ONCE, and nothing else (R83). -/
theorem launchSend_posts (position : Nat) (e : Entry) (usable : LaneSet) (n : Nat) (x : Snapshot) (s : State) :
    Posts [] (if x.stale then [⟨.sendStale, s.tb.cycle, ⟨byte n, byte position, byte e.slot, cycleByte s.tb.cycle⟩⟩] else [])
      (sendLaunched position e usable n x s) (launchSend position e usable n x s) := by
  have hlaunch : launchSend position e usable n x s =
      if x.stale then raise .sendStale ⟨byte n, byte position, byte e.slot, cycleByte s.tb.cycle⟩
        (sendLaunched position e usable n x s) else sendLaunched position e usable n x s := rfl
  rw [hlaunch]
  split
  · exact (Posts.refl _).raise .sendStale _
  · exact Posts.refl _

end

/-- Settles O47: the SEND window is withheld, suppressed, or launches the snapshot of its buffer. -/
theorem sendWindowLaunches : Obligations.SendWindowLaunches := by
  intro position e s h _ hintake ten p u
  have starts : exec (.sendWindowStart position) s = finish (openSend position e p) :=
    congrArg finish (windowStart_opens openSend h)
  refine ⟨fun hsync => ?_, fun hsync hu => ?_, fun n k f q c count hsync hu hn _ hk hb => ?_⟩
  · rw [openSend_acquire (s := p) hsync] at starts
    exact effect_of_posts starts (Posts.refl _) hintake rfl ten
  · rw [openSend_suppressed (s := p) hsync hu] at starts
    exact effect_of_posts starts (suppressSend_posts _ _ _) hintake rfl ten
  · have hsnapshot := entrySnapshot_of_status (s := p) hn hk hb
    rw [openSend_launch (s := p) hsync hu hsnapshot] at starts
    have hposts := launchSend_posts position e u n (sendSnapshot (bufferAt s n) k f q c count) p
    simp only [sendSnapshot, sendLaunched, sendLaunch, decide_eq_true_eq] at hposts
    exact effect_of_posts starts hposts hintake rfl ten

end Sys2Proof.Machine
end

section
/-! The buffers and the sporadic queue as one invariant: what it depends on, and the operations that leave it alone. -/
namespace Sys2Proof.Machine

/-! ### The part of the state that the pool's soundness speaks of -/

/-- The buffers, and the sporadic queue but for the mark of the entry on the air. -/
structure Pool where
  bufs : List Buffer
  queue : SporadicQueue

/-- The pool of a state. -/
def State.pool (s : State) : Pool := { bufs := s.bufs, queue := s.spor.requeue }

/-- A state with this pool. -/
def Pool.state (p : Pool) : State := { State.held with bufs := p.bufs, spor := p.queue }

/-- The buffers and the sporadic queue are sound (R65, R108). -/
structure PoolSound (s : State) : Prop where
  buffers : BuffersSound s
  posts : SporadicSound s

section
variable {s t : State}

theorem PoolSound.of_inv (h : Inv s) : PoolSound s := ⟨h.buffers, h.sporadic⟩

/-- No test of the queue's soundness looks at the mark of the entry on the air. -/
theorem poolSound_iff (s : State) : PoolSound s ↔ PoolSound s.pool.state := by
  have hb (n : Nat) : bufferAt s.pool.state n = bufferAt s n := rfl
  have hspor : s.pool.state.spor = s.spor.requeue := rfl
  have hq : SporadicSound s.pool.state ↔ SporadicSound s := by
    simp [SporadicSound, SporadicEntrySound, hb, hspor, SporadicQueue.requeue, Function.comp_def]
  exact ⟨fun h => ⟨h.buffers, hq.2 h.posts⟩, fun h => ⟨h.buffers, hq.1 h.posts⟩⟩

theorem PoolSound.of_pool (h : PoolSound s) (hp : t.pool = s.pool) : PoolSound t := by
  rw [poolSound_iff, hp]
  exact (poolSound_iff s).1 h

/-- What is posted to the host does not touch the pool. -/
theorem Posts.pool_eq {responses : List OutFrame} {notices : List Notice} (h : Posts responses notices s t) :
    t.pool = s.pool := by
  obtain ⟨n, new, r, rfl, -⟩ := h
  rfl

theorem Does.pool_eq {op f : State → State} {resp : State → List OutFrame} {said : State → List Notice}
    (d : Does op f resp said) (s : State) : (op s).pool = (f s).pool := (d.posts s).pool_eq

theorem LinkOnly.pool_eq (h : LinkOnly s t) : t.pool = s.pool := by
  rw [h]
  rfl

/-! ### Operations that leave it alone -/

variable (s)

@[simp] theorem setTimebase_pool (tb : Timebase) : (setTimebase tb s).pool = s.pool := rfl

@[simp] theorem raise_pool (e : Event) (d : Detail) : (raise e d s).pool = s.pool := (raise_linkOnly s e d).pool_eq

@[simp] theorem fileRecord_pool (r : Record) : (fileRecord r s).pool = s.pool := (fileRecord_does r).pool_eq s

@[simp] theorem insertRecord_pool (r : Record) : (insertRecord r s).pool = s.pool := by
  unfold insertRecord
  dsimp only
  split
  · exact raise_pool _ _ _
  · rfl

@[simp] theorem raiseSyncChanged_pool (old : Sync) : (raiseSyncChanged old s).pool = s.pool := raise_pool _ _ _

@[simp] theorem changeSync_pool (new : Sync) : (changeSync new s).pool = s.pool := (changeSync_does new).pool_eq s

@[simp] theorem answerDeferred_pool (kind : DeferredKind) (r : Result) : (answerDeferred kind r s).pool = s.pool :=
  (answerDeferred_does kind r).pool_eq s

@[simp] theorem settleCommit_pool (cause : CommitCause) : (settleCommit cause s).pool = s.pool := by
  rw [(settleCommit_does cause).pool_eq, committed_eq]
  rfl

/-- A cut launch puts its entry back in the queue, in its place (R116). -/
@[simp] theorem cutLaunch_pool (lanes : LaneSet) : (cutLaunch lanes s).pool = s.pool := by
  have hrequeue : s.spor.requeue.requeue = s.spor.requeue := by
    simp [SporadicQueue.requeue, Function.comp_def]
  rcases cutLaunch_cases lanes s with ⟨-, h⟩ | ⟨x, -, ⟨-, h⟩ | ⟨-, h⟩⟩
  · rw [h]
  · rw [h]
    rfl
  · rw [h]
    by_cases hk : x.kind = .sporadic
    · rw [if_pos hk]
      exact congrArg (Pool.mk s.bufs) hrequeue
    · rw [if_neg hk]
      rfl

/-! #### Lanes -/

@[simp] theorem laneLeaves_pool (l : Lane) : (laneLeaves l s).pool = s.pool := cutLaunch_pool s _

@[simp] theorem gradeOutcome_pool (l : Lane) (o : Outcome) (proved : Bool) (position : Option Nat) (cycle : BitVec 6) :
    (gradeOutcome l o proved position cycle s).pool = s.pool := by
  rw [(gradeOutcome_does l o proved position cycle).pool_eq]
  unfold graded
  split
  · exact laneLeaves_pool s l
  · rfl

@[simp] theorem gradeBeacon_pool (l : Lane) (o : Outcome) : (gradeBeacon l o s).pool = s.pool := gradeOutcome_pool _ _ _ _ _ _

theorem echoed_pool (l : Lane) (o : Outcome) : (echoed l o s).pool = s.pool := by
  unfold echoed
  split
  · exact laneLeaves_pool s l
  · rfl

@[simp] theorem gradeEchoes_pool (k : LaunchKind) (position : Option Nat) (cycle : BitVec 6) (o : PerLane Outcome) :
    (gradeEchoes k position cycle o s).pool = s.pool :=
  ((gradeEchoes_does k position cycle o).pool_eq s).trans ((echoed_pool _ .B o.b).trans (echoed_pool s .A o.a))

@[simp] theorem enterProbation_pool (l : Lane) (cause : LaneCause) : (enterProbation l cause s).pool = s.pool :=
  (enterProbation_does l cause).pool_eq s

@[simp] theorem promoteLane_pool (l : Lane) : (promoteLane l s).pool = s.pool := (promoteLane_does l).pool_eq s

@[simp] theorem laneCycleStart_pool (l : Lane) : (laneCycleStart l s).pool = s.pool := by
  rw [(laneCycleStart_does l).pool_eq, lived_eq]
  rfl

/-! #### The timebase -/

@[simp] theorem launchBeacon_pool (lanes : LaneSet) : (launchBeacon lanes s).pool = s.pool := by
  unfold launchBeacon
  split <;> rfl

@[simp] theorem stopped_pool : (stopped s).pool = s.pool := cutLaunch_pool s _

@[simp] theorem pass_pool (elapsed : Nat) : (pass elapsed s).pool = s.pool := by
  unfold pass
  split <;> rfl

@[simp] theorem correct_pool (e : Int) (number : BitVec 6) (l : Lane) (sender : Nat) :
    (correct e number l sender s).pool = s.pool := by
  unfold correct
  dsimp only
  split
  · rfl
  · exact raise_pool _ _ _

@[simp] theorem fallToListen_pool : (fallToListen s).pool = s.pool :=
  calc (fallToListen s).pool
    _ = (stopped s).pool := (settleCommit_pool _ _).trans (raiseSyncChanged_pool _ _)
    _ = s.pool := stopped_pool s

theorem missedBeacon_pool : (missedBeacon s).pool = s.pool := by
  have hmissed (tb : Timebase) : (raiseBeaconMissed (setTimebase tb s)).pool = s.pool := raise_pool _ _ _
  unfold missedBeacon
  split
  · exact fallToListen_pool s
  · exact (raiseSyncChanged_pool _ _).trans (hmissed _)
  · dsimp only
    split
    · exact (fallToListen_pool _).trans (hmissed _)
    · exact hmissed _
  · rfl
  · rfl

theorem meetDeadline_pool : (meetDeadline s).pool = s.pool := by
  unfold meetDeadline
  dsimp only
  split
  · rfl
  · exact missedBeacon_pool _

theorem expireListen_pool (moment : Nat) : (expireListen moment s).pool = s.pool :=
  ((answerDeferred_pool _ _ _).trans (launchBeacon_pool _ _)).trans (changeSync_pool _ _)

theorem startPart_pool : (startPart s).pool = s.pool := by
  unfold startPart
  dsimp only
  split
  · exact changeSync_pool _ _
  · exact changeSync_pool _ _

theorem stopPart_pool : (stopPart s).pool = s.pool :=
  calc (stopPart s).pool
    _ = (stopped s).pool := ((answerDeferred_pool _ _ _).trans (settleCommit_pool _ _)).trans (raiseSyncChanged_pool _ _)
    _ = s.pool := stopped_pool s

theorem endPulse_pool (m : Nat) : (endPulse m s).pool = s.pool := by
  unfold endPulse
  dsimp only
  split_ifs <;> rfl

theorem microtick_pool : (microtick s).pool = s.pool := by
  unfold microtick
  split_ifs <;> rfl

/-! #### Windows and launches -/

theorem suppressSend_pool (position : Nat) (e : Entry) : (suppressSend position e s).pool = s.pool := by
  unfold suppressSend
  dsimp only
  split
  · exact (fileRecord_pool _ _).trans (raise_pool _ _ _)
  · exact raise_pool _ _ _

theorem logRecord_pool (logged : Bool) (r : Record) : (if logged then fileRecord r s else s).pool = s.pool :=
  (logRecord_does logged r).pool_eq s

theorem carrierStart_pool (l : Lane) (offset : Nat) : (carrierStart l offset s).pool = s.pool := by
  unfold carrierStart
  split
  next w _ =>
    split
    · exact (breachAt_posts w l offset (passTo offset s)).pool_eq
    · rfl
  next => rfl

theorem closeWindow_pool : (closeWindow s).pool = s.pool := by
  unfold closeWindow
  split
  · split <;> rfl
  · rfl

theorem endSend_pool (x : Launch) (a b : Echo) : (endSend x a b s).pool = s.pool := by
  have hgraded (position : Option Nat) (o : PerLane Outcome) :
      (gradeEchoes .send position x.cycle o (endLaunch x s)).pool = s.pool := gradeEchoes_pool _ _ _ _ _
  unfold endSend
  dsimp only
  split
  · split
    · exact (fileRecord_pool _ _).trans (hgraded _ _)
    · exact hgraded _ _
  · exact hgraded _ _

theorem endBeacon_pool (x : Launch) (a b : Echo) : (endBeacon x a b s).pool = s.pool := gradeEchoes_pool _ _ _ _ _

end

end Sys2Proof.Machine
end

section
/-! Buffers stay sound through writes, reads, launches, receptions and ageing (Chapter 4), and the sporadic queue through
posts, removals and cycle-start events (Chapter 6). -/
namespace Sys2Proof.Machine

/-! ### One buffer (R65 to R80) -/

section
variable {b : Buffer}

theorem BufferSound.setup (kind : Nat) (policy : Policy) : BufferSound ⟨[], BufferStatus.setup kind policy⟩ := by
  unfold BufferStatus.setup
  split_ifs <;> simp [BufferSound, RxStatus.setup]

theorem BufferSound.aged (h : BufferSound b) : BufferSound b.aged := by
  unfold Buffer.aged
  split
  next r hr =>
    obtain ⟨hw, hs⟩ := h
    rw [hr] at hs
    exact ⟨hw, Nat.min_le_left .., hs.2⟩
  next => exact h

theorem BufferSound.heardNull (h : BufferSound b) (cycle : BitVec 6) : BufferSound (b.heardNull cycle) := by
  unfold Buffer.heardNull
  split
  next r hr =>
    obtain ⟨hw, hs⟩ := h
    rw [hr] at hs
    exact ⟨hw, hs⟩
  next => exact h

theorem BufferSound.markRead (h : BufferSound b) : BufferSound b.markRead := by
  unfold Buffer.markRead
  split
  next r hr =>
    split
    next hn =>
      obtain ⟨hw, hs⟩ := h
      rw [hr] at hs
      obtain ⟨hage, -, hfilled⟩ := hs
      exact ⟨hw, hage, nofun, fun _ => hfilled (by rw [hn]; exact nofun)⟩
    next => exact h
  next => exact h

theorem BufferSound.store (h : BufferSound b) {r : Reception} (hw : r.words.length ≤ 32) (hl : r.lanes.isEmpty = false) :
    BufferSound (b.store r) := by
  unfold Buffer.store
  split
  next => exact ⟨hw, Nat.zero_le _, nofun, fun _ => ⟨rfl, rfl, hl⟩⟩
  next => exact h

/-- A BWRITE reaches SEND and SPORADIC buffers alone (R70). -/
theorem BufferSound.write {ws : List Word} (hw : ws.length ≤ 32) (hk : (b.isSend || b.isSporadic) = true) :
    BufferSound (b.write ws) := by
  unfold Buffer.isSend Buffer.isSporadic at hk
  unfold Buffer.write
  cases hs : b.status with
  | send => exact ⟨hw, Nat.zero_le _⟩
  | sporadic => exact ⟨hw, trivial⟩
  | unused | receive => simp [hs, BufferStatus.kindCode] at hk

theorem BufferSound.snapshot (h : BufferSound b) {k : Nat} {x : Snapshot} (hx : b.snapshot k = some x) :
    BufferSound x.after := by
  have hcount (count : Nat) : min 255 (count + 1) ≤ 255 := Nat.min_le_left ..
  unfold Buffer.snapshot at hx
  split at hx
  next =>
    dsimp only at hx
    split at hx <;> obtain rfl := Option.some.inj hx <;> exact ⟨h.1, hcount _⟩
  next => cases hx

theorem BufferSound.sporadicLaunch (h : BufferSound b) : BufferSound b.sporadicLaunch.2 := by
  unfold Buffer.sporadicLaunch
  split
  · exact ⟨h.1, trivial⟩
  · exact h

end

/-! ### The pool (R65, R66) -/

section
variable {s t : State}

theorem bufferSound_at (h : BuffersSound s) (n : Nat) : BufferSound (bufferAt s n) := by
  unfold bufferAt
  cases hn : s.bufs[n]? with
  | none => exact ⟨Nat.zero_le _, rfl⟩
  | some b => exact h.2 b (List.mem_of_getElem? hn)

theorem BuffersSound.set (h : BuffersSound s) (n : Nat) {b : Buffer} (hb : BufferSound b) : BuffersSound (setBuffer n b s) := by
  refine ⟨List.length_set.trans h.1, fun x hx => ?_⟩
  rcases List.mem_or_eq_of_mem_set hx with hx | rfl
  · exact h.2 x hx
  · exact hb

/-- Buffers take new values of their kinds: the entries of the sporadic queue hold SPORADIC buffers as before. -/
theorem PoolSound.refilled (h : PoolSound s) (hb : BuffersSound t) (hk : kinds t.bufs = kinds s.bufs) (hq : t.spor = s.spor) :
    PoolSound t := by
  obtain ⟨hlength, hcounter, hentries, htickets, hbuffers⟩ := h.posts
  have hkind (n : Nat) : (bufferAt t n).isSporadic = (bufferAt s n).isSporadic := by
    unfold Buffer.isSporadic bufferAt
    rw [kindCode_getD, kindCode_getD, hk]
  refine ⟨hb, hq ▸ hlength, hq ▸ hcounter, fun e he => ?_, hq ▸ htickets, hq ▸ hbuffers⟩
  obtain ⟨ht, hn, hs, hrest⟩ := hentries e (hq ▸ he)
  exact ⟨ht, hn, (hkind _).trans hs, hrest⟩

theorem PoolSound.refill (h : PoolSound s) {n : Nat} {b : Buffer} (hb : BufferSound b)
    (hk : b.status.kindCode = (bufferAt s n).status.kindCode) : PoolSound (setBuffer n b s) :=
  h.refilled (h.buffers.set n hb) (kinds_set hk) rfl

/-- A buffer that no entry holds takes another kind (R66, R67). -/
theorem PoolSound.setup (h : PoolSound s) {n : Nat} {b : Buffer} (hb : BufferSound b) (hn : isHeld s n = false) :
    PoolSound (setBuffer n b s) := by
  obtain ⟨hlength, hcounter, hentries, htickets, hbuffers⟩ := h.posts
  refine ⟨h.buffers.set n hb, hlength, hcounter, fun e he => ?_, htickets, hbuffers⟩
  have hne : n ≠ e.buffer := fun hx => by
    have := List.any_eq_false.1 hn e he
    exact this (beq_iff_eq.2 hx.symm)
  have hsame : bufferAt (setBuffer n b s) e.buffer = bufferAt s e.buffer :=
    congrArg (Option.getD · Buffer.unused) (List.getElem?_set_ne hne)
  have := hentries e he
  unfold SporadicEntrySound at this ⊢
  rw [hsame]
  exact this

theorem PoolSound.ageBuffers (h : PoolSound s) : PoolSound (ageBuffers s) := by
  refine h.refilled ⟨(List.length_map _).trans h.buffers.1, fun b hb => ?_⟩ (congrArg Tables.kinds (ageBuffers_same s).1) rfl
  obtain ⟨x, hx, rfl⟩ := List.mem_map.1 hb
  exact (h.buffers.2 x hx).aged

/-! ### The sporadic queue (R108 to R119) -/

/-- Entries leave the queue and the others close up. -/
theorem PoolSound.withoutEntries (h : PoolSound s) (p : SporadicEntry → Bool) :
    PoolSound { s with spor := { s.spor with entries := s.spor.entries.filter p } } := by
  obtain ⟨hlength, hcounter, hentries, htickets, hbuffers⟩ := h.posts
  exact ⟨h.buffers, (List.length_filter_le _ _).trans hlength, hcounter, fun e he => hentries e (List.mem_of_mem_filter he),
    htickets.sublist (List.filter_sublist.map _), hbuffers.sublist (List.filter_sublist.map _)⟩

theorem PoolSound.removeTicket (h : PoolSound s) (ticket : Nat) : PoolSound (removeTicket ticket s) := h.withoutEntries _

theorem PoolSound.expireDue (h : PoolSound s) : PoolSound (expireDue s) := by
  obtain ⟨-, -, -, htickets, -⟩ := h.posts
  refine PoolSound.of_pool ?_ (expireDue_posts htickets).pool_eq
  exact (h.withoutEntries fun e => e.onAir || e.life != 0).of_pool rfl

theorem older_buffers (s : State) :
    (older s).spor.entries.map SporadicEntry.buffer = s.spor.entries.map SporadicEntry.buffer := by
  simp only [older, SporadicQueue.older, List.map_map]
  refine List.map_congr_left fun e _ => ?_
  simp only [Function.comp_apply]
  split <;> rfl

/-- The lives of the QUEUED entries are shorter by 1, and those whose life has run out leave (R118). -/
theorem PoolSound.sporadicCycleStart (h : PoolSound s) : PoolSound (sporadicCycleStart s) := by
  obtain ⟨hlength, hcounter, hentries, htickets, hbuffers⟩ := h.posts
  refine PoolSound.of_pool (s := expiredDue (older s)) ?_ (sporadicCycleStart_posts (.refl s) htickets).pool_eq
  have hsub : (expiredDue (older s)).spor.entries.Sublist (older s).spor.entries := List.filter_sublist
  refine ⟨h.buffers, hsub.length_le.trans ((List.length_map _).trans_le hlength), hcounter, fun e he => ?_,
    (older_tickets s ▸ htickets).sublist (hsub.map _), (older_buffers s ▸ hbuffers).sublist (hsub.map _)⟩
  obtain ⟨hmem, hleft⟩ := List.mem_filter.1 he
  obtain ⟨x, hx, rfl⟩ := List.mem_map.1 hmem
  obtain ⟨hticket, hbuffer, hkind, hlanes, hpriority, hslot, hlife⟩ := hentries x hx
  by_cases hair : x.onAir = true
  · rw [if_pos hair]
    exact ⟨hticket, hbuffer, hkind, hlanes, hpriority, hslot, hlife⟩
  · rw [if_neg hair] at hleft ⊢
    have hpositive : x.life - 1 ≠ 0 := by simpa [hair] using hleft
    exact ⟨hticket, hbuffer, hkind, hlanes, hpriority, hslot, Nat.one_le_iff_ne_zero.2 hpositive,
      (Nat.sub_le _ _).trans hlife.2⟩

theorem freeTicket_range (entries : List SporadicEntry) (passes : Nat) {c : Nat} (hc : 1 ≤ c ∧ c ≤ 65535) :
    1 ≤ freeTicket entries passes c ∧ freeTicket entries passes c ≤ 65535 := by
  induction passes generalizing c with
  | zero => exact hc
  | succ passes ih =>
    unfold freeTicket
    split
    · exact ih (nextTicket_range c)
    · exact hc

/-- A sound entry is queued with the next free ticket, and no entry holds its buffer yet (R110, R111). -/
theorem PoolSound.post (h : PoolSound s) {e : SporadicEntry} (hl : s.spor.entries.length < 16)
    (ht : e.ticket = s.spor.newTicket) (hn : isHeld s e.buffer = false)
    (he : SporadicEntrySound { s with spor := s.spor.post e } e) : PoolSound { s with spor := s.spor.post e } := by
  obtain ⟨-, -, hentries, htickets, hbuffers⟩ := h.posts
  have hfresh : e.ticket ∉ s.spor.entries.map SporadicEntry.ticket := ht ▸ newTicket_fresh hl
  have hfree : e.buffer ∉ s.spor.entries.map SporadicEntry.buffer := fun hmem => by
    obtain ⟨x, hx, hb⟩ := List.mem_map.1 hmem
    exact List.any_eq_false.1 hn x hx (beq_iff_eq.2 hb)
  have happend {f : SporadicEntry → Nat} (hnodup : (s.spor.entries.map f).Nodup) (hnew : f e ∉ s.spor.entries.map f) :
      ((s.spor.post e).entries.map f).Nodup := by
    rw [SporadicQueue.post, List.map_append, List.map_singleton, ← List.concat_eq_append]
    exact hnodup.concat hnew
  refine ⟨h.buffers, by simp [SporadicQueue.post]; omega, he.1.2, fun x hx => ?_, happend htickets hfresh,
    happend hbuffers hfree⟩
  rcases List.mem_append.1 hx with hx | hx
  · exact hentries x hx
  · obtain rfl := List.mem_singleton.1 hx
    exact he

end

end Sys2Proof.Machine
end

section
/-! The handler, the arbiter and the link make two kinds of moves: changes of the link and the notification unit alone, and
requests of their required lengths carried out (R144, R169 to R181). -/
namespace Sys2Proof.Machine

/-- One move: the link or the notification unit alone changes, or a request that passed the length check is carried out. -/
inductive Move : State → State → Prop
  | beside {s t : State} (h : LinkOnly s t) : Move s t
  | request {s : State} {c : Code} {tag : Byte} {p : List Byte} (h : p.length = c.required p) : Move s (carryOut c tag p s)

/-- Any number of moves. -/
abbrev Moves : State → State → Prop := Relation.ReflTransGen Move

theorem LinkOnly.moves {s t : State} (h : LinkOnly s t) : Moves s t := .single (.beside h)

section
variable (s : State)

/-- The refusals of R181 are answers, and what passes them is carried out. -/
theorem takeRequest_moves : Moves s (takeRequest s) := by
  unfold takeRequest
  split
  next => exact .refl
  next r rest _ =>
    have hr : Moves s (reserveFor rest s) := LinkOnly.moves rfl
    unfold checkRequest
    split
    next => exact hr.trans (LinkOnly.moves rfl)
    next =>
      split
      next => exact hr.trans (LinkOnly.moves rfl)
      next =>
        split
        next hlen => exact hr.tail (.request hlen)
        next => exact hr.trans (LinkOnly.moves rfl)

theorem serve_moves : Moves s (serve s) := by
  have hcount : Moves s (countRace s) := LinkOnly.moves rfl
  unfold serve
  split_ifs
  · exact hcount.trans (compose_linkOnly _).moves
  · exact hcount.trans (takeRequest_moves _)
  · exact takeRequest_moves s
  · exact (compose_linkOnly s).moves
  · exact .refl

theorem serveTimes_moves (n : Nat) : Moves s (serveTimes n s) := by
  induction n generalizing s with
  | zero => exact .refl
  | succ n ih => exact (serve_moves s).trans (ih _)

theorem settle_moves : Moves s (settle s) := serveTimes_moves s _

theorem moveFirst_moves : Moves s (moveFirst s) := by
  have hcount : Moves s (countRace s) := LinkOnly.moves rfl
  unfold moveFirst
  split_ifs
  · exact hcount.trans (settle_moves _)
  · exact hcount
  · exact .refl

/-- A byte goes out, a byte comes in, and the parties that wait move before and after it. -/
theorem exchange_moves (b : Byte) : Moves s (exchange b s) := by
  have hsent : Moves s (if sendsFrame s && s.resetting.isNone then moveFirst (clockOut s) else s) := by
    split
    · exact (clockOut_linkOnly s).moves.trans (moveFirst_moves _)
    · exact .refl
  unfold exchange
  dsimp only
  generalize (if sendsFrame s && s.resetting.isNone then moveFirst (clockOut s) else s) = x at hsent
  have hparsed : Moves x (if hears x then parseByte b x else x) := by
    split
    · exact (parseByte_linkOnly x b).moves
    · exact .refl
  exact ((hsent.trans hparsed).trans (settle_moves _)).trans (LinkOnly.moves rfl)

end

end Sys2Proof.Machine
end

section
/-! Windows, launches and the timebase keep the pool sound (Sections 3.5 to 3.9, Chapter 2). -/
namespace Sys2Proof.Machine

/-! ### What a window's end brings to its buffer (R14, R76, R87) -/

section
variable {e : Entry}

/-- A message whose outcome is GOOD carries no more words than its window has room for (R13, R14). -/
theorem judge_good_payload {tol : Nat} {cycle : BitVec 6} {j : Option Judged} (h : judge e tol cycle j = .good) :
    (factsOf .good j).payload.length ≤ e.maxWords.getD 0 := by
  cases j with
  | none => cases h
  | some j =>
    have hlength : j.body.payload.length ≤ j.body.length := List.length_take_le _ _
    unfold judge at h
    dsimp only at h
    split_ifs at h
    split at h
    next => cases h
    next h1 h2 hheader =>
      have hwords : j.body.length = headerLength h1 := by
        unfold Message.header at hheader
        split at hheader
        next hw =>
          obtain ⟨rfl, rfl⟩ := Prod.mk.inj (Option.some.inj hheader)
          rw [Message.length, hw]
        next => cases hheader
      split_ifs at h with hformat
      have hfits : headerLength h1 ≤ e.maxWords.getD 0 := by
        simp only [formatFails, Bool.or_eq_true, decide_eq_true_eq, not_or, Nat.not_lt] at hformat
        exact hformat.1.1.2
      exact hlength.trans (hwords.trans_le hfits)

theorem laneView_good_payload {s : State} {w : Window} {l : Lane} {heard : List Heard}
    (h : (laneView s w l heard).outcome = .good) :
    (laneView s w l heard).facts.payload.length ≤ w.entry.maxWords.getD 0 := by
  by_cases hd : w.delivering.has l = true
  · unfold laneView at h ⊢
    simp only [hd, if_true] at h ⊢
    rw [h]
    exact judge_good_payload h
  · rw [laneView_not_delivering (Bool.eq_false_iff.2 hd)] at h
    cases h

/-- A RECEIVED outcome names its lanes, and its source lane is GOOD (R87). -/
theorem combine_received {first : Lane} {v : PerLane LaneView} (h : (combine first v).kind = .received) :
    (combine first v).good.isEmpty = false ∧
      ∃ l, (combine first v).source = some l ∧ (v.get l).outcome = .good := by
  have hgives {x : LaneView} (hx : x.gives .good = true) : x.outcome = .good := by
    simp only [LaneView.gives, Bool.and_eq_true, beq_iff_eq] at hx
    exact hx.2
  by_cases ha : v.a.gives .good = true
  · by_cases hb : v.b.gives .good = true
    · rw [show combine first v = ⟨.received, LaneSet.both, !sameWords v.a v.b, some first⟩ by simp [combine, ha, hb]]
      refine ⟨rfl, first, rfl, ?_⟩
      cases first with
      | A => exact hgives ha
      | B => exact hgives hb
    · rw [show combine first v = ⟨.received, LaneSet.single .A, v.b.gives .null, some .A⟩ by simp [combine, ha, hb]]
      exact ⟨rfl, .A, rfl, hgives ha⟩
  · by_cases hb : v.b.gives .good = true
    · rw [show combine first v = ⟨.received, LaneSet.single .B, v.a.gives .null, some .B⟩ by simp [combine, ha, hb]]
      exact ⟨rfl, .B, rfl, hgives hb⟩
    · simp only [combine, ha, hb, Bool.and_false, Bool.false_eq_true, if_false] at h
      split_ifs at h

theorem maxWords_le (h : EntrySound e) : e.maxWords.getD 0 ≤ 32 := by
  obtain ⟨-, -, -, -, hrole⟩ := h
  cases hr : e.role with
  | send | expect =>
    rw [hr] at hrole
    obtain ⟨-, -, n, hn, hle⟩ := hrole
    rw [show e.maxWords = some n from hn]
    exact hle
  | openSlot | quiet =>
    rw [hr] at hrole
    rw [hrole.2.2]
    exact Nat.zero_le _

/-- The open window has room for no more words than a buffer. -/
def WindowFits (s : State) : Prop := ∀ w ∈ s.sched.window, w.entry.maxWords.getD 0 ≤ 32

/-- An open window holds an entry of the ACTIVE bank, whose words are in their range (R40, R55). -/
theorem WindowFits.of_inv {s : State} (h : Inv s) : WindowFits s := fun w hw => by
  obtain ⟨hentry, -⟩ := h.window w hw
  have hmem : some w.entry ∈ s.sched.active := List.mem_of_getElem? (entryAt_iff.1 hentry)
  exact maxWords_le (h.active.2 _ hmem _ rfl)

end

/-! ### Windows and launches -/

section
variable {s t : State}

theorem PoolSound.applyToBuffer (h : PoolSound s) (w : Window) {c : Combined} {f : Facts}
    (hc : c.kind = .received → c.good.isEmpty = false ∧ f.payload.length ≤ 32) : PoolSound (applyToBuffer w c f s) := by
  cases hb : w.entry.buffer with
  | none =>
    unfold Machine.applyToBuffer
    rw [hb]
    exact h
  | some n =>
    refine PoolSound.of_pool ?_ ((applyToBuffer_does c f hb).pool_eq s)
    have hat := bufferSound_at h.buffers n
    have hafter : BufferSound ((bufferAt s n).afterWindow w c f) := by
      unfold Buffer.afterWindow
      cases hk : c.kind with
      | received => exact hat.store (hc hk).2 (hc hk).1
      | nullHeard => exact hat.heardNull _
      | missing | faulty => exact hat
    unfold appliedTo poolAfter
    cases c.kind with
    | received | nullHeard => exact h.refill hafter (afterWindow_kind w c f _)
    | missing | faulty => exact h

theorem PoolSound.endExpect (h : PoolSound s) {w : Window} (hw : w.entry.maxWords.getD 0 ≤ 32) (a b : List Heard) :
    PoolSound (endExpect w a b s) := by
  let v := viewsOf s w a b
  have hgood {l : Lane} (hl : (v.get l).outcome = .good) : (v.get l).facts.payload.length ≤ 32 := by
    cases l with
    | A | B => exact (laneView_good_payload hl).trans hw
  unfold Machine.endExpect gradeWindow
  refine PoolSound.of_pool ?_ (((reportAlarm_does _ _ _).pool_eq _).trans (logRecord_pool _ _ _))
  refine PoolSound.applyToBuffer (h.of_pool ?_) w fun hk => ?_
  · refine ((reportDisagree_does _ _).pool_eq _).trans ?_
    exact (gradeOutcome_pool _ _ _ _ _ _).trans (gradeOutcome_pool _ _ _ _ _ _)
  · obtain ⟨hlanes, l, hsource, hl⟩ := combine_received hk
    refine ⟨hlanes, ?_⟩
    unfold sourceFacts
    rw [hsource]
    exact hgood hl

theorem PoolSound.openSend (h : PoolSound s) (position : Nat) (e : Entry) : PoolSound (openSend position e s) := by
  have hopen (role : WindowRole) : PoolSound (openWindow position e role s) := h.of_pool rfl
  unfold Machine.openSend
  dsimp only
  split
  · exact hopen _
  · split
    · exact (hopen _).of_pool (suppressSend_pool _ _ _)
    · split
      next n y hy =>
        obtain ⟨m, -, hsnap⟩ := Option.bind_eq_some_iff.1 hy
        obtain ⟨z, hz, hpair⟩ := Option.map_eq_some_iff.1 hsnap
        obtain ⟨rfl, rfl⟩ := Prod.mk.inj hpair
        refine PoolSound.of_pool (h.refill ((bufferSound_at h.buffers m).snapshot hz) (snapshot_kind hz)) ?_
        unfold launchSend
        dsimp only
        split
        · exact raise_pool _ _ _
        · rfl
      next => exact hopen _

/-- An entry that is put on the air keeps its place. -/
theorem putOnAir_pool (ticket : Nat) (s : State) : { s with spor := s.spor.putOnAir ticket }.pool = s.pool := by
  refine congrArg (Pool.mk s.bufs) ?_
  simp only [SporadicQueue.requeue, SporadicQueue.putOnAir, List.map_map]
  refine congrArg (SporadicQueue.mk · s.spor.counter) (List.map_congr_left fun e _ => ?_)
  simp only [Function.comp_apply]
  split <;> rfl

theorem PoolSound.openOpen (h : PoolSound s) (position : Nat) (e : Entry) : PoolSound (openOpen position e s) := by
  unfold Machine.openOpen
  split
  · exact h.of_pool rfl
  · split
    next y _ =>
      have hair : PoolSound { s with spor := s.spor.putOnAir y.ticket } := h.of_pool (putOnAir_pool _ s)
      have hset := hair.refill (n := y.buffer) ((bufferSound_at h.buffers y.buffer).sporadicLaunch) (sporadicLaunch_kind _)
      exact hset.of_pool rfl
    next => exact h.of_pool rfl

theorem completed_pool (w : Window) (x : Launch) (e : SporadicEntry) (o : PerLane Outcome) (s : State) :
    (completed w x e o s).pool = (removeTicket e.ticket s).pool := rfl

theorem PoolSound.endSporadic (h : PoolSound s) (x : Launch) (a b : Echo) : PoolSound (endSporadic x a b s) := by
  have hgraded (position : Option Nat) (o : PerLane Outcome) :
      PoolSound (gradeEchoes .sporadic position x.cycle o (endLaunch x s)) := h.of_pool (gradeEchoes_pool _ _ _ _ _)
  unfold Machine.endSporadic
  dsimp only
  split
  · refine PoolSound.of_pool ?_ ((completeSporadic_does _ _ _ _).pool_eq _)
    exact ((hgraded _ _).removeTicket _).of_pool (completed_pool _ _ _ _ _)
  · exact hgraded _ _

/-! ### Cycle starts and beacons (R18, R29 to R36) -/

theorem PoolSound.blockReactions (h : PoolSound s) : PoolSound (blockReactions s) :=
  PoolSound.sporadicCycleStart (((h.of_pool (settleCommit_pool s _)).ageBuffers).of_pool
    ((laneCycleStart_pool _ .B).trans (laneCycleStart_pool _ .A)))

theorem PoolSound.cycleStartEvent (h : PoolSound s) (first : Promotions) : PoolSound (cycleStartEvent first s) := by
  have hbegin : PoolSound (beginCycle s) := h.of_pool rfl
  exact hbegin.blockReactions.of_pool (launchBeacon_pool _ _)

theorem PoolSound.hardAlign (h : PoolSound s) (number : BitVec 6) : PoolSound (hardAlign number s) := by
  unfold Machine.hardAlign
  dsimp only
  split
  · exact PoolSound.blockReactions (h.of_pool (stopped_pool s))
  · exact h.of_pool rfl

theorem PoolSound.alignAndAcquire (h : PoolSound s) (number : BitVec 6) : PoolSound (alignAndAcquire number s) :=
  (h.hardAlign number).of_pool (changeSync_pool _ _)

theorem PoolSound.conflictInListen (h : PoolSound s) (l : Lane) (number : BitVec 6) (sender : Nat) :
    PoolSound (conflictInListen l number sender s) := by
  unfold Machine.conflictInListen
  refine PoolSound.of_pool (PoolSound.alignAndAcquire (h.of_pool ?_) number) (answerDeferred_pool _ _ _)
  simp [raiseMasterConflict, demote]

theorem PoolSound.conflictInLocked (h : PoolSound s) (l : Lane) (number : BitVec 6) (sender : Nat) :
    PoolSound (conflictInLocked l number sender s) := by
  refine PoolSound.alignAndAcquire (h.of_pool ?_) number
  simp [raiseMasterConflict, demote]

theorem PoolSound.realignFromHoldover (h : PoolSound s) (number : BitVec 6) : PoolSound (realignFromHoldover number s) := by
  unfold Machine.realignFromHoldover
  refine PoolSound.of_pool (PoolSound.hardAlign (h.of_pool ?_) number) (raiseSyncChanged_pool _ _)
  simp

theorem PoolSound.actOnBeacon (h : PoolSound s) (l : Lane) (stamp : Stamp) (number : BitVec 6) (sender : Nat) :
    PoolSound (actOnBeacon l stamp number sender s) := by
  have hcorrect := h.of_pool (correct_pool s (phaseError s stamp) number l sender)
  unfold Machine.actOnBeacon
  cases s.tb.sync with
  | offline => exact h
  | listen =>
    dsimp only
    split
    · exact h.conflictInListen l number sender
    · exact h.alignAndAcquire number
  | acquire =>
    dsimp only
    split
    · exact hcorrect.of_pool (changeSync_pool _ _)
    · exact h.hardAlign number
  | locked =>
    dsimp only
    split_ifs
    · exact h.conflictInLocked l number sender
    · exact hcorrect
    · exact h.of_pool (raise_pool _ _ _)
  | holdover =>
    dsimp only
    split
    · exact hcorrect.of_pool (changeSync_pool _ _)
    · exact h.realignFromHoldover number

theorem PoolSound.freeMessage (h : PoolSound s) (l : Lane) (stamp : Stamp) (m : Message) :
    PoolSound (freeMessage l stamp m s) := by
  have hgraded (o : Outcome) : PoolSound (gradeBeacon l o s) := h.of_pool (gradeBeacon_pool s l o)
  unfold Machine.freeMessage
  split
  next =>
    unfold takeBeacon
    dsimp only
    split
    · exact hgraded .good
    · exact PoolSound.actOnBeacon ((hgraded .good).of_pool (setTimebase_pool _ _)) l stamp _ _
  next o _ _ => exact hgraded o
  next => exact h

end

end Sys2Proof.Machine
end

section
/-! Requests, and then every command and every step, keep the buffers and the sporadic queue sound (O58). -/
namespace Sys2Proof.Machine

section
variable {s t : State}

/-! ### Requests (R67 to R80, R110 to R119) -/

theorem wordsOf_length : (p : List Byte) → (wordsOf p).length = p.length / 2
  | [] => rfl
  | [_] => by simp [wordsOf]
  | _ :: _ :: rest => by
    rw [wordsOf, List.length_cons, wordsOf_length rest, List.length_cons, List.length_cons]
    omega

theorem PoolSound.doBsetup (h : PoolSound s) (tag : Byte) (p : List Byte) : PoolSound (doBsetup tag p s) := by
  unfold Machine.doBsetup
  dsimp only
  split_ifs with _ _ _ _ hheld
  · exact h.of_pool rfl
  · exact h.of_pool rfl
  · exact h.of_pool rfl
  · exact h.of_pool rfl
  · exact h.of_pool rfl
  · exact (h.setup (.setup _ _) (Bool.eq_false_iff.2 hheld)).of_pool rfl

/-- A BWRITE of its required length carries as many words as it says, and at most 32 are taken (R70, R189). -/
theorem PoolSound.doBwrite (h : PoolSound s) (tag : Byte) {p : List Byte} (hlen : p.length = 2 + 2 * fieldAt p 1) :
    PoolSound (doBwrite tag p s) := by
  unfold Machine.doBwrite
  dsimp only
  split_ifs with _ hcount hkind hheld
  · exact h.of_pool rfl
  · exact h.of_pool rfl
  · exact h.of_pool rfl
  · exact h.of_pool rfl
  · have hwords : (wordsOf (p.drop 2)).length ≤ 32 := by
      rw [wordsOf_length, List.length_drop]
      omega
    rw [Bool.not_eq_true', Bool.not_eq_false] at hkind
    exact (h.refill (.write hwords hkind) (write_kind _ _)).of_pool rfl

theorem PoolSound.doBread (h : PoolSound s) (tag : Byte) (p : List Byte) : PoolSound (doBread tag p s) := by
  unfold Machine.doBread
  dsimp only
  split_ifs
  · exact h.of_pool rfl
  · exact h.of_pool rfl
  · exact h.of_pool rfl
  · exact (h.refill (bufferSound_at h.buffers (fieldAt p 0)).markRead (markRead_kind _)).of_pool rfl

/-- An SPOST that passes its tests carries an entry in its ranges (R109, R111). -/
theorem postedEntry_sound {p : List Byte} (h : postBad p = none) {ticket : Nat} (ht : 1 ≤ ticket ∧ ticket ≤ 65535)
    (hk : (bufferAt s (fieldAt p 0)).isSporadic = true) : SporadicEntrySound s (postedEntry p ticket) := by
  have hall := firstBad_none h
  simp only [List.forall_mem_cons, within, idOrAny, Bool.and_eq_true, Bool.or_eq_true, decide_eq_true_eq] at hall
  obtain ⟨⟨-, hbuffer⟩, hlanes, ⟨-, hpriority⟩, hslot, hlife, -⟩ := hall
  refine ⟨ht, hbuffer, hk, ?_, hpriority, fun k hmem => ?_, hlife⟩
  · obtain ⟨x, hx⟩ := Option.isSome_iff_exists.1 hlanes
    have hget : (postedEntry p ticket).lanes = x := by rw [postedEntry, hx, Option.getD_some]
    rw [hget]
    unfold LaneSet.ofCode at hx
    split_ifs at hx <;> obtain rfl := Option.some.inj hx <;> rfl
  · have hsome : (if fieldAt p 3 = 255 then none else some (fieldAt p 3)) = some k := hmem
    split_ifs at hsome with hany
    obtain rfl := Option.some.inj hsome
    exact hslot.resolve_right hany

theorem PoolSound.doSpost (h : PoolSound s) (tag : Byte) (p : List Byte) : PoolSound (doSpost tag p s) := by
  unfold Machine.doSpost
  split
  next => exact h.of_pool rfl
  next hbad =>
    dsimp only
    split_ifs with hfull hkind hheld
    · exact h.of_pool rfl
    · exact h.of_pool rfl
    · exact h.of_pool rfl
    · rw [Bool.not_eq_true', Bool.not_eq_false] at hkind
      have hticket := freeTicket_range s.spor.entries s.spor.entries.length (nextTicket_range s.spor.counter)
      have hpost := h.post (e := postedEntry p s.spor.newTicket) (Nat.lt_of_not_le hfull) rfl (Bool.eq_false_iff.2 hheld)
        (postedEntry_sound hbad hticket hkind)
      exact hpost.of_pool rfl

theorem PoolSound.doScancel (h : PoolSound s) (tag : Byte) (p : List Byte) : PoolSound (doScancel tag p s) := by
  unfold Machine.doScancel
  dsimp only
  split
  · exact h.of_pool rfl
  · split
    · exact h.of_pool rfl
    · exact (h.removeTicket _).of_pool rfl

/-- A reset makes every buffer UNUSED and empties the queue (R165). -/
theorem PoolSound.of_reset (hp : s.pool = State.held.pool) : PoolSound s := by
  have hbuffers : BuffersSound State.held := ⟨List.length_replicate, fun b hb => by
    rw [List.eq_of_mem_replicate hb]
    exact ⟨Nat.zero_le _, rfl⟩⟩
  exact PoolSound.of_pool (s := State.held) ⟨hbuffers, Nat.zero_le _, Nat.zero_le _, nofun, .nil, .nil⟩ hp

/-- The requests that touch neither a buffer nor the sporadic queue. -/
theorem carryOut_pool {c : Code} (hc : c ∉ [Code.reset, .bsetup, .bwrite, .bread, .spost, .scancel]) (tag : Byte)
    (p : List Byte) (s : State) : (carryOut c tag p s).pool = s.pool := by
  cases c with
  | reset | bsetup | bwrite | bread | spost | scancel => simp at hc
  | ident | cfgget | stat | lstat | slist => rfl
  | eput | edel | eget | tclr | tload | tchk =>
    simp only [carryOut, doEput, doEdel, doEget, doTclr, doTload, doTchk]
    repeat' split
    all_goals rfl
  | bstat | rfetch | rthresh | gset | nmask | nack | evread =>
    simp only [carryOut, doBstat, doRfetch, doRthresh, doGset, doNmask, doNack, doEvread]
    repeat' split
    all_goals rfl
  | config =>
    simp only [carryOut, doConfig]
    repeat' split
    all_goals rfl
  | start =>
    simp only [carryOut, doStart]
    split_ifs
    · rfl
    · rfl
    · exact startPart_pool s
    · exact startPart_pool s
  | stop =>
    simp only [carryOut, doStop]
    split
    · rfl
    · exact stopPart_pool s
  | tcommit =>
    simp only [carryOut, doTcommit]
    repeat' split
    · rfl
    · rfl
    · rfl
    · exact raise_pool _ _ _
  | tcancel =>
    simp only [carryOut, doTcancel]
    split
    · exact (raise_pool _ _ _).trans (answerDeferred_pool _ .tcommit .cancelled)
    · rfl
  | rdrop =>
    simp only [carryOut, doRdrop]
    repeat' split
    · rfl
    · exact insertRecord_pool _ _
    · rfl
  | lset =>
    simp only [carryOut, doLset, laneDisable, laneEnable, laneClear]
    repeat' split
    · rfl
    · rfl
    · exact (raise_pool _ _ _).trans (laneLeaves_pool s _)
    · exact enterProbation_pool _ _ _
    · rfl
    · rfl
    · rfl
    · rfl

theorem PoolSound.carryOut (h : PoolSound s) {c : Code} (tag : Byte) {p : List Byte} (hlen : p.length = c.required p) :
    PoolSound (carryOut c tag p s) := by
  by_cases hc : c ∉ [Code.reset, .bsetup, .bwrite, .bread, .spost, .scancel]
  · exact h.of_pool (carryOut_pool hc tag p s)
  · cases c with
    | reset => exact .of_reset rfl
    | bsetup => exact h.doBsetup tag p
    | bwrite => exact h.doBwrite tag hlen
    | bread => exact h.doBread tag p
    | spost => exact h.doSpost tag p
    | scancel => exact h.doScancel tag p
    | _ => exact absurd (by simp) hc

/-- The handler, the arbiter and the link keep the pool sound. -/
theorem PoolSound.moves (h : PoolSound s) (hm : Moves s t) : PoolSound t := by
  induction hm with
  | refl => exact h
  | tail _ hmove ih =>
    cases hmove with
    | beside hl => exact ih.of_pool hl.pool_eq
    | request hlen => exact ih.carryOut _ hlen

/-! ### Commands -/

theorem PoolSound.windowStart (h : PoolSound s) {role : EntryRole} {start : Nat → Entry → State → State}
    (hs : ∀ {x : State}, PoolSound x → ∀ position e, PoolSound (start position e x)) (position : Nat) :
    PoolSound (windowStart role start position s) := by
  unfold Machine.windowStart
  split
  next e _ => exact hs (x := passTo e.start s) (h.of_pool rfl) position e
  next => exact h

theorem PoolSound.launchEnd (h : PoolSound s) {kind : LaunchKind} {stop : Launch → State → State}
    (hs : ∀ {x : State}, PoolSound x → ∀ l, PoolSound (stop l x)) : PoolSound (launchEnd kind stop s) := by
  unfold Machine.launchEnd
  split
  next l _ =>
    split
    · exact hs (x := passTo l.ends s) (h.of_pool rfl) l
    · exact h
  next => exact h

theorem PoolSound.closeExpect (h : PoolSound s) (hw : WindowFits s) (a b : List Heard) :
    PoolSound (closeExpect a b s) := by
  unfold Machine.closeExpect
  split
  next w hopen =>
    split
    · exact PoolSound.endExpect (s := passTo w.ends s) (h.of_pool rfl) (hw w hopen) a b
    · exact h
  next => exact h

/-- Every command keeps the pool sound; only the end of an EXPECT window needs to know how many words it has room for. -/
theorem PoolSound.exec (h : PoolSound s) (hw : WindowFits s) {c : Instr}
    (he : exec c s = .next t) : PoolSound t := by
  have ends {x : State} (hx : PoolSound x) (he : finish x = .next t) : PoolSound t := by
    obtain rfl := Host.Outcome.next.inj he
    exact hx.moves (settle_moves x)
  have guarded {x : State} {g : Bool} (hx : PoolSound x) (he : finish (if g then x else s) = .next t) : PoolSound t := by
    refine ends ?_ he
    split
    · exact hx
    · exact h
  have beside {x : State} (hx : LinkOnly s x) : PoolSound x := h.of_pool hx.pool_eq
  cases c with
  | ident | config | cfgget | start | stop | stat | reset | eput | edel | eget | tclr | tload | tchk | tcommit | tcancel
  | bsetup | bwrite | bread | bstat | lsetDisable | lsetEnable | lsetClear | lstat | spost | scancel | slist | rfetch | rdrop
  | rthresh | gset | nmask | nack | evread => exact ends (beside (requestArrives_linkOnly s _ _ _)) he
  | unknownRequest tag code payload => exact guarded (beside (requestArrives_linkOnly s code tag payload)) he
  | inboundFrameComplete b | frameLength b | syncByteClockedOut b | frameClockedOut b | exchangeComplete b =>
    exact guarded (h.moves (exchange_moves s b)) he
  | transactionStart => exact ends (beside (fallCS_linkOnly s)) he
  | transactionEnd => exact ends (beside (riseCS_linkOnly s)) he
  | notificationFrameComposed => exact guarded (beside (compose_linkOnly s)) he
  | powerReset => exact ends (.of_reset (s := holdReset .power s) rfl) he
  | pinReset => exact ends (.of_reset (s := holdReset .pin s) rfl) he
  | resetEnd =>
    refine ends ?_ he
    split
    · exact h.of_pool rfl
    · exact h
  | cycleStart first => exact guarded (h.cycleStartEvent first) he
  | cycleMarkPulseEnd =>
    refine ends ?_ he
    split
    · exact h.of_pool (endPulse_pool s _)
    · exact h
  | startupListenExpiry =>
    refine ends ?_ he
    split
    · exact h.of_pool (expireListen_pool s _)
    · exact h
  | beaconDeadline | holdoverLimitReached => exact guarded (h.of_pool (meetDeadline_pool s)) he
  | freeMessageEnd l elapsed m =>
    have hx : PoolSound { pass elapsed s with
      rx := (pass elapsed s).rx.update l (Receiver.occupy (pass elapsed s).now) } := h.of_pool (pass_pool s elapsed)
    exact guarded (hx.freeMessage l _ m.body) he
  | sendWindowStart position => exact ends (h.windowStart PoolSound.openSend position) he
  | expectWindowStart position => exact ends (h.windowStart (start := openExpect) (fun hx _ _ => hx.of_pool rfl) position) he
  | openWindowStart position => exact ends (h.windowStart PoolSound.openOpen position) he
  | quietWindowStart position => exact ends (h.windowStart (start := openQuiet) (fun hx _ _ => hx.of_pool rfl) position) he
  | breach l offset => exact ends (h.of_pool (carrierStart_pool s l offset)) he
  | expectWindowEnd a b => exact ends (h.closeExpect hw a b) he
  | windowEnd => exact ends (h.of_pool (closeWindow_pool s)) he
  | sendLaunchEnd a b => exact ends (h.launchEnd fun hx l => hx.of_pool (endSend_pool _ l a b)) he
  | sporadicLaunchEnd a b => exact ends (h.launchEnd fun hx l => hx.endSporadic l a b) he
  | beaconLaunchEnd a b => exact ends (h.launchEnd fun hx l => hx.of_pool (endBeacon_pool _ l a b)) he
  | expiry => exact guarded h.expireDue he
  | holdExpired l => exact guarded (h.of_pool (enterProbation_pool s l .holdExpired)) he
  | probationPassed l => exact guarded (h.of_pool (promoteLane_pool s l)) he

theorem PoolSound.step (h : PoolSound s) (hw : WindowFits s)
    (he : step s = .next t) : PoolSound t := by
  unfold Machine.step at he
  split at he
  next c rest _ => exact PoolSound.exec (s := { s with pending := rest }) (h.of_pool rfl) hw he
  next =>
    split at he
    next c _ => exact PoolSound.exec (s := countRace s) (h.of_pool rfl) hw he
    next =>
      obtain rfl := Host.Outcome.next.inj he
      exact h.of_pool (microtick_pool s)

end

/-- Settles O58: that the buffers and the sporadic queue are sound is what every step keeps; of the rest of the invariant it
needs that the open window's entry has room for no more words than a buffer. -/
theorem buffersAndPostsStaySound : Obligations.BuffersAndPostsStaySound := by
  intro s t hinv hstep
  obtain ⟨hbuffers, hposts⟩ := (PoolSound.of_inv hinv).step (.of_inv hinv) hstep
  exact ⟨hbuffers, hposts⟩

end Sys2Proof.Machine
end

section
/-! The requests of the buffer pool on a free handler: BSETUP and BWRITE (R67, R70), BREAD and BSTAT (R80, R82). -/
namespace Sys2Proof.Machine

/-! ### Words and bytes (R188) -/

theorem wordOf_bytes (w : Word) : wordOf (lowByte w) (highByte w) = w := by
  refine BitVec.eq_of_getLsbD_eq fun i hi => ?_
  unfold wordOf lowByte highByte
  rw [BitVec.getLsbD_append, BitVec.getLsbD_setWidth, BitVec.getLsbD_setWidth, BitVec.getLsbD_ushiftRight]
  by_cases hlow : i < 8
  · simp [hlow]
  · have hhigh : i - 8 < 8 := by omega
    have hindex : 8 + (i - 8) = i := by omega
    simp [hlow, hhigh, hindex]

theorem wordsOf_bytesOf (ws : List Word) : wordsOf (bytesOf ws) = ws := by
  induction ws with
  | nil => rfl
  | cons w ws ih =>
    calc wordsOf (bytesOf (w :: ws))
      _ = wordOf (lowByte w) (highByte w) :: wordsOf (bytesOf ws) := rfl
      _ = w :: ws := by rw [wordOf_bytes, ih]

theorem bytesOf_length (ws : List Word) : (bytesOf ws).length = 2 * ws.length := by
  induction ws with
  | nil => rfl
  | cons w ws ih =>
    rw [List.length_cons, Nat.mul_succ, ← ih]
    rfl

/-- The policies that BSETUP takes (R67, R204). -/
theorem policy_none_iff (policy : Byte) : Policy.ofCode policy.toNat = none ↔ policy ≠ 1 ∧ policy ≠ 2 := by
  have hone : policy.toNat = 1 ↔ policy = 1 := BitVec.toNat_inj (y := 1)
  have htwo : policy.toNat = 2 ↔ policy = 2 := BitVec.toNat_inj (y := 2)
  unfold Policy.ofCode
  simp only [hone, htwo]
  split_ifs with h1 h2
  · exact iff_of_false nofun fun h => h.1 h1
  · exact iff_of_false nofun fun h => h.2 h2
  · exact iff_of_true rfl ⟨h1, h2⟩

section
variable {tag : Byte} {s : State}

/-! ### BSETUP (R67) -/

section
variable {n kind policy : Byte}

theorem doBsetup_badBuffer (h : 47 < n.toNat) : doBsetup tag [n, kind, policy] s = answer tag .badField [0] s := if_pos h

theorem doBsetup_badKind (hn : n.toNat ≤ 47) (h : 3 < kind.toNat) :
    doBsetup tag [n, kind, policy] s = answer tag .badField [1] s :=
  (if_neg (Nat.not_lt.2 hn)).trans (if_pos h)

theorem doBsetup_badPolicy (hn : n.toNat ≤ 47) (hk : kind = 1) (h : policy ≠ 1 ∧ policy ≠ 2) :
    doBsetup tag [n, kind, policy] s = answer tag .badField [2] s := by
  subst hk
  have hkind : ¬3 < (1 : Byte).toNat := by decide
  exact ((if_neg (Nat.not_lt.2 hn)).trans (if_neg hkind)).trans (if_pos ⟨rfl, (policy_none_iff policy).2 h⟩)

/-- Where the fields pass, the buffer's relations decide: referenced, held, or free (R66). -/
theorem doBsetup_fields (hn : n.toNat ≤ 47) (hk : kind.toNat ≤ 3) (hp : kind = 1 → policy = 1 ∨ policy = 2) :
    doBsetup tag [n, kind, policy] s =
      if referenced s n.toNat then answer tag .inUse [] s
      else if isHeld s n.toNat then answer tag .held [] s
      else answer tag .ok [] (setBuffer n.toNat
        ⟨[], BufferStatus.setup kind.toNat ((Policy.ofCode policy.toNat).getD .repeat)⟩ s) := by
  have hpolicy : ¬(kind.toNat = 1 ∧ Policy.ofCode policy.toNat = none) := fun ⟨hone, hnone⟩ => by
    obtain ⟨h1, h2⟩ := (policy_none_iff policy).1 hnone
    exact (hp (BitVec.eq_of_toNat_eq hone)).elim h1 h2
  exact ((if_neg (Nat.not_lt.2 hn)).trans (if_neg (Nat.not_lt.2 hk))).trans (if_neg hpolicy)

end

/-! ### BWRITE (R70) -/

/-- The buffers that a BWRITE may fill. -/
theorem writable_iff {b : Buffer} : (b.isSend || b.isSporadic) = true ↔
    (∃ f p q c, b.status = .send f p q c) ∨ ∃ q, b.status = .sporadic q := by
  unfold Buffer.isSend Buffer.isSporadic
  cases b.status <;> simp [BufferStatus.kindCode]

theorem not_writable {b : Buffer} (h : b.status = .unused ∨ ∃ r, b.status = .receive r) :
    (b.isSend || b.isSporadic) = false := by
  unfold Buffer.isSend Buffer.isSporadic
  rcases h with hb | ⟨r, hb⟩ <;> rw [hb] <;> rfl

theorem write_send {b : Buffer} {f : Freshness} {p : Policy} {q : BitVec 4} {c : Nat} (hb : b.status = .send f p q c)
    (ws : List Word) : b.write ws = ⟨ws, .send .fresh p q 0⟩ := by
  simp only [Buffer.write, hb]

theorem write_sporadic {b : Buffer} {q : BitVec 4} (hb : b.status = .sporadic q) (ws : List Word) :
    b.write ws = ⟨ws, .sporadic q⟩ := by
  simp only [Buffer.write, hb]

/-- What a BWRITE fills is neither UNUSED nor a RECEIVE buffer. -/
theorem write_writable {b : Buffer} (h : (∃ f p q c, b.status = .send f p q c) ∨ ∃ q, b.status = .sporadic q)
    (ws : List Word) : (b.write ws).words = ws ∧ (b.write ws).status ≠ .unused ∧ ∀ r, (b.write ws).status ≠ .receive r := by
  rcases h with ⟨f, p, q, c, hb⟩ | ⟨q, hb⟩
  · rw [write_send hb]
    exact ⟨rfl, nofun, fun _ h => nomatch h⟩
  · rw [write_sporadic hb]
    exact ⟨rfl, nofun, fun _ h => nomatch h⟩

section
variable {n k : Byte} {data : List Byte}

theorem doBwrite_badBuffer (h : 47 < n.toNat) : doBwrite tag (n :: k :: data) s = answer tag .badField [0] s := if_pos h

theorem doBwrite_badCount (hn : n.toNat ≤ 47) (h : 32 < k.toNat) :
    doBwrite tag (n :: k :: data) s = answer tag .badField [1] s :=
  (if_neg (Nat.not_lt.2 hn)).trans (if_pos h)

/-- Where the fields pass, the buffer's kind and holder decide. -/
theorem doBwrite_fields (hn : n.toNat ≤ 47) (hk : k.toNat ≤ 32) : doBwrite tag (n :: k :: data) s =
    if !((bufferAt s n.toNat).isSend || (bufferAt s n.toNat).isSporadic) then answer tag .wrongKind [] s
    else if isHeld s n.toNat then answer tag .held [] s
    else answer tag .ok [] (setBuffer n.toNat ((bufferAt s n.toNat).write (wordsOf data)) s) :=
  (if_neg (Nat.not_lt.2 hn)).trans (if_neg (Nat.not_lt.2 hk))

end

/-! ### BREAD and BSTAT (R80, R82) -/

section
variable {n x : Byte}

theorem doBread_badBuffer (h : 47 < n.toNat) : doBread tag [n, x] s = answer tag .badField [0] s := if_pos h

theorem doBread_unused (hn : n.toNat ≤ 47) (h : (bufferAt s n.toNat).status = .unused) :
    doBread tag [n, x] s = answer tag .wrongKind [] s :=
  (if_neg (Nat.not_lt.2 hn)).trans (if_pos h)

theorem doBread_used (hn : n.toNat ≤ 47) (h : (bufferAt s n.toNat).status ≠ .unused) : doBread tag [n, x] s =
    answer tag .ok (statusOf s n.toNat ++ bytesOf (bufferAt s n.toNat).words)
      (if x.getLsbD 0 then s else setBuffer n.toNat (bufferAt s n.toNat).markRead s) :=
  (if_neg (Nat.not_lt.2 hn)).trans (if_neg h)

theorem markRead_new {b : Buffer} {r : RxStatus} (hb : b.status = .receive r) (hr : r.state = .new) :
    b.markRead = ⟨b.words, .receive { r with state := .read }⟩ := by
  unfold Buffer.markRead
  rw [hb]
  exact if_pos hr

theorem markRead_other {b : Buffer} (h : ∀ r, b.status = .receive r → r.state ≠ .new) : b.markRead = b := by
  unfold Buffer.markRead
  split
  next r hr => exact if_neg (h r hr)
  next => rfl

theorem setBuffer_bufferAt (n : Nat) (s : State) : setBuffer n (bufferAt s n) s = s := by
  have hset : s.bufs.set n (bufferAt s n) = s.bufs := by
    refine List.ext_getElem? fun i => ?_
    rw [List.getElem?_set]
    split_ifs with hi hn
    · rw [bufferAt, ← hi, List.getElem?_eq_getElem hn, Option.getD_some]
    · rw [← hi, List.getElem?_eq_none (Nat.le_of_not_lt hn)]
    · rfl
  unfold setBuffer
  rw [hset]

/-- A BREAD that peeks, or that finds nothing NEW, changes nothing. -/
theorem doBread_kept (hn : n.toNat ≤ 47) (h : (bufferAt s n.toNat).status ≠ .unused)
    (hx : ∀ r, (bufferAt s n.toNat).status = .receive r → r.state = .new → x.getLsbD 0 = true) :
    doBread tag [n, x] s = answer tag .ok (statusOf s n.toNat ++ bytesOf (bufferAt s n.toNat).words) s := by
  rw [doBread_used hn h]
  split
  next => rfl
  next hpeek => rw [markRead_other fun r hr hnew => hpeek (hx r hr hnew), setBuffer_bufferAt]

theorem doBread_new (hn : n.toNat ≤ 47) {r : RxStatus} (hb : (bufferAt s n.toNat).status = .receive r) (hr : r.state = .new)
    (hx : x.getLsbD 0 = false) : doBread tag [n, x] s =
      answer tag .ok (statusOf s n.toNat ++ bytesOf (bufferAt s n.toNat).words)
        (setBuffer n.toNat ⟨(bufferAt s n.toNat).words, .receive { r with state := .read }⟩ s) := by
  have hused : (bufferAt s n.toNat).status ≠ .unused := by rw [hb]; nofun
  rw [doBread_used hn hused, if_neg (Bool.eq_false_iff.1 hx), markRead_new hb hr]

/-- The fourth byte of a RECEIVE buffer's status record is its state (R199). -/
theorem statusOf_state {n : Nat} {r : RxStatus} (hb : (bufferAt s n).status = .receive r) :
    (statusOf s n)[3]? = some r.state.code := by
  unfold statusOf statusRecord
  rw [hb]
  rfl

theorem doBstat_badBuffer (h : 47 < n.toNat) : doBstat tag [n, x] s = answer tag .badField [0] s := if_pos h

theorem doBstat_badCount (hn : n.toNat ≤ 47) (h : x.toNat = 0 ∨ 8 < x.toNat ∨ 48 < n.toNat + x.toNat) :
    doBstat tag [n, x] s = answer tag .badField [1] s :=
  (if_neg (Nat.not_lt.2 hn)).trans (if_pos h)

theorem doBstat_records (hn : n.toNat ≤ 47) (h : 1 ≤ x.toNat ∧ x.toNat ≤ 8 ∧ n.toNat + x.toNat ≤ 48) :
    doBstat tag [n, x] s = answer tag .ok ((List.range x.toNat).flatMap fun i => statusOf s (n.toNat + i)) s :=
  (if_neg (Nat.not_lt.2 hn)).trans (if_neg (by
    show ¬(x.toNat = 0 ∨ 8 < x.toNat ∨ 48 < n.toNat + x.toNat)
    omega))

end

/-- A request that is answered and changes nothing but the buffers. -/
theorem ready_bufs (h : Ready tag s) (c : Code) {p q : List Byte} {r : Result} (hlen : p.length = c.required p)
    {bufs : List Buffer} (hx : carryOut c tag p (reserveFor [] s) = answer tag r q { reserveFor [] s with bufs := bufs }) :
    finish (requestArrives c.byte tag p s) = .next (replied tag r q { s with bufs := bufs }) :=
  ready_answer h c hlen (x := { s with bufs := bufs }) hx rfl rfl rfl

/-- A BWRITE that passes its tests stores its words (R70). -/
theorem bwrite_taken (h : Ready tag s) {n : Byte} {words : List Word} (hn : n.toNat ≤ 47) (hwords : words.length ≤ 32)
    (hheld : isHeld s n.toNat = false) (hkind : (∃ f p q c, (bufferAt s n.toNat).status = .send f p q c) ∨
      ∃ q, (bufferAt s n.toNat).status = .sporadic q) :
    exec (.bwrite tag (n :: byte words.length :: bytesOf words)) s =
      .next (replied tag .ok [] (setBuffer n.toNat ((bufferAt s n.toNat).write words) s)) := by
  have hcount : (byte words.length).toNat = words.length := by
    unfold byte
    rw [BitVec.toNat_ofNat]
    omega
  have hlen : (n :: byte words.length :: bytesOf words).length =
      Code.bwrite.required (n :: byte words.length :: bytesOf words) := by
    show (bytesOf words).length + 2 = 2 + 2 * (byte words.length).toNat
    rw [bytesOf_length, hcount, Nat.add_comm]
  refine ready_bufs h .bwrite hlen ((doBwrite_fields hn (hcount.trans_le hwords)).trans ?_)
  rw [wordsOf_bytesOf]
  refine (if_neg ?_).trans (if_neg (Bool.eq_false_iff.1 hheld))
  rw [Bool.not_eq_true', Bool.not_eq_false]
  exact writable_iff.2 hkind

/-- A BREAD that peeks, or that finds nothing NEW, answers the buffer as it stands (R80). -/
theorem bread_kept (h : Ready tag s) {n x : Byte} (hn : n.toNat ≤ 47) (hused : (bufferAt s n.toNat).status ≠ .unused)
    (hx : ∀ r, (bufferAt s n.toNat).status = .receive r → r.state = .new → x.getLsbD 0 = true) :
    exec (.bread tag [n, x]) s =
      .next (replied tag .ok (statusOf s n.toNat ++ bytesOf (bufferAt s n.toNat).words) s) :=
  ready_bufs h .bread rfl (doBread_kept hn hused hx)

end

/-- Settles O20: each clause is one of the tests of BSETUP or BWRITE, carried out at once. -/
theorem bufferSetupAndRefusals : Obligations.BufferSetupAndRefusals := by
  refine ⟨fun tag n kind policy s h => ?_, fun tag n k data s h hdata => ?_⟩
  · have answers {q : List Byte} {r : Result}
        (hx : doBsetup tag [n, kind, policy] (reserveFor [] s) = answer tag r q (reserveFor [] s)) :
        exec (.bsetup tag [n, kind, policy]) s = .next (replied tag r q s) := ready_bufs h .bsetup rfl hx
    refine ⟨fun hn => answers (doBsetup_badBuffer hn), fun hn hk => answers (doBsetup_badKind hn hk),
      fun hn hk h1 h2 => answers (doBsetup_badPolicy hn hk ⟨h1, h2⟩), fun hn hk hp => ?_⟩
    have hfields := doBsetup_fields (tag := tag) (s := reserveFor [] s) hn hk hp
    refine ⟨fun hr => answers (hfields.trans (if_pos hr)), fun hr hheld => ?_, fun hr hheld => ?_⟩
    · exact answers ((hfields.trans (if_neg (Bool.eq_false_iff.1 hr))).trans (if_pos hheld))
    · refine ⟨_, ready_bufs h .bsetup rfl
        ((hfields.trans (if_neg (Bool.eq_false_iff.1 hr))).trans (if_neg (Bool.eq_false_iff.1 hheld))), ?_, ?_, ?_, ?_⟩
      · rintro rfl; rfl
      · rintro rfl
        rcases hp rfl with rfl | rfl <;> rfl
      · rintro rfl; rfl
      · rintro rfl; rfl
  · have hlen : (n :: k :: data).length = Code.bwrite.required (n :: k :: data) := by
      show data.length + 2 = 2 + 2 * k.toNat
      omega
    have answers {q : List Byte} {r : Result}
        (hx : doBwrite tag (n :: k :: data) (reserveFor [] s) = answer tag r q (reserveFor [] s)) :
        exec (.bwrite tag (n :: k :: data)) s = .next (replied tag r q s) := ready_bufs h .bwrite hlen hx
    refine ⟨fun hn => answers (doBwrite_badBuffer hn), fun hn hk => answers (doBwrite_badCount hn hk), fun hn hk => ?_⟩
    have hfields := doBwrite_fields (tag := tag) (data := data) (s := reserveFor [] s) hn hk
    refine ⟨fun hkind => answers (hfields.trans (if_pos (congrArg Bool.not (not_writable hkind)))),
      fun hkind hheld => answers ((hfields.trans (if_neg ?_)).trans (if_pos hheld))⟩
    rw [Bool.not_eq_true', Bool.not_eq_false]
    exact writable_iff.2 (.inr hkind)

/-- Settles O22: each clause is one of the cases of BREAD or BSTAT, carried out at once. -/
theorem readMarksRead : Obligations.ReadMarksRead := by
  intro tag n x s h b
  have reads {bufs : List Buffer} {q : List Byte} {r : Result}
      (hx : doBread tag [n, x] (reserveFor [] s) = answer tag r q { reserveFor [] s with bufs := bufs }) :
      exec (.bread tag [n, x]) s = .next (replied tag r q { s with bufs := bufs }) := ready_bufs h .bread rfl hx
  have stats {q : List Byte} {r : Result}
      (hx : doBstat tag [n, x] (reserveFor [] s) = answer tag r q (reserveFor [] s)) :
      exec (.bstat tag [n, x]) s = .next (replied tag r q s) := ready_bufs h .bstat rfl hx
  refine ⟨fun hn => ⟨reads (doBread_badBuffer hn), stats (doBstat_badBuffer hn)⟩, fun hn => ⟨fun hb => ?_, fun r hb hr hx => ?_,
    fun hb hx => ?_, fun hx => ?_, fun h1 h8 h48 => stats (doBstat_records hn ⟨h1, h8, h48⟩)⟩⟩
  · exact reads (doBread_unused hn hb)
  · refine ⟨?_, reads (doBread_new hn hb hr hx)⟩
    rw [statusOf_state hb, hr]
    rfl
  · exact bread_kept h hn hb hx
  · refine stats (doBstat_badCount hn (hx.imp_left ?_))
    rintro rfl
    rfl

/-! ### A BREAD after a BWRITE -/

section
variable {s : State}

theorem bufferAt_setBuffer {n : Nat} (hn : n < s.bufs.length) (b : Buffer) : bufferAt (setBuffer n b s) n = b := by
  unfold bufferAt
  rw [setBuffer_bufs, List.getElem?_set_self hn, Option.getD_some]

/-- A handler that was free, and answers, stays free while there is room for one answer more. -/
theorem Ready.replied {tag other : Byte} {r : Result} {q : List Byte} {x : State} (h : Ready tag s)
    (hroom : s.link.outbound.length + s.link.reservations < 7) (hn : x.notif = s.notif) (hr : x.resetting = s.resetting)
    (hl : x.link = s.link) : Ready tag (replied other r q x) := by
  have hnotifications : (Machine.replied other r q x).link.notifications = s.link.notifications := by
    rw [← hl]
    simp [Machine.replied, Link.notifications, responseFrame, OutFrame.isNotification]
  have harbiter := arbiter_idle_of_fuller (x := Machine.replied other r q x) h.1 hn hr hnotifications
  obtain ⟨⟨hreset, hintake, -, -⟩, htag, hfree⟩ := h
  refine ⟨⟨hr.trans hreset, (congrArg Link.intake hl).trans hintake, ?_, harbiter⟩, htag,
    (congrArg (fun k => tagInUse tag [] k.deferred) hl).trans hfree⟩
  simp only [Machine.replied, Link.hasPlace, Link.used, hl, List.length_append, List.length_singleton, decide_eq_true_eq,
    Config.outboundPlaces]
  omega

end

/-- Settles O21: the words go into the buffer, and the BREAD finds them there; a SEND or SPORADIC buffer is never NEW. -/
theorem writeThenRead : Obligations.WriteThenRead := by
  intro tag tag' n options words s h h' hroom hlength hn hwords hheld hkind
  obtain ⟨hstored, hused, hreceive⟩ := write_writable hkind words
  have hsend {f p q c} (hb : (bufferAt s n.toNat).status = .send f p q c) := congrArg Buffer.status (write_send hb words)
  have hsporadic {q} (hb : (bufferAt s n.toNat).status = .sporadic q) := congrArg Buffer.status (write_sporadic hb words)
  have hwrite := bwrite_taken h hn hwords hheld hkind
  generalize (bufferAt s n.toNat).write words = b at *
  have hat : bufferAt (replied tag .ok [] (setBuffer n.toNat b s)) n.toNat = b := bufferAt_setBuffer hlength b
  have hread := bread_kept (h'.replied (other := tag) (r := .ok) (q := []) (x := setBuffer n.toNat b s) hroom rfl rfl rfl)
    (x := options) hn (hat.symm ▸ hused) fun r hr _ => absurd (hat ▸ hr) (hreceive r)
  rw [statusOf, hat, show isHeld (replied tag .ok [] (setBuffer n.toNat b s)) n.toNat = false from hheld, hstored] at hread
  exact ⟨b, _, _, hwrite, rfl, hstored, fun f p q c hb => hsend hb, fun q hb => hsporadic hb, hread, rfl⟩

end Sys2Proof.Machine
end

section
/-! The lane rules that are requests or outcomes of one lane: LSTAT and LSET on a free handler (R100 to R105; O7, O23, O24), and
the grading of an outcome (R91 to R97; O25). -/
namespace Sys2Proof.Machine

section
variable {tag : Byte} {l : Lane} {s : State}

/-! ### The actions of LSET (R100 to R103) -/

/-- The lane byte of an LSET names its lane, and the action byte its request (R193). -/
theorem doLset_disable (tag : Byte) (l : Lane) (s : State) : doLset tag [l.code, 1] s = laneDisable tag l s := by
  cases l <;> rfl

theorem doLset_enable (tag : Byte) (l : Lane) (s : State) : doLset tag [l.code, 2] s = laneEnable tag l s := by
  cases l <;> rfl

theorem doLset_clear (tag : Byte) (l : Lane) (s : State) : doLset tag [l.code, 3] s = laneClear tag l s := by
  cases l <;> rfl

theorem laneDisable_disabled (hs : (s.lanes.get l).state = .disabled) :
    laneDisable tag l s = answer tag .ok [4, byte (s.lanes.get l).debit] s := by
  simp only [laneDisable, hs, if_true, answerLane, LaneState.code]

theorem laneEnable_enabled (hs : (s.lanes.get l).state = .active ∨ (s.lanes.get l).state = .probation) :
    laneEnable tag l s = answer tag .ok [(s.lanes.get l).state.code, byte (s.lanes.get l).debit] s := by
  have hoff : ¬((s.lanes.get l).state = .disabled ∨ (s.lanes.get l).state = .faulted) := by
    rcases hs with hs | hs <;> simp [hs]
  simp only [laneEnable, if_neg hoff, answerLane]

/-! ### A lane that leaves (R9, R10) -/

/-- A lane's leaving neither reads nor changes the link. -/
theorem unreserved_laneLeaves (l : Lane) (s : State) : unreserved (laneLeaves l s) = laneLeaves l (unreserved s) := by
  simp only [laneLeaves, cutLaunch, unreserved]
  split
  · rfl
  next x _ =>
    split
    · split <;> rfl
    · rfl

/-- A lane that has left releases TXEN (R9). -/
theorem laneLeaves_txen (l : Lane) (s : State) : txen (laneLeaves l s) l = false := by
  unfold txen
  split
  next x hx => exact cutLaunch_onAir (by simp) s x hx
  next => rfl

/-- A lane that has left neither listens nor watches in the open window (R10). -/
theorem laneLeaves_holds (l : Lane) (s : State) :
    ∀ w ∈ (laneLeaves l s).sched.window, w.role.holds.has l = false := by
  intro w hw
  obtain ⟨v, -, rfl⟩ := Option.map_eq_some_iff.1 hw
  simp [without_holds]

/-! ### DISABLE (R101) -/

/-- A lane unit that a DISABLE leaves with this debit (R101). -/
def LaneUnit.disabledAt (debit : Nat) : LaneUnit := { state := .disabled, debit := debit, hold := 0, clean := 0, good := false }

/-- The lane has been DISABLED and left what it was in (R101). -/
def disabled (l : Lane) (s : State) : State := setUnit l (LaneUnit.disabledAt (s.lanes.get l).debit) (laneLeaves l s)

theorem disabled_eq (l : Lane) (s : State) : disabled l s =
    { laneLeaves l s with lanes := s.lanes.set l ⟨.disabled, (s.lanes.get l).debit, 0, 0, false⟩ } := by
  rw [disabled, setUnit, laneLeaves_lanes, LaneUnit.disabledAt]

theorem laneDisable_leaves (hs : (s.lanes.get l).state ≠ .disabled) :
    laneDisable tag l s = changeLane l .lsetDisable (LaneUnit.disabledAt (s.lanes.get l).debit)
      (answer tag .ok [4, byte (s.lanes.get l).debit] (laneLeaves l s)) := if_neg hs

/-- A DISABLE of a lane that is not DISABLED answers OK and raises STATE_CHANGED. -/
theorem lsetDisable_done (h : Ready tag s) (hs : (s.lanes.get l).state ≠ .disabled) :
    ∃ t, exec (.lsetDisable tag l.code) s = .next t ∧ Posts [responseFrame tag .ok [4, byte (s.lanes.get l).debit]]
      [laneNotice l (s.lanes.get l).state .disabled .lsetDisable (s.lanes.get l).debit s.tb.cycle] (disabled l s) t := by
  have htaken : exec (.lsetDisable tag l.code) s = .next (composeAll (doLset tag [l.code, 1] (reserveFor [] s))) :=
    ready_request h .lset rfl
  rw [doLset_disable, laneDisable_leaves (s := reserveFor [] s) hs] at htaken
  have hback : unreserved (laneLeaves l (reserveFor [] s)) = laneLeaves l s := by
    rw [unreserved_laneLeaves, unreserved_reserveFor h.1.2.1]
  have hposts := (changeLane_does l .lsetDisable (LaneUnit.disabledAt (s.lanes.get l).debit)).after
    ((answer_does tag .ok [4, byte (s.lanes.get l).debit]).posts (laneLeaves l (reserveFor [] s)))
  rw [hback, laneLeaves_lanes, laneLeaves_tb] at hposts
  exact ⟨_, htaken, hposts.composeAll⟩

/-- What posts on a lane that has been DISABLED leaves it off: LANE_OFF asserted, TXEN released, the window abandoned (R1, R9,
R10). -/
theorem off_of_disabled {responses : List OutFrame} {notices : List Notice} {t : State}
    (h : Posts responses notices (disabled l s) t) :
    laneOff t l = true ∧ txen t l = false ∧ ∀ w ∈ t.sched.window, w.role.holds.has l = false := by
  obtain ⟨n, new, r, rfl, -⟩ := h
  refine ⟨?_, laneLeaves_txen l s, laneLeaves_holds l s⟩
  rw [laneOff, noted_lanes, disabled, setUnit_get]
  rfl

/-! ### ENABLE (R102) -/

theorem laneEnable_readmits (hs : (s.lanes.get l).state = .disabled ∨ (s.lanes.get l).state = .faulted) :
    laneEnable tag l s = enterProbation l .lsetEnable (answer tag .ok [2, 0] s) := if_pos hs

/-- An ENABLE of a lane that is DISABLED or FAULTED answers OK and raises STATE_CHANGED. -/
theorem lsetEnable_done (h : Ready tag s) (hs : (s.lanes.get l).state = .disabled ∨ (s.lanes.get l).state = .faulted) :
    ∃ t, exec (.lsetEnable tag l.code) s = .next t ∧ Posts [responseFrame tag .ok [2, 0]]
      [laneNotice l (s.lanes.get l).state .probation .lsetEnable 0 s.tb.cycle] (readmit l s) t := by
  have htaken : exec (.lsetEnable tag l.code) s = .next (composeAll (doLset tag [l.code, 2] (reserveFor [] s))) :=
    ready_request h .lset rfl
  rw [doLset_enable, laneEnable_readmits (s := reserveFor [] s) hs] at htaken
  have hposts := (enterProbation_does l .lsetEnable).after ((answer_does tag .ok [2, 0]).posts (reserveFor [] s))
  rw [unreserved_reserveFor h.1.2.1] at hposts
  exact ⟨_, htaken, hposts.composeAll⟩

end

/-! ### O7, O23, O24, O25 -/

/-- Settles O7: LSTAT is a query, answered at once. -/
theorem lstatAnswersTheLanes : Obligations.LstatAnswersTheLanes :=
  fun _ _ h => ready_answer h .lstat rfl rfl rfl rfl rfl

/-- Settles O23: each clause is one branch of the request, carried out at once. -/
theorem laneDisableAndEnable : Obligations.LaneDisableAndEnable := by
  refine ⟨fun tag l s h ten => ⟨fun hs => ?_, fun hs => ?_⟩, fun tag l s h ten => ⟨fun hs => ?_, fun hs => ?_⟩⟩
  · exact ready_answer h .lset rfl ((doLset_disable tag l _).trans (laneDisable_disabled hs)) rfl rfl rfl
  · obtain ⟨t, ht, hposts⟩ := lsetDisable_done h hs
    obtain ⟨hoff, htxen, hwindow⟩ := off_of_disabled hposts
    rw [disabled_eq] at hposts
    exact ⟨t, ht, hposts.raised (laneLeaves_notif l s) ten, hoff, htxen, hwindow,
      hposts.answers (congrArg Link.outbound (laneLeaves_link l s))⟩
  · exact ready_answer h .lset rfl ((doLset_enable tag l _).trans (laneEnable_enabled hs)) rfl rfl rfl
  · obtain ⟨t, ht, hposts⟩ := lsetEnable_done h hs
    exact ⟨t, ht, hposts.raised rfl ten, hposts.answers rfl⟩

/-- Settles O24: CLEAR tests the lane's state, and sets its debit or refuses. (`laneClear` is the model's own function.) -/
theorem laneClear_holds : Obligations.LaneClear := by
  intro tag l s h
  refine ⟨fun hs => ?_, fun hs => ?_⟩
  · exact ready_answer (x := setDebit l 0 s) h .lset rfl ((doLset_clear tag l _).trans (if_pos hs)) rfl rfl rfl
  · exact ready_answer h .lset rfl ((doLset_clear tag l _).trans (if_neg hs)) rfl rfl rfl

/-- Settles O25: the grading of an outcome by the lane's state, with what it posts. -/
theorem outcomeGradesItsLane : Obligations.OutcomeGradesItsLane := by
  intro l o proved position c s ten
  have hposts := (gradeOutcome_does l o proved position c).posts s
  have hnotif : (graded l o proved s).notif = s.notif := (graded_blind l o proved).notif s
  rw [graded_eq] at hposts hnotif
  exact ⟨hposts.raised hnotif ten, hposts.answers rfl⟩

end Sys2Proof.Machine
end

section
/-! The combination of the two lanes (R87, R88), row for row of its table, and the error set (O52). -/
namespace Sys2Proof.Machine

/-! ### The rows of the table (R87) -/

section
variable {first l : Lane} {v : PerLane LaneView} {u : LaneView} {o : Outcome}

theorem gives_iff : u.gives o = true ↔ u.considered = true ∧ u.outcome = o := by
  simp [LaneView.gives]

theorem quiet_iff : u.quiet = true ↔ (u.considered = true → u.outcome = .silent) := by
  cases hc : u.considered <;> simp [LaneView.quiet, hc]

theorem sameWords_iff {a b : LaneView} :
    sameWords a b = true ↔ a.facts.header = b.facts.header ∧ a.facts.payload = b.facts.payload := by
  simp [sameWords]

theorem combine_bothGood (ha : v.a.gives .good = true) (hb : v.b.gives .good = true) :
    combine first v = ⟨.received, LaneSet.both, !sameWords v.a v.b, some first⟩ := by
  simp [combine, ha, hb]

theorem combine_oneGood (hl : (v.get l).gives .good = true) (ho : ¬(v.get l.other).gives .good = true) :
    combine first v = ⟨.received, LaneSet.single l, (v.get l.other).gives .null, some l⟩ := by
  cases l <;> simp_all [combine, PerLane.get, Lane.other]

/-- With no GOOD lane, the NULL lanes decide. -/
theorem combine_noGood (ha : ¬v.a.gives .good = true) (hb : ¬v.b.gives .good = true) :
    combine first v =
      if v.a.gives .null ∧ v.b.gives .null then ⟨.nullHeard, LaneSet.none, false, some first⟩
      else if v.a.gives .null then ⟨.nullHeard, LaneSet.none, false, some .A⟩
      else if v.b.gives .null then ⟨.nullHeard, LaneSet.none, false, some .B⟩
      else ⟨if v.a.quiet ∧ v.b.quiet then .missing else .faulty, LaneSet.none, false, none⟩ := by
  simp only [combine, ha, hb, Bool.false_eq_true, if_false, Bool.and_false, Bool.and_eq_true]
  split_ifs <;> rfl

theorem combine_noGood_lanes (ha : ¬v.a.gives .good = true) (hb : ¬v.b.gives .good = true) :
    (combine first v).good = LaneSet.none ∧ (combine first v).disagree = false := by
  rw [combine_noGood ha hb]
  split_ifs <;> exact ⟨rfl, rfl⟩

theorem combine_oneNull (ha : ¬v.a.gives .good = true) (hb : ¬v.b.gives .good = true)
    (hl : (v.get l).gives .null = true) (ho : ¬(v.get l.other).gives .null = true) :
    combine first v = ⟨.nullHeard, LaneSet.none, false, some l⟩ := by
  rw [combine_noGood ha hb]
  cases l <;> simp_all [PerLane.get, Lane.other]

theorem combine_noMessage (ha : ¬v.a.gives .good = true) (hb : ¬v.b.gives .good = true)
    (hna : ¬v.a.gives .null = true) (hnb : ¬v.b.gives .null = true) :
    combine first v = ⟨if v.a.quiet ∧ v.b.quiet then .missing else .faulty, LaneSet.none, false, none⟩ := by
  rw [combine_noGood ha hb, if_neg (fun h => hna h.1), if_neg hna, if_neg hnb]

/-! ### The error set (R88, R188) -/

/-- A bit that one outcome alone has in an error set tells whether a considered lane had that outcome. -/
theorem errorSet_getLsbD {i : Nat} (h : ∀ x, (errorBit x).getLsbD i = true ↔ x = o) :
    (errorSet v).getLsbD i = true ↔ ∃ l, (v.get l).considered = true ∧ (v.get l).outcome = o := by
  have lane (u : LaneView) : (if u.considered then errorBit u.outcome else 0).getLsbD i = true ↔
      u.considered = true ∧ u.outcome = o := by
    cases hc : u.considered <;> simp [h]
  rw [errorSet, BitVec.getLsbD_or, Bool.or_eq_true, lane, lane]
  exact ⟨fun h => h.elim (fun h => ⟨.A, h⟩) fun h => ⟨.B, h⟩, fun ⟨l, h⟩ => by cases l; exacts [.inl h, .inr h]⟩

theorem errorBit_low (x : Outcome) : errorBit x &&& 0xF0 = 0 := by cases x <;> rfl

/-- An error set has four bits. -/
theorem errorSet_low (v : PerLane LaneView) : errorSet v &&& 0xF0 = 0 := by
  have lane (u : LaneView) : (if u.considered then errorBit u.outcome else 0) &&& 0xF0 = 0 := by
    split
    · exact errorBit_low _
    · rfl
  rw [errorSet, BitVec.and_or_distrib_right, lane, lane]
  rfl

theorem errorBit_timing (x : Outcome) : (errorBit x).getLsbD 0 = true ↔ x = .timing := by cases x <;> decide
theorem errorBit_check (x : Outcome) : (errorBit x).getLsbD 1 = true ↔ x = .check := by cases x <;> decide
theorem errorBit_format (x : Outcome) : (errorBit x).getLsbD 2 = true ↔ x = .format := by cases x <;> decide
theorem errorBit_sender (x : Outcome) : (errorBit x).getLsbD 3 = true ↔ x = .sender := by cases x <;> decide

end

/-- Settles O52: each clause is a row of the table. -/
theorem combinationFollowsTheTable : Obligations.CombinationFollowsTheTable := by
  intro first v
  simp only [← gives_iff]
  refine ⟨fun ha hb => ?_, fun l hl ho => ?_, fun ha hb => ?_⟩
  · rw [combine_bothGood ha hb, Bool.not_eq_false', sameWords_iff]
    exact ⟨rfl, rfl, rfl, .rfl⟩
  · rw [combine_oneGood hl ho]
    exact ⟨rfl, rfl, rfl, .rfl⟩
  · obtain ⟨hgood, hdisagree⟩ := combine_noGood_lanes (first := first) ha hb
    refine ⟨hgood, hdisagree, fun hna hnb => ?_, fun l hl ho => ?_, fun hna hnb => ?_⟩
    · rw [combine_noGood ha hb, if_pos ⟨hna, hnb⟩]
      exact ⟨rfl, rfl⟩
    · rw [combine_oneNull ha hb hl ho]
      exact ⟨rfl, rfl⟩
    · rw [combine_noMessage ha hb hna hnb]
      refine ⟨rfl, fun hsilent => if_pos ⟨quiet_iff.2 (hsilent .A), quiet_iff.2 (hsilent .B)⟩, fun l hc ho => ?_⟩
      refine ⟨if_neg fun hquiet => ho ?_, errorSet_low v, ?_⟩
      · cases l with
        | A => exact quiet_iff.1 hquiet.1 hc
        | B => exact quiet_iff.1 hquiet.2 hc
      · simp only [gives_iff]
        exact ⟨errorSet_getLsbD errorBit_timing, errorSet_getLsbD errorBit_check, errorSet_getLsbD errorBit_format,
          errorSet_getLsbD errorBit_sender⟩

end Sys2Proof.Machine
end

section
/-! The requests of the sporadic queue on a free handler: SPOST (R110, R111) and SCANCEL (R119). -/
namespace Sys2Proof.Machine

/-! ### The candidates for a ticket (R110) -/

/-- The search for a ticket stops at a candidate with only entries' tickets before it. -/
theorem freeTicket_passed (entries : List SporadicEntry) (passes c : Nat) :
    ∃ k ≤ passes, freeTicket entries passes c = nextTicket^[k] c ∧
      ∀ j < k, ∃ e ∈ entries, e.ticket = nextTicket^[j] c := by
  induction passes generalizing c with
  | zero => exact ⟨0, le_rfl, rfl, nofun⟩
  | succ passes ih =>
    unfold freeTicket
    split
    next hcarried =>
      obtain ⟨e, he, hticket⟩ := List.any_eq_true.1 hcarried
      obtain ⟨k, hk, hstop, hpassed⟩ := ih (nextTicket c)
      refine ⟨k + 1, Nat.succ_le_succ hk, hstop, fun j hj => ?_⟩
      cases j with
      | zero => exact ⟨e, he, beq_iff_eq.1 hticket⟩
      | succ j => exact hpassed j (Nat.lt_of_succ_lt_succ hj)
    next => exact ⟨0, Nat.zero_le _, rfl, nofun⟩

/-- The candidates after a ticket counter, where 65,535 is followed by 1. -/
theorem candidate_eq {counter : Nat} (h : counter ≤ 65535) (k : Nat) :
    nextTicket^[k] (nextTicket counter) = (counter + k) % 65535 + 1 := by
  rw [nextTicket_iterate (nextTicket_range counter), nextTicket]
  split <;> omega

/-- The ticket of a new entry is the first candidate that no entry carries, after at most one for each entry. -/
theorem newTicket_passed {q : SporadicQueue} (h : q.counter ≤ 65535) :
    ∃ k ≤ q.entries.length, q.newTicket = (q.counter + k) % 65535 + 1 ∧
      ∀ j < k, ∃ e ∈ q.entries, e.ticket = (q.counter + j) % 65535 + 1 := by
  simp only [← candidate_eq h]
  exact freeTicket_passed q.entries q.entries.length (nextTicket q.counter)

section
variable {tag : Byte} {s : State}

/-! ### SPOST (R111) -/

section
variable {p : List Byte}

theorem doSpost_badField {o : Nat} (h : postBad p = some o) : doSpost tag p s = answer tag .badField [byte o] s := by
  rw [doSpost, h]
  rfl

/-- Where the fields pass, the queue's room and then the buffer's kind and holder decide. -/
theorem doSpost_fields (h : postBad p = none) : doSpost tag p s =
    if 16 ≤ s.spor.entries.length then answer tag .full [] s
    else if !(bufferAt s (fieldAt p 0)).isSporadic then answer tag .wrongKind [] s
    else if isHeld s (fieldAt p 0) then answer tag .held [] s
    else answer tag .ok (number16 s.spor.newTicket) { s with spor := s.spor.post (postedEntry p s.spor.newTicket) } := by
  rw [doSpost, h]
  rfl

/-- Where the fields pass, they name a set of lanes. -/
theorem lanes_of_postBad (h : postBad p = none) : ∃ lanes, LaneSet.ofCode (fieldAt p 1) = some lanes := by
  have hall := firstBad_none h
  simp only [List.forall_mem_cons] at hall
  obtain ⟨-, hlanes, -⟩ := hall
  exact Option.isSome_iff_exists.1 hlanes

theorem postedEntry_eq {lanes : LaneSet} (h : LaneSet.ofCode (fieldAt p 1) = some lanes) (ticket : Nat) :
    postedEntry p ticket = ⟨ticket, fieldAt p 0, lanes, fieldAt p 2,
      if fieldAt p 3 = 255 then none else some (fieldAt p 3), fieldAt p 4, false⟩ := by
  rw [postedEntry, h, Option.getD_some]

end

/-! ### SCANCEL (R119) -/

/-- Among entries with different tickets, an entry is the one found by its ticket. -/
theorem find_ticket_of_nodup {q : SporadicQueue} {before after : List SporadicEntry} {e : SporadicEntry}
    (he : q.entries = before ++ e :: after) (hn : (q.entries.map SporadicEntry.ticket).Nodup) :
    q.find e.ticket = some e := by
  refine List.find?_eq_some_iff_append.2 ⟨beq_self_eq_true _, before, after, he, fun y hy => ?_⟩
  rw [he, List.map_append, List.map_cons] at hn
  obtain ⟨hnot, -⟩ := List.nodup_cons.1 (List.nodup_middle.1 hn)
  rw [Bool.not_eq_true', beq_eq_false_iff_ne]
  exact fun heq => hnot (heq ▸ List.mem_append_left _ (List.mem_map_of_mem hy))

section
variable {low high : Byte}

theorem doScancel_notFound (h : ∀ e ∈ s.spor.entries, e.ticket ≠ (high ++ low).toNat) :
    doScancel tag [low, high] s = answer tag .notFound [] s := by
  have hfind : s.spor.find (wordAt [low, high] 0).toNat = none :=
    List.find?_eq_none.2 fun e he heq => h e he (beq_iff_eq.1 heq)
  simp only [doScancel, hfind, refuse]

theorem doScancel_found {e : SporadicEntry} (h : s.spor.find e.ticket = some e) (ht : e.ticket = (high ++ low).toNat) :
    doScancel tag [low, high] s =
      if e.onAir then answer tag .tooLate [] s else answer tag .ok [] (removeTicket e.ticket s) := by
  have hticket : (wordAt [low, high] 0).toNat = e.ticket := ht.symm
  simp only [doScancel, hticket, h, refuse]

end

end

/-! ### O26, O27 -/

/-- Settles O26: each clause is one of the tests of SPOST, carried out at once; the ticket is where the search for it stops,
and it is no entry's because the queue has fewer entries than there are candidates. -/
theorem postAppends : Obligations.PostAppends := by
  rintro tag p s h hlen ⟨-, hcounter, -, -, -⟩
  have answers {q : List Byte} {r : Result} {spor : SporadicQueue}
      (hx : doSpost tag p (reserveFor [] s) = answer tag r q { reserveFor [] s with spor := spor }) :
      exec (.spost tag p) s = .next (replied tag r q { s with spor := spor }) :=
    ready_answer h .spost hlen (x := { s with spor := spor }) hx rfl rfl rfl
  refine ⟨fun o hbad => answers (doSpost_badField hbad), fun hfields => ?_⟩
  have hpost := doSpost_fields (tag := tag) (s := reserveFor [] s) hfields
  refine ⟨fun hfull => answers (hpost.trans (if_pos hfull.ge)), fun hroom => ?_⟩
  replace hpost := hpost.trans (if_neg (Nat.not_le.2 hroom))
  refine ⟨fun hkind => answers (hpost.trans (if_pos (congrArg Bool.not hkind))), fun hkind => ?_⟩
  replace hpost := hpost.trans (if_neg (Bool.eq_false_iff.1 (congrArg Bool.not hkind)))
  refine ⟨fun hheld => answers (hpost.trans (if_pos hheld)), fun hheld => ?_⟩
  replace hpost := hpost.trans (if_neg (Bool.eq_false_iff.1 hheld))
  obtain ⟨passed, hpassed, hticket, hcarried⟩ := newTicket_passed hcounter
  obtain ⟨lanes, hlanes⟩ := lanes_of_postBad hfields
  refine ⟨passed, s.spor.newTicket, lanes, hticket, by omega, hcarried, fun e he heq => ?_, hlanes, ?_⟩
  · exact newTicket_fresh hroom (List.mem_map.2 ⟨e, he, heq⟩)
  · rw [postedEntry_eq hlanes] at hpost
    exact answers hpost

/-- Settles O27: the entry with the ticket is the only one, so it is found, and removing its ticket removes it alone. -/
theorem cancelByTicket : Obligations.CancelByTicket := by
  rintro tag low high s h ⟨-, -, -, htickets, -⟩
  have answers {q : List Byte} {r : Result} {spor : SporadicQueue}
      (hx : doScancel tag [low, high] (reserveFor [] s) = answer tag r q { reserveFor [] s with spor := spor }) :
      exec (.scancel tag [low, high]) s = .next (replied tag r q { s with spor := spor }) :=
    ready_answer h .scancel rfl (x := { s with spor := spor }) hx rfl rfl rfl
  refine ⟨fun hnone => answers (doScancel_notFound hnone), fun before after e he ht => ?_⟩
  have hcancel := doScancel_found (tag := tag) (s := reserveFor [] s) (find_ticket_of_nodup he htickets) ht
  refine ⟨fun hair => answers (hcancel.trans (if_pos hair)), fun hqueued => ?_⟩
  have hremoved : removeTicket e.ticket (reserveFor [] s) =
      { reserveFor [] s with spor := { s.spor with entries := before ++ after } } := by
    rw [← filter_ticket_of_nodup he htickets]
    rfl
  rw [if_neg (Bool.eq_false_iff.1 hqueued), hremoved] at hcancel
  exact answers hcancel

end Sys2Proof.Machine
end

section
/-! The slot record queue and the notification unit as one invariant, and what filing, raising and composing keep of it. -/
namespace Sys2Proof.Machine

/-! ### Record numbers (R126) -/

/-- The numbers run without a break up to the next one, told record by record. -/
theorem numbered_iff {records : List Record} {next : Word} :
    records.map Record.number = (List.range records.length).map (fun i => next - BitVec.ofNat 16 (records.length - i)) ↔
      ∀ (i : Nat) (hi : i < records.length), records[i].number = next - BitVec.ofNat 16 (records.length - i) := by
  rw [List.ext_getElem_iff]
  simp

section
variable {q : RecordQueue}

/-- A record that finds room takes the next number (R126, R127). -/
theorem RecordsSound.insert (h : RecordsSound q) (hroom : q.records.length < 128) (r : Record) :
    RecordsSound { q with records := q.records ++ [{ r with number := q.next }], next := q.next + 1 } := by
  obtain ⟨-, hlost, hfull, hthreshold, hnumbers⟩ := h
  have hnone : q.lost = 0 := by omega
  rw [numbered_iff] at hnumbers
  refine ⟨by simp; omega, hlost, fun hpos => absurd hnone hpos.ne', hthreshold, numbered_iff.2 fun i hi => ?_⟩
  have hlen : (q.records ++ [{ r with number := q.next }]).length = q.records.length + 1 := List.length_append
  dsimp only at hi ⊢
  rw [hlen] at hi ⊢
  rcases Nat.lt_or_ge i q.records.length with hold | hnew
  · rw [List.getElem_append_left hold, hnumbers i hold, Nat.succ_sub hold.le]
    have hsucc : BitVec.ofNat 16 (q.records.length - i).succ = BitVec.ofNat 16 (q.records.length - i) + 1 :=
      BitVec.ofNat_add _ 1
    bv_omega
  · obtain rfl : i = q.records.length := by omega
    simp

/-- A record that finds no room is counted (R129). -/
theorem RecordsSound.lose (h : RecordsSound q) (hroom : ¬q.records.length < 128) :
    RecordsSound { q with lost := min 65535 (q.lost + 1) } := by
  obtain ⟨hlen, -, -, hthreshold, hnumbers⟩ := h
  exact ⟨hlen, Nat.min_le_left _ _, fun _ => by dsimp only; omega, hthreshold, hnumbers⟩

/-- With nothing lost any more, the oldest records may go (R131, R132). -/
theorem RecordsSound.drop (h : RecordsSound q) (k : Nat) {lost : Nat} (hlost : lost = 0) :
    RecordsSound { q with records := q.records.drop k, lost := lost } := by
  obtain ⟨hlen, -, -, hthreshold, hnumbers⟩ := h
  rw [numbered_iff] at hnumbers
  subst hlost
  refine ⟨?_, Nat.zero_le _, nofun, hthreshold, numbered_iff.2 fun i hi => ?_⟩
  · rw [List.length_drop]
    omega
  · rw [List.length_drop] at hi
    rw [List.getElem_drop, hnumbers (k + i) (by omega), List.length_drop, Nat.sub_sub]

end

/-! ### One group (R138 to R140) -/

/-- The kind number is one that the group defines, and names a bit of its sets (R137). -/
structure KindDefined (number kind : Nat) : Prop where
  bit : BitVec.twoPow 16 kind ≠ 0
  defined : BitVec.twoPow 16 kind &&& ~~~definedKinds number = 0

theorem event_kindDefined (e : Event) : KindDefined e.group e.number := by
  cases e with
  | laneChanged l | receiveError l | transmitFault l => cases l <;> exact ⟨by decide, by decide⟩
  | _ => exact ⟨by decide, by decide⟩

theorem KindDefined.joined {number kind : Nat} (h : KindDefined number kind) {w : Word}
    (hw : w &&& ~~~definedKinds number = 0) : (w ||| BitVec.twoPow 16 kind) &&& ~~~definedKinds number = 0 := by
  rw [BitVec.and_or_distrib_right, hw, h.defined]
  rfl

/-- An accumulation: its kinds are some that the group defines, and it counts 1 to 255 events (R138). -/
def AccumulationSound (number : Nat) (a : Accumulation) : Prop :=
  a.kinds ≠ 0 ∧ a.kinds &&& ~~~definedKinds number = 0 ∧ 1 ≤ a.count ∧ a.count ≤ 255

/-- The group holds an accumulation, and a sound one, exactly in PENDING and AWAITING_MORE (R138). -/
def HoldingSound (number : Nat) (g : Group) : Prop :=
  g.acc.isSome = (g.delivery == .pending || g.delivery == .awaitingMore) ∧ ∀ a ∈ g.acc, AccumulationSound number a

section
variable {number kind : Nat} {g : Group} {a : Accumulation}

theorem groupSound_iff : GroupSound number g ↔ g.level ≤ 7 ∧ g.enable &&& ~~~definedKinds number = 0 ∧
    g.seen &&& ~~~definedKinds number = 0 ∧ HoldingSound number g := Iff.rfl

theorem AccumulationSound.begun (hk : KindDefined number kind) (c : BitVec 6) (d : Detail) :
    AccumulationSound number (Accumulation.begun kind c d) := ⟨hk.bit, hk.defined, Nat.le_refl 1, Nat.le_add_left 1 254⟩

theorem AccumulationSound.join (h : AccumulationSound number a) (hk : KindDefined number kind) (c : BitVec 6) (d : Detail) :
    AccumulationSound number (a.join kind c d) := by
  obtain ⟨hsome, hkinds, -, -⟩ := h
  refine ⟨fun hzero => hsome (BitVec.or_eq_zero_iff.1 hzero).1, hk.joined hkinds, ?_, Nat.min_le_left _ _⟩
  simp only [Accumulation.join]
  omega

/-- A group that holds nothing holds nothing unsound. -/
theorem HoldingSound.empty (ha : g.acc = none) (hd : g.delivery = .idle ∨ g.delivery = .awaiting) : HoldingSound number g := by
  rw [HoldingSound, ha]
  refine ⟨?_, nofun⟩
  rcases hd with hd | hd <;> rw [hd] <;> rfl

theorem HoldingSound.full (ha : g.acc = some a) (hs : AccumulationSound number a)
    (hd : g.delivery = .pending ∨ g.delivery = .awaitingMore) : HoldingSound number g := by
  rw [HoldingSound, ha]
  refine ⟨?_, fun b hb => Option.some.inj hb ▸ hs⟩
  rcases hd with hd | hd <;> rw [hd] <;> rfl

/-- A PENDING or AWAITING_MORE group has an accumulation to join. -/
theorem HoldingSound.held (h : HoldingSound number g) (hd : g.delivery = .pending ∨ g.delivery = .awaitingMore) :
    ∃ a, g.acc = some a ∧ AccumulationSound number a := by
  obtain ⟨hacc, hsound⟩ := h
  have hsome : g.acc.isSome = true := by
    rw [hacc]
    rcases hd with hd | hd <;> rw [hd] <;> rfl
  obtain ⟨a, ha⟩ := Option.isSome_iff_exists.1 hsome
  exact ⟨a, ha, hsound a ha⟩

/-- An enabled event begins an accumulation or joins the one held, as the delivery state says (R140). -/
theorem HoldingSound.accumulate (h : HoldingSound number g) (hk : KindDefined number kind) (c : BitVec 6) (d : Detail) :
    HoldingSound number (g.accumulate kind c d) := by
  have hbegun := AccumulationSound.begun hk c d
  have joins (hd : g.delivery = .pending ∨ g.delivery = .awaitingMore) : HoldingSound number (g.accumulate kind c d) := by
    obtain ⟨a, ha, hs⟩ := h.held hd
    have heq : g.accumulate kind c d = { g with acc := some (a.join kind c d) } := by
      unfold Group.accumulate
      rcases hd with hd | hd <;> rw [hd, ha]
    rw [heq]
    exact .full rfl (hs.join hk c d) hd
  cases hd : g.delivery with
  | idle =>
    have heq : g.accumulate kind c d = { g with acc := some (.begun kind c d), delivery := .pending } := by
      rw [Group.accumulate, hd]
    rw [heq]
    exact .full rfl hbegun (.inl rfl)
  | awaiting =>
    have heq : g.accumulate kind c d = { g with acc := some (.begun kind c d), delivery := .awaitingMore } := by
      rw [Group.accumulate, hd]
    rw [heq]
    exact .full rfl hbegun (.inr rfl)
  | pending => exact joins (.inl hd)
  | awaitingMore => exact joins (.inr hd)

theorem accumulate_enable (g : Group) (kind : Nat) (c : BitVec 6) (d : Detail) :
    (g.accumulate kind c d).enable = g.enable := by
  unfold Group.accumulate
  split <;> rfl

/-- An event of a defined kind keeps its group sound (R139). -/
theorem GroupSound.accept (h : GroupSound number g) (hk : KindDefined number kind) (c : BitVec 6) (d : Detail) :
    GroupSound number (g.accept kind c d) := by
  obtain ⟨hlevel, henable, hseen, hholding⟩ := groupSound_iff.1 h
  have hmarked : HoldingSound number { g with seen := g.seen ||| BitVec.twoPow 16 kind } := hholding
  refine groupSound_iff.2 ⟨?_, ?_, ?_, ?_⟩
  · rw [accept_level]
    exact hlevel
  · unfold Group.accept
    dsimp only
    split
    · rw [accumulate_enable]
      exact henable
    · exact henable
  · rw [accept_seen]
    exact hk.joined hseen
  · unfold Group.accept
    dsimp only
    split
    · exact hmarked.accumulate hk c d
    · exact hmarked

end

/-! ### The ten groups (R137 to R146) -/

section
variable {n : Notifier} {i : Nat} {g : Group}

theorem GroupsSound.at (h : GroupsSound n) (hg : n.groups[i]? = some g) : GroupSound i g := by
  obtain ⟨hten, -, hall⟩ := h
  have hi : i < 10 := hten ▸ (List.getElem?_eq_some_iff.1 hg).1
  have hsound := hall i hi
  rwa [hg] at hsound

theorem GroupsSound.set (h : GroupsSound n) (hg : GroupSound i g) : GroupsSound { n with groups := n.groups.set i g } := by
  obtain ⟨hten, hmask, hall⟩ := h
  refine ⟨List.length_set.trans hten, hmask, fun j hj => ?_⟩
  by_cases hij : i = j
  · subst hij
    rwa [List.getElem?_set_self (hten.symm ▸ hj)]
  · rw [List.getElem?_set_ne hij]
    exact hall j hj

theorem GroupsSound.accept (h : GroupsSound n) (e : Event) (c : BitVec 6) (d : Detail) : GroupsSound (n.accept e c d) := by
  unfold Notifier.accept
  split
  next g hg => exact h.set ((h.at hg).accept (event_kindDefined e) c d)
  next => exact h

theorem GroupsSound.reset : GroupsSound Notifier.reset := by
  refine ⟨List.length_replicate, Nat.zero_le 7, fun i hi => ?_⟩
  have hgroup : Notifier.reset.groups[i]? = some Group.reset := by
    rw [Notifier.reset, List.getElem?_replicate]
    exact if_pos hi
  rw [hgroup]
  exact groupSound_iff.2 ⟨Nat.zero_le 7, BitVec.zero_and, BitVec.zero_and, .empty rfl (.inl rfl)⟩

theorem RecordsSound.reset : RecordsSound RecordQueue.reset := by decide

end

/-! ### What the part reports -/

/-- The slot record queue and the notification unit. -/
structure Reports where
  recs : RecordQueue
  notif : Notifier

/-- What the state holds for the host to learn. -/
def State.reports (s : State) : Reports := ⟨s.recs, s.notif⟩

/-- The record queue and the notification unit are sound (R126, R129, R138). -/
structure ReportsSound (s : State) : Prop where
  records : RecordsSound s.recs
  groups : GroupsSound s.notif

section
variable {s t : State}

theorem ReportsSound.of_inv (h : Inv s) : ReportsSound s := ⟨h.records, h.groups⟩

/-- A change that leaves both alone. Where the goal tells the new state, `(by rfl)` waits for it. -/
theorem ReportsSound.of_reports (h : ReportsSound s) (ht : t.reports = s.reports) : ReportsSound t := by
  obtain ⟨hrecords, hgroups⟩ := Reports.mk.inj ht
  exact ⟨hrecords ▸ h.records, hgroups ▸ h.groups⟩

/-- A reset empties the queue and clears every group (R165). -/
theorem ReportsSound.of_reset (ht : t.reports = State.held.reports) : ReportsSound t :=
  ReportsSound.of_reports (s := State.held) ⟨.reset, .reset⟩ ht

/-! ### Raising and filing (R126 to R146) -/

theorem ReportsSound.compose (h : ReportsSound s) : ReportsSound (compose s) := by
  unfold Machine.compose
  split
  next i g hc =>
    obtain ⟨-, hg, -⟩ := chooseGroup_some (Notifier.chosen.eq_1 _ ▸ hc)
    obtain ⟨hlevel, henable, hseen, -⟩ := groupSound_iff.1 (h.groups.at hg)
    exact ⟨h.records, h.groups.set (groupSound_iff.2 ⟨hlevel, henable, hseen, .empty rfl (.inr rfl)⟩)⟩
  next => exact h

theorem ReportsSound.composeAll (h : ReportsSound s) : ReportsSound (composeAll s) := by
  have once {x : State} (hx : ReportsSound x) : ReportsSound (if arbiterReady x then Machine.compose x else x) := by
    split
    · exact hx.compose
    · exact hx
  exact once (once h)

theorem ReportsSound.raise (h : ReportsSound s) (e : Event) (d : Detail) : ReportsSound (raise e d s) := by
  have haccept : ReportsSound { s with notif := s.notif.accept e s.tb.cycle d } :=
    ⟨h.records, h.groups.accept e s.tb.cycle d⟩
  unfold Machine.raise
  dsimp only
  split_ifs
  · exact (haccept.of_reports (by rfl)).composeAll
  · exact haccept.of_reports rfl
  · exact haccept

theorem ReportsSound.insertRecord (h : ReportsSound s) (hroom : s.recs.records.length < 128) (r : Record) :
    ReportsSound (insertRecord r s) := by
  have hinserted : ReportsSound { s with recs := { s.recs with
      records := s.recs.records ++ [{ r with number := s.recs.next }], next := s.recs.next + 1 } } :=
    ⟨h.records.insert hroom r, h.groups⟩
  unfold Machine.insertRecord
  dsimp only
  split
  · exact hinserted.raise _ _
  · exact hinserted

theorem ReportsSound.fileRecord (h : ReportsSound s) (r : Record) : ReportsSound (fileRecord r s) := by
  unfold Machine.fileRecord
  dsimp only
  split
  next hroom => exact h.insertRecord hroom r
  next hroom =>
    have hlost : ReportsSound { s with recs := { s.recs with lost := min 65535 (s.recs.lost + 1) } } :=
      ⟨h.records.lose hroom, h.groups⟩
    split
    · exact hlost.raise _ _
    · exact hlost

end

end Sys2Proof.Machine
end

section
/-! The operations that lanes, windows, launches and the timebase share keep the record queue and the notification unit sound:
what they tell the host, they tell by filing records and raising events. -/
namespace Sys2Proof.Machine

section
variable {s : State}

/-! ### Operations that report nothing -/

theorem answerDeferred_reports (kind : DeferredKind) (r : Result) (s : State) :
    (answerDeferred kind r s).reports = s.reports := by
  obtain ⟨tag, -, h⟩ | ⟨-, h⟩ := answerDeferred_cases kind r s
  · rw [h]
    rfl
  · rw [h]

theorem cutLaunch_reports (lanes : LaneSet) (s : State) : (cutLaunch lanes s).reports = s.reports := by
  rcases cutLaunch_cases lanes s with ⟨-, h⟩ | ⟨x, -, ⟨-, h⟩ | ⟨-, h⟩⟩
  · rw [h]
  · rw [h]
    rfl
  · rw [h]
    rfl

theorem laneLeaves_reports (l : Lane) (s : State) : (laneLeaves l s).reports = s.reports := cutLaunch_reports _ s

theorem launchBeacon_reports (lanes : LaneSet) (s : State) : (launchBeacon lanes s).reports = s.reports := by
  unfold launchBeacon
  split <;> rfl

theorem pass_reports (elapsed : Nat) (s : State) : (pass elapsed s).reports = s.reports := by
  unfold pass
  split <;> rfl

theorem endPulse_reports (m : Nat) (s : State) : (endPulse m s).reports = s.reports := by
  unfold endPulse
  dsimp only
  split_ifs <;> rfl

theorem microtick_reports (s : State) : (microtick s).reports = s.reports := by
  unfold microtick
  split_ifs <;> rfl

theorem closeWindow_reports (s : State) : (closeWindow s).reports = s.reports := by
  unfold closeWindow
  split
  · split <;> rfl
  · rfl

/-! ### Lanes (R91 to R98, R106) -/

theorem ReportsSound.changeLane (h : ReportsSound s) (l : Lane) (cause : LaneCause) (u : LaneUnit) :
    ReportsSound (changeLane l cause u s) :=
  ReportsSound.raise (s := { s with lanes := s.lanes.set l u }) (h.of_reports (by rfl)) _ _

theorem ReportsSound.faultLane (h : ReportsSound s) (l : Lane) (cause : LaneCause) : ReportsSound (faultLane l cause s) :=
  (h.of_reports (laneLeaves_reports l s)).changeLane l cause _

theorem ReportsSound.enterProbation (h : ReportsSound s) (l : Lane) (cause : LaneCause) :
    ReportsSound (enterProbation l cause s) :=
  ReportsSound.changeLane (s := { s with rx := s.rx.update l (Receiver.listen s.now) }) (h.of_reports (by rfl)) l cause _

theorem ReportsSound.promoteLane (h : ReportsSound s) (l : Lane) : ReportsSound (promoteLane l s) := h.changeLane l _ _

theorem ReportsSound.chargeLane (h : ReportsSound s) (l : Lane) (amount : Nat) {report : Nat → State → State}
    (hr : ∀ d {x : State}, ReportsSound x → ReportsSound (report d x)) : ReportsSound (chargeLane l amount report s) := by
  unfold Machine.chargeLane
  dsimp only
  split
  · exact (hr _ (h.of_reports (by rfl))).faultLane l _
  · exact hr _ (h.of_reports (by rfl))

theorem ReportsSound.gradeOutcome (h : ReportsSound s) (l : Lane) (o : Outcome) (proved : Bool) (position : Option Nat)
    (cycle : BitVec 6) : ReportsSound (gradeOutcome l o proved position cycle s) := by
  have reports (d : Nat) {x : State} (hx : ReportsSound x) : ReportsSound (reportReceiveError l o position cycle d x) :=
    hx.raise _ _
  unfold Machine.gradeOutcome
  split
  · split_ifs
    · exact h.of_reports rfl
    · exact h.chargeLane l 2 reports
    · exact h.chargeLane l 2 fun _ _ hx => hx
    · exact h
  · split_ifs
    · exact h.of_reports rfl
    · exact (reports _ h).faultLane l _
    · exact h
  · exact h
  · exact h

theorem ReportsSound.gradeEcho (h : ReportsSound s) (l : Lane) (o : Outcome) (k : LaunchKind) (position : Option Nat)
    (cycle : BitVec 6) : ReportsSound (gradeEcho l o k position cycle s) := by
  unfold Machine.gradeEcho
  split_ifs
  · exact h.of_reports rfl
  · exact h.chargeLane l 4 (report := reportTransmitFault l k position cycle) fun _ _ hx => hx.raise _ _
  · exact h
  · exact h

theorem ReportsSound.gradeEchoes (h : ReportsSound s) (k : LaunchKind) (position : Option Nat) (cycle : BitVec 6)
    (o : PerLane Outcome) : ReportsSound (gradeEchoes k position cycle o s) :=
  (h.gradeEcho .A o.a k position cycle).gradeEcho .B o.b k position cycle

theorem ReportsSound.laneCycleStart (h : ReportsSound s) (l : Lane) : ReportsSound (laneCycleStart l s) := by
  have hunit (u : LaneUnit) : ReportsSound (setUnit l u s) := h.of_reports rfl
  cases hu : (s.lanes.get l).state with
  | faulted =>
    rw [laneCycleStart_faulted hu]
    split
    · exact (hunit _).enterProbation l _
    · exact hunit _
  | probation =>
    rw [laneCycleStart_probation hu]
    split
    · exact (hunit _).promoteLane l
    · exact hunit _
  | active =>
    rw [laneCycleStart_other (.inl hu)]
    exact h
  | disabled =>
    rw [laneCycleStart_other (.inr hu)]
    exact h

/-! ### The commit and the sporadic queue (R52, R118, R122) -/

theorem ReportsSound.settleCommit (h : ReportsSound s) (cause : CommitCause) : ReportsSound (settleCommit cause s) := by
  unfold Machine.settleCommit
  split
  · exact (h.of_reports (t := answerDeferred .tcommit .ok (copyEdit s)) (answerDeferred_reports _ _ _)).raise _ _
  · exact h

theorem ReportsSound.expireEntry (h : ReportsSound s) (e : SporadicEntry) : ReportsSound (expireEntry e s) :=
  (ReportsSound.fileRecord (s := removeTicket e.ticket s) (h.of_reports (by rfl)) _).raise _ _

theorem ReportsSound.raiseQueueEmpty (h : ReportsSound s) (ticket : Nat) (cause : Byte) (cycle : BitVec 6) :
    ReportsSound (raiseQueueEmpty ticket cause cycle s) := by
  unfold Machine.raiseQueueEmpty
  split
  · exact h.raise _ _
  · exact h

theorem ReportsSound.expireAll (h : ReportsSound s) (gone : List SporadicEntry) :
    ReportsSound (gone.foldl (fun t e => Machine.expireEntry e t) s) := by
  induction gone generalizing s with
  | nil => exact h
  | cons e rest ih => exact ih (h.expireEntry e)

theorem ReportsSound.expireDue (h : ReportsSound s) : ReportsSound (expireDue s) := by
  unfold Machine.expireDue
  split
  · exact h
  · exact (h.expireAll _).raiseQueueEmpty _ _ _

theorem ReportsSound.blockReactions (h : ReportsSound s) : ReportsSound (blockReactions s) := by
  have hcommitted := h.settleCommit .cycleStart
  have haged : ReportsSound (ageBuffers (Machine.settleCommit .cycleStart s)) := hcommitted.of_reports rfl
  have hlanes := (haged.laneCycleStart .A).laneCycleStart .B
  exact ReportsSound.expireDue (hlanes.of_reports (by rfl))

/-! ### Windows (R58, R61, R63, R90) -/

theorem ReportsSound.logRecord (h : ReportsSound s) (logged : Bool) (r : Record) :
    ReportsSound (if logged then Machine.fileRecord r s else s) := by
  split
  · exact h.fileRecord r
  · exact h

theorem ReportsSound.openSend (h : ReportsSound s) (position : Nat) (e : Entry) : ReportsSound (openSend position e s) := by
  have hopen (role : WindowRole) : ReportsSound (openWindow position e role s) := h.of_reports rfl
  unfold Machine.openSend
  dsimp only
  split
  · exact hopen _
  · split
    · exact ((hopen _).raise _ _).logRecord _ _
    · split
      · unfold launchSend
        dsimp only
        split
        · exact ReportsSound.raise (h.of_reports (by rfl)) _ _
        · exact h.of_reports rfl
      · exact hopen _

theorem ReportsSound.openOpen (h : ReportsSound s) (position : Nat) (e : Entry) : ReportsSound (openOpen position e s) := by
  unfold Machine.openOpen
  split
  · exact h.of_reports rfl
  · split <;> exact h.of_reports rfl

theorem ReportsSound.carrierStart (h : ReportsSound s) (l : Lane) (offset : Nat) : ReportsSound (carrierStart l offset s) := by
  unfold Machine.carrierStart
  split
  · split
    · exact (ReportsSound.fileRecord (h.of_reports (by rfl)) _).raise _ _
    · exact h
  · exact h

theorem ReportsSound.reportDisagree (h : ReportsSound s) (w : Window) (c : Combined) :
    ReportsSound (reportDisagree w c s) := by
  unfold Machine.reportDisagree
  split
  · exact h.raise _ _
  · exact h

theorem ReportsSound.applyToBuffer (h : ReportsSound s) (w : Window) (c : Combined) (f : Facts) :
    ReportsSound (applyToBuffer w c f s) := by
  unfold Machine.applyToBuffer
  split
  · exact h
  · split
    · dsimp only
      split
      · exact (h.raise .receiveOverrun _).of_reports rfl
      · exact h.of_reports rfl
    · exact h.of_reports rfl
    · exact h
    · exact h

theorem ReportsSound.reportAlarm (h : ReportsSound s) (w : Window) (c : Combined) (v : PerLane LaneView) :
    ReportsSound (reportAlarm w c v s) := by
  unfold Machine.reportAlarm
  split
  · split
    · exact h.raise _ _
    · exact h.raise _ _
    · exact h
    · exact h
  · exact h

theorem ReportsSound.endExpect (h : ReportsSound s) (w : Window) (a b : List Heard) : ReportsSound (endExpect w a b s) := by
  have hclosed : ReportsSound (closeHeard w a b s) := h.of_reports rfl
  have hgraded (v : PerLane LaneView) : ReportsSound (gradeWindow w v (closeHeard w a b s)) :=
    (hclosed.gradeOutcome _ _ _ _ _).gradeOutcome _ _ _ _ _
  exact ((((hgraded _).reportDisagree _ _).applyToBuffer _ _ _).logRecord _ _).reportAlarm _ _ _

theorem ReportsSound.closeExpect (h : ReportsSound s) (a b : List Heard) : ReportsSound (closeExpect a b s) := by
  unfold Machine.closeExpect
  split
  · split
    · exact ReportsSound.endExpect (h.of_reports (by rfl)) _ a b
    · exact h
  · exact h

theorem ReportsSound.windowStart (h : ReportsSound s) {role : EntryRole} {start : Nat → Entry → State → State}
    (hs : ∀ {x : State}, ReportsSound x → ∀ position e, ReportsSound (start position e x)) (position : Nat) :
    ReportsSound (windowStart role start position s) := by
  unfold Machine.windowStart
  split
  next e _ => exact hs (x := passTo e.start s) (h.of_reports (by rfl)) position e
  next => exact h

/-! ### Launch ends (R59, R115, R26) -/

section
variable (x : Launch) (a b : Echo)

theorem ReportsSound.endSend (h : ReportsSound s) : ReportsSound (endSend x a b s) := by
  have hgraded (position : Option Nat) (o : PerLane Outcome) :
      ReportsSound (Machine.gradeEchoes .send position x.cycle o (endLaunch x s)) :=
    ReportsSound.gradeEchoes (h.of_reports (by rfl)) _ _ _ _
  unfold Machine.endSend
  dsimp only
  split
  · exact (hgraded _ _).logRecord _ _
  · exact hgraded _ _

theorem ReportsSound.endSporadic (h : ReportsSound s) : ReportsSound (endSporadic x a b s) := by
  have hgraded (position : Option Nat) (o : PerLane Outcome) :
      ReportsSound (Machine.gradeEchoes .sporadic position x.cycle o (endLaunch x s)) :=
    ReportsSound.gradeEchoes (h.of_reports (by rfl)) _ _ _ _
  unfold Machine.endSporadic
  dsimp only
  split
  next w y _ _ =>
    have hremoved (t : State) (ht : ReportsSound t) : ReportsSound (removeTicket y.ticket t) := ht.of_reports rfl
    exact (((hremoved _ (hgraded _ _)).fileRecord _).raise _ _).raiseQueueEmpty _ _ _
  next => exact hgraded _ _

theorem ReportsSound.endBeacon (h : ReportsSound s) : ReportsSound (endBeacon x a b s) :=
  ReportsSound.gradeEchoes (s := releaseLaunch x s) (h.of_reports (by rfl)) _ _ _ _

end

theorem ReportsSound.launchEnd (h : ReportsSound s) {kind : LaunchKind} {stop : Launch → State → State}
    (hs : ∀ {x : State}, ReportsSound x → ∀ l, ReportsSound (stop l x)) : ReportsSound (launchEnd kind stop s) := by
  unfold Machine.launchEnd
  split
  next l _ =>
    split
    · exact hs (x := passTo l.ends s) (h.of_reports (by rfl)) l
    · exact h
  next => exact h

/-! ### The timebase (R18 to R38) -/

theorem ReportsSound.changeSync (h : ReportsSound s) (new : Sync) : ReportsSound (changeSync new s) :=
  ReportsSound.raise (s := setTimebase { s.tb with sync := new } s) (h.of_reports (by rfl)) _ _

theorem ReportsSound.cycleStartEvent (h : ReportsSound s) (first : Promotions) : ReportsSound (cycleStartEvent first s) := by
  have hbegun : ReportsSound (beginCycle s) := h.of_reports rfl
  exact hbegun.blockReactions.of_reports (launchBeacon_reports _ _)

theorem ReportsSound.hardAlign (h : ReportsSound s) (number : BitVec 6) : ReportsSound (hardAlign number s) := by
  have hcut : ReportsSound (cutLaunch LaneSet.both s) := h.of_reports (cutLaunch_reports _ s)
  unfold Machine.hardAlign
  dsimp only
  split
  · exact ReportsSound.blockReactions (hcut.of_reports (by rfl))
  · exact h.of_reports rfl

theorem ReportsSound.alignAndAcquire (h : ReportsSound s) (number : BitVec 6) : ReportsSound (alignAndAcquire number s) :=
  (h.hardAlign number).changeSync _

theorem ReportsSound.conflictInListen (h : ReportsSound s) (l : Lane) (number : BitVec 6) (sender : Nat) :
    ReportsSound (conflictInListen l number sender s) := by
  have hdemoted : ReportsSound (demote (setTimebase { s.tb with startupListen := none } s)) := h.of_reports rfl
  exact ((hdemoted.raise _ _).alignAndAcquire number).of_reports (answerDeferred_reports _ _ _)

theorem ReportsSound.conflictInLocked (h : ReportsSound s) (l : Lane) (number : BitVec 6) (sender : Nat) :
    ReportsSound (conflictInLocked l number sender s) := by
  have hdemoted : ReportsSound (demote (cutLaunch LaneSet.both s)) := h.of_reports (cutLaunch_reports _ s)
  exact (hdemoted.raise _ _).alignAndAcquire number

theorem ReportsSound.realignFromHoldover (h : ReportsSound s) (number : BitVec 6) :
    ReportsSound (realignFromHoldover number s) := by
  have hcut : ReportsSound (cutLaunch LaneSet.both (setTimebase { s.tb with sync := .acquire } s)) :=
    h.of_reports (cutLaunch_reports _ _)
  exact (hcut.hardAlign number).raise _ _

theorem ReportsSound.correct (h : ReportsSound s) (e : Int) (number : BitVec 6) (l : Lane) (sender : Nat) :
    ReportsSound (correct e number l sender s) := by
  unfold Machine.correct
  dsimp only
  split
  · exact h.of_reports rfl
  · exact ReportsSound.raise (h.of_reports (by rfl)) _ _

theorem ReportsSound.actOnBeacon (h : ReportsSound s) (l : Lane) (stamp : Stamp) (number : BitVec 6) (sender : Nat) :
    ReportsSound (actOnBeacon l stamp number sender s) := by
  have hcorrected := h.correct (phaseError s stamp) number l sender
  unfold Machine.actOnBeacon
  cases s.tb.sync with
  | offline => exact h
  | listen =>
    dsimp only
    split
    · exact h.conflictInListen l number sender
    · exact h.alignAndAcquire number
  | acquire =>
    dsimp only
    split
    · exact hcorrected.changeSync _
    · exact h.hardAlign number
  | locked =>
    dsimp only
    split_ifs
    · exact h.conflictInLocked l number sender
    · exact hcorrected
    · exact h.raise _ _
  | holdover =>
    dsimp only
    split
    · exact ReportsSound.changeSync (hcorrected.of_reports (by rfl)) _
    · exact h.realignFromHoldover number

theorem ReportsSound.freeMessage (h : ReportsSound s) (l : Lane) (stamp : Stamp) (m : Message) :
    ReportsSound (freeMessage l stamp m s) := by
  have hgraded (o : Outcome) : ReportsSound (gradeBeacon l o s) := h.gradeOutcome _ _ _ _ _
  unfold Machine.freeMessage
  split
  next =>
    unfold takeBeacon
    dsimp only
    split
    · exact hgraded .good
    · exact ReportsSound.actOnBeacon ((hgraded .good).of_reports (by rfl)) l stamp _ _
  next o _ _ => exact hgraded o
  next => exact h

theorem ReportsSound.fallToListen (h : ReportsSound s) : ReportsSound (fallToListen s) := by
  have hcut : ReportsSound (cutLaunch LaneSet.both s) := h.of_reports (cutLaunch_reports _ s)
  unfold Machine.fallToListen
  exact (ReportsSound.raise (hcut.of_reports (by rfl)) _ _).settleCommit _

theorem ReportsSound.missedBeacon (h : ReportsSound s) : ReportsSound (missedBeacon s) := by
  have hmissed (tb : Timebase) : ReportsSound (raiseBeaconMissed (setTimebase tb s)) :=
    ReportsSound.raise (h.of_reports (by rfl)) _ _
  unfold Machine.missedBeacon
  split
  · exact h.fallToListen
  · exact (hmissed _).raise _ _
  · dsimp only
    split
    · exact (hmissed _).fallToListen
    · exact hmissed _
  · exact h
  · exact h

theorem ReportsSound.meetDeadline (h : ReportsSound s) : ReportsSound (meetDeadline s) := by
  unfold Machine.meetDeadline
  dsimp only
  split
  · exact h.of_reports rfl
  · exact ReportsSound.missedBeacon (h.of_reports (by rfl))

theorem ReportsSound.expireListen (h : ReportsSound s) (moment : Nat) : ReportsSound (expireListen moment s) := by
  have hlocked : ReportsSound (Machine.changeSync .locked
      { s with now := max s.now moment, tb := { s.tb with startupListen := none } }) :=
    ReportsSound.changeSync (h.of_reports (by rfl)) _
  exact hlocked.of_reports ((answerDeferred_reports _ _ _).trans (launchBeacon_reports _ _))

theorem ReportsSound.startPart (h : ReportsSound s) : ReportsSound (startPart s) := by
  have hlisten : ReportsSound (Machine.changeSync .listen
      (setTimebase { s.tb with role := s.cfg.role } (receivers LaneSet.both (Receiver.listen s.now) s))) :=
    ReportsSound.changeSync (h.of_reports (by rfl)) _
  unfold Machine.startPart
  dsimp only
  split
  · exact hlisten.of_reports rfl
  · exact hlisten

theorem ReportsSound.stopPart (h : ReportsSound s) : ReportsSound (stopPart s) := by
  have hcut : ReportsSound (cutLaunch LaneSet.both s) := h.of_reports (cutLaunch_reports _ s)
  unfold Machine.stopPart
  exact ((ReportsSound.raise (hcut.of_reports (by rfl)) _ _).settleCommit _).of_reports (answerDeferred_reports _ _ _)

end

end Sys2Proof.Machine
end

section
/-! Requests, the handler, the arbiter and the link, and with them every command and every step, keep the record queue and the
notification unit sound (O59). -/
namespace Sys2Proof.Machine

section
variable {s t : State}

/-! ### Requests of the other blocks (R156 to R159, R50 to R54, R101, R102) -/

theorem ReportsSound.doStart (h : ReportsSound s) (tag : Byte) : ReportsSound (doStart tag s) := by
  unfold Machine.doStart
  split_ifs
  · exact h.of_reports rfl
  · exact h.of_reports rfl
  · exact h.startPart.of_reports rfl
  · exact h.startPart.of_reports rfl

theorem ReportsSound.doStop (h : ReportsSound s) (tag : Byte) : ReportsSound (doStop tag s) := by
  unfold Machine.doStop
  split
  · exact h.of_reports rfl
  · exact h.stopPart.of_reports rfl

theorem ReportsSound.doTcommit (h : ReportsSound s) (tag : Byte) : ReportsSound (doTcommit tag s) := by
  unfold Machine.doTcommit
  split
  · exact h.of_reports rfl
  · split
    · exact h.of_reports rfl
    · split
      · exact h.of_reports rfl
      · exact ReportsSound.raise (h.of_reports (by rfl)) _ _

theorem ReportsSound.doTcancel (h : ReportsSound s) (tag : Byte) : ReportsSound (doTcancel tag s) := by
  have hcancelled : ReportsSound (answerDeferred .tcommit .cancelled (uncommitted s)) :=
    h.of_reports (answerDeferred_reports _ _ _)
  unfold Machine.doTcancel
  split
  · exact ReportsSound.raise (hcancelled.of_reports (by rfl)) _ _
  · exact h.of_reports rfl

theorem ReportsSound.doLset (h : ReportsSound s) (tag : Byte) (p : List Byte) : ReportsSound (doLset tag p s) := by
  have hdisable (l : Lane) : ReportsSound (laneDisable tag l s) := by
    have hleft : ReportsSound (laneLeaves l s) := h.of_reports (laneLeaves_reports l s)
    unfold laneDisable
    dsimp only
    split
    · exact h.of_reports rfl
    · exact ReportsSound.changeLane (hleft.of_reports (by rfl)) l _ _
  have henable (l : Lane) : ReportsSound (laneEnable tag l s) := by
    unfold laneEnable
    dsimp only
    split
    · exact ReportsSound.enterProbation (h.of_reports (by rfl)) l _
    · exact h.of_reports rfl
  have hclear (l : Lane) : ReportsSound (laneClear tag l s) := by
    unfold laneClear
    split <;> exact h.of_reports rfl
  unfold Machine.doLset
  split
  · exact h.of_reports rfl
  · split_ifs
    · exact hdisable _
    · exact henable _
    · exact hclear _
    · exact h.of_reports rfl

/-! ### Requests of the record queue (R131, R132, R134) -/

theorem ReportsSound.doRdrop (h : ReportsSound s) (tag : Byte) (p : List Byte) : ReportsSound (doRdrop tag p s) := by
  unfold Machine.doRdrop
  dsimp only
  split
  next hk =>
    simp only [within, Bool.and_eq_true, decide_eq_true_eq] at hk
    obtain ⟨⟨hpos, -⟩, hle⟩ := hk
    split
    next hlost =>
      have hdropped : ReportsSound (dropRecords (fieldAt p 0) s) := ⟨h.records.drop (fieldAt p 0) hlost, h.groups⟩
      exact hdropped.of_reports rfl
    next =>
      have hdropped : ReportsSound { s with recs :=
          { s.recs with records := s.recs.records.drop (fieldAt p 0), lost := 0 } } :=
        ⟨h.records.drop (fieldAt p 0) rfl, h.groups⟩
      have hroom : (s.recs.records.drop (fieldAt p 0)).length < 128 := by
        obtain ⟨hlen, -⟩ := h.records
        rw [List.length_drop]
        omega
      exact (hdropped.insertRecord hroom _).of_reports rfl
  next => exact h.of_reports rfl

theorem ReportsSound.doRthresh (h : ReportsSound s) (tag : Byte) (p : List Byte) : ReportsSound (doRthresh tag p s) := by
  unfold Machine.doRthresh
  split
  next hk =>
    simp only [within, Bool.and_eq_true, decide_eq_true_eq] at hk
    obtain ⟨hlen, hlost, hfull, -, hnumbers⟩ := h.records
    exact ⟨⟨hlen, hlost, hfull, hk, hnumbers⟩, h.groups⟩
  next => exact h.of_reports rfl

/-! ### Requests of the notification unit (R147 to R151) -/

theorem ReportsSound.groupAt (h : ReportsSound s) {i : Nat} (hi : i < 10) : GroupSound i (groupAt s i) := by
  obtain ⟨-, -, hall⟩ := h.groups
  exact hall i hi

theorem ReportsSound.setGroup (h : ReportsSound s) {i : Nat} {g : Group} (hg : GroupSound i g) :
    ReportsSound (setGroup i g s) := ⟨h.records, h.groups.set hg⟩

theorem ReportsSound.doGset (h : ReportsSound s) (tag : Byte) (p : List Byte) : ReportsSound (doGset tag p s) := by
  unfold Machine.doGset
  split
  next => exact h.of_reports rfl
  next hbad =>
    have hall := firstBad_none hbad
    simp only [List.forall_mem_cons, within, Bool.and_eq_true, decide_eq_true_eq] at hall
    obtain ⟨⟨-, hnumber⟩, ⟨-, hlevel⟩, henable, -⟩ := hall
    obtain ⟨-, -, hseen, hholding⟩ := groupSound_iff.1 (h.groupAt (Nat.lt_succ_of_le hnumber))
    have hset : GroupSound (fieldAt p 0)
        { Machine.groupAt s (fieldAt p 0) with level := fieldAt p 1, enable := wordAt p 2 } :=
      groupSound_iff.2 ⟨hlevel, henable, hseen, hholding⟩
    exact (h.setGroup hset).of_reports rfl

theorem ReportsSound.doNmask (h : ReportsSound s) (tag : Byte) (p : List Byte) : ReportsSound (doNmask tag p s) := by
  unfold Machine.doNmask
  split
  next => exact h.of_reports rfl
  next hmask =>
    obtain ⟨hten, -, hall⟩ := h.groups
    exact ⟨h.records, hten, Nat.le_of_not_lt hmask, hall⟩

/-- A NACK lets what was held meanwhile become PENDING (R147). -/
theorem GroupSound.acknowledged {i : Nat} {g x : Group} (h : GroupSound i g) (hx : g.acknowledged = some x) :
    GroupSound i x := by
  obtain ⟨hlevel, henable, hseen, hholding⟩ := groupSound_iff.1 h
  unfold Group.acknowledged at hx
  split at hx
  next hd =>
    obtain rfl := Option.some.inj hx
    obtain ⟨hacc, -⟩ := hholding
    have hnone : g.acc = none := by
      rw [hd] at hacc
      exact Option.not_isSome_iff_eq_none.1 (Bool.eq_false_iff.1 hacc)
    exact groupSound_iff.2 ⟨hlevel, henable, hseen, .empty hnone (.inl rfl)⟩
  next hd =>
    obtain rfl := Option.some.inj hx
    obtain ⟨a, ha, hs⟩ := hholding.held (.inr hd)
    exact groupSound_iff.2 ⟨hlevel, henable, hseen, .full ha hs (.inl rfl)⟩
  next => cases hx
  next => cases hx

theorem ReportsSound.doNack (h : ReportsSound s) (tag : Byte) (p : List Byte) : ReportsSound (doNack tag p s) := by
  unfold Machine.doNack
  dsimp only
  split
  next => exact h.of_reports rfl
  next hnumber =>
    split
    · split
      next x hx => exact (h.setGroup ((h.groupAt (by omega)).acknowledged hx)).of_reports rfl
      next => exact h.of_reports rfl
    · exact h.of_reports rfl

theorem ReportsSound.doEvread (h : ReportsSound s) (tag : Byte) (p : List Byte) : ReportsSound (doEvread tag p s) := by
  unfold Machine.doEvread
  dsimp only
  split
  next => exact h.of_reports rfl
  next hnumber =>
    obtain ⟨hlevel, henable, -, hholding⟩ := groupSound_iff.1 (h.groupAt (i := fieldAt p 0) (by omega))
    have hset : GroupSound (fieldAt p 0) { Machine.groupAt s (fieldAt p 0) with seen := 0 } :=
      groupSound_iff.2 ⟨hlevel, henable, BitVec.zero_and, hholding⟩
    exact (h.setGroup hset).of_reports rfl

/-- The requests that report nothing. -/
theorem carryOut_reports {c : Code} (hc : c ∉ [Code.start, .stop, .reset, .tcommit, .tcancel, .lset, .rdrop, .rthresh, .gset,
    .nmask, .nack, .evread]) (tag : Byte) (p : List Byte) (s : State) : (carryOut c tag p s).reports = s.reports := by
  cases c with
  | start | stop | reset | tcommit | tcancel | lset | rdrop | rthresh | gset | nmask | nack | evread => simp at hc
  | ident | cfgget | stat | lstat | slist => rfl
  | config =>
    simp only [carryOut, doConfig]
    repeat' split
    all_goals rfl
  | eput | edel | eget | tclr | tload | tchk =>
    simp only [carryOut, doEput, doEdel, doEget, doTclr, doTload, doTchk]
    repeat' split
    all_goals rfl
  | bsetup | bwrite | bread | bstat =>
    simp only [carryOut, doBsetup, doBwrite, doBread, doBstat]
    repeat' split
    all_goals rfl
  | spost | scancel | rfetch =>
    simp only [carryOut, doSpost, doScancel, doRfetch]
    repeat' split
    all_goals rfl

theorem ReportsSound.carryOut (h : ReportsSound s) (c : Code) (tag : Byte) (p : List Byte) :
    ReportsSound (carryOut c tag p s) := by
  by_cases hc : c ∉ [Code.start, .stop, .reset, .tcommit, .tcancel, .lset, .rdrop, .rthresh, .gset, .nmask, .nack, .evread]
  · exact h.of_reports (carryOut_reports hc tag p s)
  · cases c with
    | start => exact h.doStart tag
    | stop => exact h.doStop tag
    | reset => exact .of_reset rfl
    | tcommit => exact h.doTcommit tag
    | tcancel => exact h.doTcancel tag
    | lset => exact h.doLset tag p
    | rdrop => exact h.doRdrop tag p
    | rthresh => exact h.doRthresh tag p
    | gset => exact h.doGset tag p
    | nmask => exact h.doNmask tag p
    | nack => exact h.doNack tag p
    | evread => exact h.doEvread tag p
    | _ => exact absurd (by simp) hc

/-! ### The handler and the arbiter (R144, R180) -/

theorem ReportsSound.takeRequest (h : ReportsSound s) : ReportsSound (takeRequest s) := by
  unfold Machine.takeRequest
  split
  next => exact h
  next r rest _ =>
    have hreserved : ReportsSound (reserveFor rest s) := h.of_reports rfl
    unfold checkRequest
    split
    next => exact hreserved.of_reports rfl
    next =>
      split
      next => exact hreserved.of_reports rfl
      next c _ =>
        split
        · exact hreserved.carryOut c r.tag r.payload
        · exact hreserved.of_reports rfl

theorem ReportsSound.serve (h : ReportsSound s) : ReportsSound (serve s) := by
  have hcount : ReportsSound (countRace s) := h.of_reports rfl
  unfold Machine.serve
  split_ifs
  · exact hcount.compose
  · exact hcount.takeRequest
  · exact h.takeRequest
  · exact h.compose
  · exact h

theorem ReportsSound.serveTimes (h : ReportsSound s) (n : Nat) : ReportsSound (serveTimes n s) := by
  induction n generalizing s with
  | zero => exact h
  | succ n ih => exact ih h.serve

theorem ReportsSound.settle (h : ReportsSound s) : ReportsSound (settle s) := h.serveTimes _

/-! ### The link (R169 to R179) -/

theorem ReportsSound.acceptFrame (h : ReportsSound s) (kind : Byte) (r : Request) : ReportsSound (acceptFrame kind r s) := by
  unfold Machine.acceptFrame enterIntake overflow
  split_ifs
  · exact h.raise _ _
  · exact h.of_reports rfl
  · exact h.raise _ _

theorem ReportsSound.requestArrives (h : ReportsSound s) (code tag : Byte) (payload : List Byte) :
    ReportsSound (requestArrives code tag payload s) := by
  unfold Machine.requestArrives
  split
  · exact h
  · exact h.acceptFrame _ _

theorem ReportsSound.parseByte (h : ReportsSound s) (b : Byte) : ReportsSound (parseByte b s) := by
  have hsync : ReportsSound (setParser .sync s) := h.of_reports rfl
  unfold Machine.parseByte
  split
  next => split <;> exact h.of_reports rfl
  next =>
    split
    · exact h.of_reports rfl
    · exact hsync.raise _ _
  next => exact h.of_reports rfl
  next => exact h.of_reports rfl
  next =>
    unfold completeFrame
    split
    · exact hsync.raise _ _
    · exact hsync.acceptFrame _ _

theorem ReportsSound.clockOut (h : ReportsSound s) : ReportsSound (clockOut s) := by
  unfold Machine.clockOut
  split
  · exact h
  · split <;> exact h.of_reports rfl

theorem ReportsSound.fallCS (h : ReportsSound s) : ReportsSound (fallCS s) := by
  unfold Machine.fallCS
  split <;> exact h.of_reports rfl

theorem ReportsSound.riseCS (h : ReportsSound s) : ReportsSound (riseCS s) := by
  unfold Machine.riseCS cutFrame
  split
  · split
    · exact ReportsSound.raise (h.of_reports (by rfl)) _ _
    · exact h.of_reports rfl
  · exact h

theorem ReportsSound.moveFirst (h : ReportsSound s) : ReportsSound (moveFirst s) := by
  have hcount : ReportsSound (countRace s) := h.of_reports rfl
  unfold Machine.moveFirst
  split_ifs
  · exact hcount.settle
  · exact hcount
  · exact h

theorem ReportsSound.exchange (h : ReportsSound s) (b : Byte) : ReportsSound (exchange b s) := by
  have hsent : ReportsSound (if sendsFrame s && s.resetting.isNone then Machine.moveFirst (Machine.clockOut s) else s) := by
    split
    · exact h.clockOut.moveFirst
    · exact h
  unfold Machine.exchange
  dsimp only
  generalize (if sendsFrame s && s.resetting.isNone then Machine.moveFirst (Machine.clockOut s) else s) = x at hsent
  have hparsed : ReportsSound (if hears x then Machine.parseByte b x else x) := by
    split
    · exact hsent.parseByte b
    · exact hsent
  exact hparsed.settle.of_reports rfl

/-! ### Commands -/

/-- Every command keeps the reports sound. -/
theorem ReportsSound.exec (h : ReportsSound s) {c : Instr} (he : exec c s = .next t) : ReportsSound t := by
  have ends {x : State} (hx : ReportsSound x) (he : finish x = .next t) : ReportsSound t := by
    obtain rfl := Host.Outcome.next.inj he
    exact hx.settle
  have guarded {x : State} {g : Bool} (hx : ReportsSound x) (he : finish (if g then x else s) = .next t) :
      ReportsSound t := by
    refine ends ?_ he
    split
    · exact hx
    · exact h
  cases c with
  | ident | config | cfgget | start | stop | stat | reset | eput | edel | eget | tclr | tload | tchk | tcommit | tcancel
  | bsetup | bwrite | bread | bstat | lsetDisable | lsetEnable | lsetClear | lstat | spost | scancel | slist | rfetch | rdrop
  | rthresh | gset | nmask | nack | evread => exact ends (h.requestArrives _ _ _) he
  | unknownRequest tag code payload => exact guarded (h.requestArrives code tag payload) he
  | inboundFrameComplete b | frameLength b | syncByteClockedOut b | frameClockedOut b | exchangeComplete b =>
    exact guarded (h.exchange b) he
  | transactionStart => exact ends h.fallCS he
  | transactionEnd => exact ends h.riseCS he
  | notificationFrameComposed => exact guarded h.compose he
  | powerReset => exact ends (.of_reset (t := holdReset .power s) rfl) he
  | pinReset => exact ends (.of_reset (t := holdReset .pin s) rfl) he
  | resetEnd =>
    refine ends ?_ he
    split
    · exact h.of_reports rfl
    · exact h
  | cycleStart first => exact guarded (h.cycleStartEvent first) he
  | cycleMarkPulseEnd =>
    refine ends ?_ he
    split
    · exact h.of_reports (endPulse_reports _ s)
    · exact h
  | startupListenExpiry =>
    refine ends ?_ he
    split
    · exact h.expireListen _
    · exact h
  | beaconDeadline | holdoverLimitReached => exact guarded h.meetDeadline he
  | freeMessageEnd l elapsed m =>
    have hx : ReportsSound { pass elapsed s with
      rx := (pass elapsed s).rx.update l (Receiver.occupy (pass elapsed s).now) } := h.of_reports (pass_reports elapsed s)
    exact guarded (hx.freeMessage l _ m.body) he
  | sendWindowStart position => exact ends (h.windowStart ReportsSound.openSend position) he
  | expectWindowStart position => exact ends (h.windowStart (start := openExpect) (fun hx _ _ => hx.of_reports rfl) position) he
  | openWindowStart position => exact ends (h.windowStart ReportsSound.openOpen position) he
  | quietWindowStart position => exact ends (h.windowStart (start := openQuiet) (fun hx _ _ => hx.of_reports rfl) position) he
  | breach l offset => exact ends (h.carrierStart l offset) he
  | expectWindowEnd a b => exact ends (h.closeExpect a b) he
  | windowEnd => exact ends (h.of_reports (closeWindow_reports s)) he
  | sendLaunchEnd a b => exact ends (h.launchEnd fun hx l => hx.endSend l a b) he
  | sporadicLaunchEnd a b => exact ends (h.launchEnd fun hx l => hx.endSporadic l a b) he
  | beaconLaunchEnd a b => exact ends (h.launchEnd fun hx l => hx.endBeacon l a b) he
  | expiry => exact guarded h.expireDue he
  | holdExpired l => exact guarded (h.enterProbation l .holdExpired) he
  | probationPassed l => exact guarded (h.promoteLane l) he

theorem ReportsSound.step (h : ReportsSound s) (he : step s = .next t) : ReportsSound t := by
  unfold Machine.step at he
  split at he
  next c rest _ => exact ReportsSound.exec (s := { s with pending := rest }) (h.of_reports (by rfl)) he
  next =>
    split at he
    next c _ => exact ReportsSound.exec (s := countRace s) (h.of_reports (by rfl)) he
    next =>
      obtain rfl := Host.Outcome.next.inj he
      exact h.of_reports (microtick_reports s)

end

/-- Settles O59: that the record queue and the notification unit are sound is what every step keeps, and it needs nothing else
of the invariant. -/
theorem recordsAndGroupsStaySound : Obligations.RecordsAndGroupsStaySound := by
  intro s t hinv hstep
  obtain ⟨hrecords, hgroups⟩ := (ReportsSound.of_inv hinv).step hstep
  exact ⟨hrecords, hgroups⟩

end Sys2Proof.Machine
end

section
/-! The requests of the slot record queue on a free handler: RFETCH and RTHRESH (R130, R134; O28), RDROP (R131, R132); and what
handing a record to the queue does (R126 to R129, R135; O29). -/
namespace Sys2Proof.Machine

section
variable {tag : Byte} {s : State}

/-- A request of the record queue on a free handler changes that queue alone, if anything. -/
theorem ready_recs (h : Ready tag s) (c : Code) {p q : List Byte} {r : Result} (hlen : p.length = c.required p)
    {recs : RecordQueue} (hx : carryOut c tag p (reserveFor [] s) = answer tag r q { reserveFor [] s with recs := recs }) :
    finish (requestArrives c.byte tag p s) = .next (replied tag r q { s with recs := recs }) :=
  ready_answer h c hlen (x := { s with recs := recs }) hx rfl rfl rfl

theorem within_iff {low high n : Nat} : within low high n = true ↔ low ≤ n ∧ n ≤ high := by
  simp [within]

theorem not_within_byte {n : Byte} {high : Nat} (h : n = 0 ∨ high < n.toNat) : ¬within 1 high n.toNat = true := by
  rw [within_iff]
  rcases h with rfl | h
  · exact fun hn => absurd hn.1 (by decide)
  · omega

/-! ### RFETCH and RTHRESH (R130, R134) -/

section
variable {n : Byte}

theorem doRfetch_records (h : 1 ≤ n.toNat ∧ n.toNat ≤ 12) :
    doRfetch tag [n] s = answer tag .ok (fetchBytes s.recs n.toNat) s := if_pos (within_iff.2 h)

theorem doRfetch_badCount (h : n = 0 ∨ 12 < n.toNat) : doRfetch tag [n] s = answer tag .badField [0] s :=
  if_neg (not_within_byte h)

theorem doRthresh_stored (h : 1 ≤ n.toNat ∧ n.toNat ≤ 128) : doRthresh tag [n] s =
    answer tag .ok [byte s.recs.records.length] { s with recs := { s.recs with threshold := n.toNat } } :=
  if_pos (within_iff.2 h)

theorem doRthresh_badThreshold (h : n = 0 ∨ 128 < n.toNat) : doRthresh tag [n] s = answer tag .badField [0] s :=
  if_neg (not_within_byte h)

end

/-! ### A record inserted (R126, R135) -/

/-- A record has joined the queue with the next number. -/
def inserted (r : Record) (s : State) : State :=
  { s with recs := { s.recs with
      records := s.recs.records ++ [{ r with number := s.recs.next }], next := s.recs.next + 1 } }

/-- The event that inserting a record raises. -/
def RecordQueue.insertionNotices (c : BitVec 6) (q : RecordQueue) : List Notice :=
  if q.records.length + 1 = q.threshold then
    [⟨.threshold, c, ⟨byte q.threshold, byte (q.records.length + 1), lowByte q.next, highByte q.next⟩⟩]
  else []

theorem insertRecord_does (r : Record) :
    Does (insertRecord r) (inserted r) (fun _ => []) (fun s => s.recs.insertionNotices s.tb.cycle) where
  posts s := by
    unfold insertRecord RecordQueue.insertionNotices
    dsimp only
    split
    · exact (raise_does _ _).posts (inserted r s)
    · exact .refl _
  blind _ _ _ _ := rfl
  respBlind _ _ _ _ := rfl
  saidBlind _ _ _ _ := rfl

/-! ### RDROP (R131, R132) -/

section
variable {k : Byte}

theorem doRdrop_badCount (h : k = 0 ∨ 128 < k.toNat ∨ s.recs.records.length < k.toNat) :
    doRdrop tag [k] s = answer tag .badField [0] s := by
  refine if_neg fun hk => ?_
  obtain ⟨hwithin, hle⟩ := Bool.and_eq_true_iff.1 hk
  rcases h with hzero | hmany | hmore
  · exact not_within_byte (.inl hzero) hwithin
  · exact not_within_byte (.inr hmany) hwithin
  · exact Nat.not_le.2 hmore (of_decide_eq_true hle)

/-- The count passes its tests: the oldest k records go, and a lost count calls for a GAP record. -/
theorem doRdrop_drops (hk : 1 ≤ k.toNat ∧ k.toNat ≤ 128) (hle : k.toNat ≤ s.recs.records.length) :
    doRdrop tag [k] s =
      if s.recs.lost = 0 then
        answer tag .ok [byte (s.recs.records.drop k.toNat).length, 0, 0, 0, 0, 0] (dropRecords k.toNat s)
      else
        answer tag .ok ([byte (closeGap s.recs.lost (dropRecords k.toNat s)).recs.records.length, 1] ++
          bytes16 s.recs.next ++ number16 s.recs.lost) (closeGap s.recs.lost (dropRecords k.toNat s)) :=
  if_pos (Bool.and_eq_true_iff.2 ⟨within_iff.2 hk, decide_eq_true hle⟩)

/-- The k oldest records have gone, and nothing is counted as lost any more. -/
def dropped (k : Nat) (s : State) : State :=
  { s with recs := { s.recs with records := s.recs.records.drop k, lost := 0 } }

/-- The k oldest records have gone, and a GAP record with the lost count has joined the queue. -/
def gapClosed (k : Nat) (s : State) : State := inserted (gapRecord s.recs.lost s.tb.cycle) (dropped k s)

/-- The GAP record is inserted as any other. -/
theorem closeGap_posts (k : Nat) (s : State) : Posts [] ((dropped k s).recs.insertionNotices s.tb.cycle) (gapClosed k s)
    (closeGap s.recs.lost (dropRecords k s)) := (insertRecord_does _).posts (dropped k s)

theorem closeGap_length (k : Nat) (s : State) :
    (closeGap s.recs.lost (dropRecords k s)).recs.records.length = s.recs.records.length - k + 1 := by
  obtain ⟨n, new, r, hgap, -⟩ := closeGap_posts k s
  rw [hgap, noted_recs]
  simp [gapClosed, inserted, dropped]

/-- An RDROP while records are counted as lost answers OK and names the GAP record (R132). -/
theorem rdrop_gap (h : Ready tag s) (hk : 1 ≤ k.toNat ∧ k.toNat ≤ 128) (hle : k.toNat ≤ s.recs.records.length)
    (hlost : s.recs.lost ≠ 0) :
    ∃ t, exec (.rdrop tag [k]) s = .next t ∧ Posts
      [responseFrame tag .ok ([byte (s.recs.records.length - k.toNat + 1), 1] ++ bytes16 s.recs.next ++ number16 s.recs.lost)]
      ((dropped k.toNat s).recs.insertionNotices s.tb.cycle) (gapClosed k.toNat s) t := by
  have htaken : exec (.rdrop tag [k]) s = .next (composeAll (doRdrop tag [k] (reserveFor [] s))) :=
    ready_request h .rdrop rfl
  have hcarried := (doRdrop_drops (tag := tag) (s := reserveFor [] s) hk hle).trans (if_neg hlost)
  rw [hcarried, closeGap_length] at htaken
  have hback : unreserved (gapClosed k.toNat (reserveFor [] s)) = gapClosed k.toNat s :=
    congrArg (gapClosed k.toNat) (unreserved_reserveFor h.1.2.1)
  have hposts := (answer_does tag .ok ([byte (s.recs.records.length - k.toNat + 1), 1] ++ bytes16 s.recs.next ++
    number16 s.recs.lost)).after (closeGap_posts k.toNat (reserveFor [] s))
  rw [hback, List.append_nil] at hposts
  exact ⟨_, htaken, hposts.composeAll⟩

end

end

/-! ### O28, O29 -/

/-- Settles O28: each clause is one branch of its request, carried out at once. -/
theorem fetchAndThreshold : Obligations.FetchAndThreshold := by
  intro tag n s h
  refine ⟨fun hpos hle => ?_, fun hbad => ?_, fun hpos hle => ?_, fun hbad => ?_⟩
  · exact ready_recs h .rfetch rfl (doRfetch_records ⟨hpos, hle⟩)
  · exact ready_recs h .rfetch rfl (doRfetch_badCount hbad)
  · exact ready_recs h .rthresh rfl (doRthresh_stored ⟨hpos, hle⟩)
  · exact ready_recs h .rthresh rfl (doRthresh_badThreshold hbad)

/-- Settles O29: an RDROP is refused, drops records, or also inserts a GAP record as any other record is inserted; and a record
handed to the queue posts what filing it posts. -/
theorem recordsFiledAndDropped : Obligations.RecordsFiledAndDropped := by
  refine ⟨fun tag k s h ten => ⟨fun hbad => ?_, fun hpos hmax hle => ⟨fun hlost => ?_, fun hlost => ?_⟩⟩, fun r s ten => ?_⟩
  · exact ready_recs h .rdrop rfl (doRdrop_badCount hbad)
  · have hdrops := (doRdrop_drops (tag := tag) (s := reserveFor [] s) ⟨hpos, hmax⟩ hle).trans (if_pos hlost)
    rw [List.length_drop] at hdrops
    exact ready_recs h .rdrop rfl hdrops
  · obtain ⟨t, ht, hposts⟩ := rdrop_gap h ⟨hpos, hmax⟩ hle hlost
    have hnotices := hposts.raised rfl ten
    rw [RecordQueue.insertionNotices, dropped, List.length_drop] at hnotices
    exact ⟨t, ht, hnotices, hposts.answers rfl⟩
  · have hposts := (fileRecord_does r).posts s
    exact ⟨hposts.answers rfl, hposts.raised rfl ten⟩

end Sys2Proof.Machine
end

section
/-! What no block's operation does: it ends no reset and begins none, leaves the requests that wait alone, and takes no frame out
of the outbound queue. Frames only join its tail (R163, R172, R180). -/
namespace Sys2Proof.Machine

/-- The same reset is in force, the same requests wait, and frames at most joined the outbound queue at its tail. -/
def Onward (s t : State) : Prop :=
  t.resetting = s.resetting ∧ t.link.intake = s.link.intake ∧ ∃ new, t.link.outbound = s.link.outbound ++ new

section
variable {s t u : State}

theorem Onward.refl (s : State) : Onward s s := ⟨rfl, rfl, [], (List.append_nil _).symm⟩

theorem Onward.trans (h : Onward s t) (k : Onward t u) : Onward s u := by
  obtain ⟨hreset, hintake, new, hnew⟩ := h
  obtain ⟨kreset, kintake, more, hmore⟩ := k
  exact ⟨kreset.trans hreset, kintake.trans hintake, new ++ more, by rw [hmore, hnew, List.append_assoc]⟩

/-- A change that leaves the reset and the link alone. -/
theorem Onward.plain (hr : t.resetting = s.resetting) (hl : t.link = s.link) : Onward s t :=
  ⟨hr, congrArg Link.intake hl, [], by rw [hl, List.append_nil]⟩

/-- A further change that leaves the reset and the link alone. -/
theorem Onward.andPlain (h : Onward s t) (hr : u.resetting = t.resetting) (hl : u.link = t.link) : Onward s u :=
  h.trans (.plain hr hl)

theorem Posts.onward {responses : List OutFrame} {notices : List Notice} (h : Posts responses notices s t) : Onward s t := by
  obtain ⟨n, new, r, rfl, -⟩ := h
  exact ⟨rfl, rfl, new, rfl⟩

theorem Does.onward {op f : State → State} {resp : State → List OutFrame} {said : State → List Notice}
    (d : Does op f resp said) (hf : Onward s (f s)) : Onward s (op s) := hf.trans (d.posts s).onward

/-! ### Operations that several commands share -/

variable (s)

theorem raise_onward (e : Event) (d : Detail) : Onward s (raise e d s) := (raise_does e d).onward (.refl s)

theorem fileRecord_onward (r : Record) : Onward s (fileRecord r s) := (fileRecord_does r).onward (.plain rfl rfl)

theorem logRecord_onward (logged : Bool) (r : Record) : Onward s (if logged then fileRecord r s else s) := by
  split
  · exact fileRecord_onward s r
  · exact .refl s

theorem answer_onward (tag : Byte) (r : Result) (p : List Byte) : Onward s (answer tag r p s) :=
  ⟨rfl, rfl, _, rfl⟩

theorem answerDeferred_onward (kind : DeferredKind) (r : Result) : Onward s (answerDeferred kind r s) := by
  obtain ⟨tag, -, h⟩ | ⟨-, h⟩ := answerDeferred_cases kind r s
  · rw [h]
    exact ⟨rfl, rfl, _, rfl⟩
  · rw [h]
    exact .refl s

theorem settleCommit_onward (cause : CommitCause) : Onward s (settleCommit cause s) := by
  unfold settleCommit
  split
  · exact (Onward.trans (.plain rfl rfl) (answerDeferred_onward (copyEdit s) _ _)).trans (raise_onward _ _ _)
  · exact .refl s

theorem cutLaunch_onward (lanes : LaneSet) : Onward s (cutLaunch lanes s) := by
  rcases cutLaunch_cases lanes s with ⟨-, h⟩ | ⟨x, -, ⟨-, h⟩ | ⟨-, h⟩⟩ <;> rw [h]
  · exact .refl s
  · exact .plain rfl rfl
  · exact .plain rfl rfl

theorem stopped_onward : Onward s (stopped s) := (cutLaunch_onward s _).andPlain rfl rfl

theorem laneLeaves_onward (l : Lane) : Onward s (laneLeaves l s) := (cutLaunch_onward s _).andPlain rfl rfl

theorem launchBeacon_onward (lanes : LaneSet) : Onward s (launchBeacon lanes s) := by
  unfold launchBeacon
  split
  · exact .plain rfl rfl
  · exact .refl s

/-! ### Lanes (R91 to R98, R106) -/

theorem changeLane_onward (l : Lane) (cause : LaneCause) (u : LaneUnit) : Onward s (changeLane l cause u s) :=
  (changeLane_does l cause u).onward (.plain rfl rfl)

theorem enterProbation_onward (l : Lane) (cause : LaneCause) : Onward s (enterProbation l cause s) :=
  (enterProbation_does l cause).onward (.plain rfl rfl)

theorem promoteLane_onward (l : Lane) : Onward s (promoteLane l s) := (promoteLane_does l).onward (.plain rfl rfl)

theorem gradeOutcome_onward (l : Lane) (o : Outcome) (proved : Bool) (position : Option Nat) (cycle : BitVec 6) :
    Onward s (gradeOutcome l o proved position cycle s) := by
  refine (gradeOutcome_does l o proved position cycle).onward ?_
  unfold graded
  split
  · exact (laneLeaves_onward s l).andPlain rfl rfl
  · exact .plain rfl rfl

theorem echoed_onward (l : Lane) (o : Outcome) : Onward s (echoed l o s) := by
  unfold echoed
  split
  · exact (laneLeaves_onward s l).andPlain rfl rfl
  · exact .plain rfl rfl

theorem gradeEchoes_onward (k : LaunchKind) (position : Option Nat) (cycle : BitVec 6) (o : PerLane Outcome) :
    Onward s (gradeEchoes k position cycle o s) :=
  (gradeEchoes_does k position cycle o).onward ((echoed_onward s .A o.a).trans (echoed_onward _ .B o.b))

theorem laneCycleStart_onward (l : Lane) : Onward s (laneCycleStart l s) := by
  refine (laneCycleStart_does l).onward ?_
  rw [lived_eq]
  exact .plain rfl rfl

/-! ### The sporadic queue (R118, R122) -/

theorem raiseQueueEmpty_onward (ticket : Nat) (cause : Byte) (cycle : BitVec 6) :
    Onward s (raiseQueueEmpty ticket cause cycle s) := by
  unfold raiseQueueEmpty
  split
  · exact raise_onward s _ _
  · exact .refl s

theorem expireDue_onward : Onward s (expireDue s) := by
  unfold expireDue
  split
  · exact .refl s
  · have hgone := (expireAll_posts s.spor.due (.refl s)).onward
    rw [expiredAll_eq] at hgone
    exact (Onward.trans (.plain rfl rfl) hgone).trans (raiseQueueEmpty_onward _ _ _ _)

theorem blockReactions_onward : Onward s (blockReactions s) := by
  have haged : Onward s (ageBuffers (settleCommit .cycleStart s)) := (settleCommit_onward s _).andPlain rfl rfl
  have hlanes := (haged.trans (laneCycleStart_onward _ .A)).trans (laneCycleStart_onward _ .B)
  exact (hlanes.andPlain rfl rfl).trans (expireDue_onward _)

/-! ### Windows and launches (R58 to R63, R115) -/

section
variable (position : Nat) (e : Entry) (w : Window) (x : Launch)

theorem openSend_onward : Onward s (openSend position e s) := by
  have hopen (role : WindowRole) : Onward s (openWindow position e role s) := .plain rfl rfl
  unfold openSend
  dsimp only
  split
  · exact hopen _
  · split
    · exact ((hopen _).trans (raise_onward _ _ _)).trans (logRecord_onward _ _ _)
    · split
      next n y _ =>
        have hlaunched : Onward s (openWindow position e (.send (e.lanes.inter (activeLanes s)) .inProgress)
          (beginLaunch (sendLaunch e (e.lanes.inter (activeLanes s)) y s) (setBuffer n y.after s))) := .plain rfl rfl
        unfold launchSend
        dsimp only
        split
        · exact hlaunched.trans (raise_onward _ _ _)
        · exact hlaunched
      next => exact hopen _

theorem openOpen_onward : Onward s (openOpen position e s) := by
  unfold openOpen
  split
  · exact .plain rfl rfl
  · split <;> exact .plain rfl rfl

theorem breachAt_onward (l : Lane) (m : Nat) : Onward s (breachAt w l m s) :=
  Onward.trans (.plain rfl rfl) (breachAt_posts w l m s).onward

theorem applyToBuffer_onward (c : Combined) (f : Facts) : Onward s (applyToBuffer w c f s) := by
  cases hb : w.entry.buffer with
  | none =>
    unfold applyToBuffer
    rw [hb]
    exact .refl s
  | some n => exact (applyToBuffer_does c f hb).onward (.plain rfl rfl)

theorem endExpect_onward (a b : List Heard) : Onward s (endExpect w a b s) := by
  have hclosed : Onward s (closeHeard w a b s) := .plain rfl rfl
  have hgraded (v : PerLane LaneView) : Onward s (gradeWindow w v (closeHeard w a b s)) :=
    (hclosed.trans (gradeOutcome_onward _ _ _ _ _ _)).trans (gradeOutcome_onward _ _ _ _ _ _)
  have hreported (v : PerLane LaneView) (c : Combined) := (hgraded v).trans ((reportDisagree_does w c).onward (.refl _))
  have hlogged (v : PerLane LaneView) (c : Combined) (f : Facts) (r : Record) :=
    ((hreported v c).trans (applyToBuffer_onward _ w c f)).trans (logRecord_onward _ w.entry.log r)
  exact (hlogged _ _ _ _).trans ((reportAlarm_does _ _ _).onward (.refl _))

/-- The launch is over and its lanes are graded. -/
theorem gradeLaunch_onward (k : LaunchKind) (position : Option Nat) (o : PerLane Outcome) :
    Onward s (gradeEchoes k position x.cycle o (endLaunch x s)) :=
  Onward.trans (t := endLaunch x s) (.plain rfl rfl) (gradeEchoes_onward _ _ _ _ _)

theorem endSend_onward (a b : Echo) : Onward s (endSend x a b s) := by
  unfold endSend
  dsimp only
  split
  · exact (gradeLaunch_onward s x _ _ _).trans (logRecord_onward _ _ _)
  · exact gradeLaunch_onward s x _ _ _

theorem completeSporadic_onward (y : SporadicEntry) (o : PerLane Outcome) : Onward s (completeSporadic w x y o s) := by
  have hcompleted : Onward s (completed w x y o s) := .plain rfl rfl
  exact (completeSporadic_does w x y o).onward hcompleted

theorem endSporadic_onward (a b : Echo) : Onward s (endSporadic x a b s) := by
  unfold endSporadic
  dsimp only
  split
  · exact (gradeLaunch_onward s x _ _ _).trans (completeSporadic_onward _ _ x _ _)
  · exact gradeLaunch_onward s x _ _ _

theorem endBeacon_onward (a b : Echo) : Onward s (endBeacon x a b s) :=
  Onward.trans (t := releaseLaunch x s) (.plain rfl rfl) (gradeEchoes_onward _ _ _ _ _)

end

/-! ### The timebase (R18 to R38) -/

theorem setTimebase_onward (tb : Timebase) : Onward s (setTimebase tb s) := .plain rfl rfl

theorem changeSync_onward (new : Sync) : Onward s (changeSync new s) := (changeSync_does new).onward (.plain rfl rfl)

theorem cycleStartEvent_onward (first : Promotions) : Onward s (cycleStartEvent first s) := by
  have hbegun : Onward s (beginCycle s) := .plain rfl rfl
  exact (hbegun.trans (blockReactions_onward _)).trans (launchBeacon_onward _ _)

theorem hardAlign_onward (number : BitVec 6) : Onward s (hardAlign number s) := by
  unfold hardAlign
  dsimp only
  split
  · exact ((stopped_onward s).trans (setTimebase_onward _ _)).trans (blockReactions_onward _)
  · exact setTimebase_onward s _

theorem alignAndAcquire_onward (number : BitVec 6) : Onward s (alignAndAcquire number s) :=
  (hardAlign_onward s number).trans (changeSync_onward _ _)

theorem conflictInListen_onward (l : Lane) (number : BitVec 6) (sender : Nat) :
    Onward s (conflictInListen l number sender s) := by
  have hdemoted : Onward s (demote (setTimebase { s.tb with startupListen := none } s)) := .plain rfl rfl
  exact ((hdemoted.trans (raise_onward _ _ _)).trans (alignAndAcquire_onward _ number)).trans (answerDeferred_onward _ _ _)

theorem conflictInLocked_onward (l : Lane) (number : BitVec 6) (sender : Nat) :
    Onward s (conflictInLocked l number sender s) := by
  have hdemoted : Onward s (demote (cutLaunch LaneSet.both s)) := (cutLaunch_onward s _).andPlain rfl rfl
  exact (hdemoted.trans (raise_onward _ _ _)).trans (alignAndAcquire_onward _ number)

theorem realignFromHoldover_onward (number : BitVec 6) : Onward s (realignFromHoldover number s) := by
  have hacquire : Onward s (setTimebase { s.tb with sync := .acquire } s) := .plain rfl rfl
  exact ((hacquire.trans (cutLaunch_onward _ _)).trans (hardAlign_onward _ number)).trans (raise_onward _ _ _)

theorem correct_onward (e : Int) (number : BitVec 6) (l : Lane) (sender : Nat) : Onward s (correct e number l sender s) :=
  (correct_does e number l sender).onward (.plain rfl rfl)

theorem actOnBeacon_onward (l : Lane) (stamp : Stamp) (number : BitVec 6) (sender : Nat) :
    Onward s (actOnBeacon l stamp number sender s) := by
  have hcorrected := correct_onward s (phaseError s stamp) number l sender
  unfold actOnBeacon
  cases s.tb.sync with
  | offline => exact .refl s
  | listen =>
    dsimp only
    split
    · exact conflictInListen_onward s l number sender
    · exact alignAndAcquire_onward s number
  | acquire =>
    dsimp only
    split
    · exact hcorrected.trans (changeSync_onward _ _)
    · exact hardAlign_onward s number
  | locked =>
    dsimp only
    split_ifs
    · exact conflictInLocked_onward s l number sender
    · exact hcorrected
    · exact raise_onward s _ _
  | holdover =>
    dsimp only
    split
    · exact (hcorrected.trans (setTimebase_onward _ _)).trans (changeSync_onward _ _)
    · exact realignFromHoldover_onward s number

theorem freeMessage_onward (l : Lane) (stamp : Stamp) (m : Message) : Onward s (freeMessage l stamp m s) := by
  have hgraded (o : Outcome) : Onward s (gradeBeacon l o s) := gradeOutcome_onward s _ _ _ _ _
  unfold freeMessage
  split
  next =>
    unfold takeBeacon
    dsimp only
    split
    · exact hgraded .good
    · exact ((hgraded .good).trans (setTimebase_onward _ _)).trans (actOnBeacon_onward _ l stamp _ _)
  next o _ _ => exact hgraded o
  next => exact .refl s

theorem endFree_onward (l : Lane) (m : Message) : Onward s (endFree l m s) :=
  Onward.trans (.plain rfl rfl) (freeMessage_onward _ l _ m)

theorem fallToListen_onward : Onward s (fallToListen s) := by
  unfold fallToListen
  refine Onward.trans ?_ (settleCommit_onward _ _)
  refine Onward.trans ?_ (raise_onward _ _ _)
  exact (stopped_onward s).andPlain rfl rfl

theorem missedBeacon_onward : Onward s (missedBeacon s) := by
  have hmissed (tb : Timebase) : Onward s (raiseBeaconMissed (setTimebase tb s)) :=
    (setTimebase_onward s tb).trans (raise_onward _ _ _)
  unfold missedBeacon
  split
  · exact fallToListen_onward s
  · exact (hmissed _).trans (raise_onward _ _ _)
  · dsimp only
    split
    · exact (hmissed _).trans (fallToListen_onward _)
    · exact hmissed _
  · exact .refl s
  · exact .refl s

theorem meetDeadline_onward : Onward s (meetDeadline s) := by
  unfold meetDeadline
  dsimp only
  split
  · exact .plain rfl rfl
  · exact Onward.trans (.plain rfl rfl) (missedBeacon_onward _)

theorem expireListen_onward (moment : Nat) : Onward s (expireListen moment s) := by
  have hexpired : Onward s { s with now := max s.now moment, tb := { s.tb with startupListen := none } } := .plain rfl rfl
  unfold expireListen
  refine Onward.trans ?_ (answerDeferred_onward _ _ _)
  refine Onward.trans ?_ (launchBeacon_onward _ _)
  exact (hexpired.trans (changeSync_onward _ .locked)).andPlain rfl rfl

theorem startPart_onward : Onward s (startPart s) := by
  have hlisten : Onward s (changeSync .listen (setTimebase { s.tb with role := s.cfg.role }
      (receivers LaneSet.both (Receiver.listen s.now) s))) := (changeSync_does .listen).onward (.plain rfl rfl)
  unfold startPart
  dsimp only
  split
  · exact hlisten.andPlain rfl rfl
  · exact hlisten

theorem stopPart_onward : Onward s (stopPart s) := by
  unfold stopPart
  refine Onward.trans ?_ (answerDeferred_onward _ _ _)
  refine Onward.trans ?_ (settleCommit_onward _ _)
  refine Onward.trans ?_ (raise_onward _ _ _)
  exact (stopped_onward s).andPlain rfl rfl

end

end Sys2Proof.Machine
end

section
/-! Requests queue their answers and take no frame out, a RESET aside, which begins the part anew; so the handler and the arbiter
come to rest, and every command ends with neither having anything left that it can do (R144, R164, R180). -/
namespace Sys2Proof.Machine

section
variable (tag : Byte) (p : List Byte) (s : State)

/-! ### Requests (R182) -/

/-- A request is answered after changes that leave the reset and the link alone. -/
theorem answered_onward {s x : State} {tag : Byte} {r : Result} {p : List Byte} (h : Onward s x) :
    Onward s (answer tag r p x) := h.trans (answer_onward x tag r p)

theorem doStart_onward : Onward s (doStart tag s) := by
  unfold doStart
  split_ifs
  · exact answer_onward s _ _ _
  · exact answer_onward s _ _ _
  · exact (startPart_onward s).trans ⟨rfl, rfl, [], (List.append_nil _).symm⟩
  · exact answered_onward (startPart_onward s)

theorem doStop_onward : Onward s (doStop tag s) := by
  unfold doStop
  split
  · exact answer_onward s _ _ _
  · exact answered_onward (stopPart_onward s)

theorem doTcommit_onward : Onward s (doTcommit tag s) := by
  have hcopied : Onward s (copyEdit s) := .plain rfl rfl
  unfold doTcommit
  split
  · exact answer_onward s _ _ _
  · split
    · exact answer_onward s _ _ _
    · split
      · exact ⟨rfl, rfl, [], (List.append_nil _).symm⟩
      · exact (answered_onward hcopied).trans (raise_onward _ _ _)

theorem doTcancel_onward : Onward s (doTcancel tag s) := by
  have hcancelled : Onward s (uncommitted s) := .plain rfl rfl
  unfold doTcancel
  split
  · exact (answered_onward (hcancelled.trans (answerDeferred_onward _ _ _))).trans (raise_onward _ _ _)
  · exact answer_onward s _ _ _

theorem doLset_onward : Onward s (doLset tag p s) := by
  have hdisable (l : Lane) : Onward s (laneDisable tag l s) := by
    unfold laneDisable
    dsimp only
    split
    · exact answer_onward s _ _ _
    · exact (answered_onward (laneLeaves_onward s l)).trans (changeLane_onward _ l _ _)
  have henable (l : Lane) : Onward s (laneEnable tag l s) := by
    unfold laneEnable
    dsimp only
    split
    · exact (answer_onward s _ _ _).trans (enterProbation_onward _ l _)
    · exact answer_onward s _ _ _
  have hclear (l : Lane) : Onward s (laneClear tag l s) := by
    unfold laneClear
    split
    · exact answered_onward (.plain rfl rfl)
    · exact answer_onward s _ _ _
  unfold doLset
  split
  · exact answer_onward s _ _ _
  · split_ifs
    · exact hdisable _
    · exact henable _
    · exact hclear _
    · exact answer_onward s _ _ _

theorem doRdrop_onward : Onward s (doRdrop tag p s) := by
  have hdropped : Onward s (dropRecords (fieldAt p 0) s) := .plain rfl rfl
  have hgap : Onward s (closeGap s.recs.lost (dropRecords (fieldAt p 0) s)) :=
    Onward.trans (.plain rfl rfl) (closeGap_posts (fieldAt p 0) s).onward
  unfold doRdrop
  dsimp only
  split_ifs
  · exact answered_onward hdropped
  · exact answered_onward hgap
  · exact answer_onward s _ _ _

/-- Every request but RESET queues its answer, or is deferred, and takes nothing from the link. -/
theorem carryOut_onward {c : Code} (hc : c ≠ .reset) : Onward s (carryOut c tag p s) := by
  have hplain {x : State} {r : Result} {q : List Byte} (hr : x.resetting = s.resetting) (hl : x.link = s.link) :
      Onward s (answer tag r q x) := answered_onward (.plain hr hl)
  cases c with
  | reset => exact absurd rfl hc
  | ident | cfgget | stat | lstat | slist => exact answer_onward s _ _ _
  | start => exact doStart_onward tag s
  | stop => exact doStop_onward tag s
  | tcommit => exact doTcommit_onward tag s
  | tcancel => exact doTcancel_onward tag s
  | lset => exact doLset_onward tag p s
  | rdrop => exact doRdrop_onward tag p s
  | config =>
    simp only [carryOut, doConfig]
    repeat' split
    all_goals exact hplain rfl rfl
  | eput | edel | eget | tclr | tload | tchk =>
    simp only [carryOut, doEput, doEdel, doEget, doTclr, doTload, doTchk]
    repeat' split
    all_goals exact hplain rfl rfl
  | bsetup | bwrite | bread | bstat =>
    simp only [carryOut, doBsetup, doBwrite, doBread, doBstat]
    repeat' split
    all_goals exact hplain rfl rfl
  | spost | scancel | rfetch | rthresh =>
    simp only [carryOut, doSpost, doScancel, doRfetch, doRthresh]
    repeat' split
    all_goals exact hplain rfl rfl
  | gset | nmask | nack | evread =>
    simp only [carryOut, doGset, doNmask, doNack, doEvread]
    repeat' split
    all_goals exact hplain rfl rfl

end

/-! ### The handler and the arbiter come to rest (R144, R180) -/

section
variable {s t : State}

theorem Onward.notifications_le (h : Onward s t) : s.link.notifications ≤ t.link.notifications := by
  obtain ⟨-, -, new, hnew⟩ := h
  rw [Link.notifications, Link.notifications, hnew, List.countP_append]
  exact Nat.le_add_right _ _

/-- A part that has just been reset has no request waiting and no group to notify (R165). -/
theorem commandReset_settled (tag : Byte) (s : State) : Settled (commandReset tag s) := ⟨rfl, rfl⟩

/-- The head request leaves the intake queue; all but a RESET leave the others waiting and every frame queued, and a RESET
leaves nothing to do. -/
theorem takeRequest_cases {r : Request} {rest : List Request} (h : s.link.intake = r :: rest) :
    (∃ tag x, takeRequest s = commandReset tag x) ∨ Onward (reserveFor rest s) (takeRequest s) := by
  have hrefused (x : Result) : Onward (reserveFor rest s) (refuse r.tag x (reserveFor rest s)) := answer_onward _ _ _ _
  have htaken : takeRequest s = checkRequest r rest (reserveFor rest s) := by
    unfold takeRequest
    rw [h]
  rw [htaken, checkRequest]
  split
  · exact .inr (hrefused _)
  · split
    · exact .inr (hrefused _)
    next c _ =>
      split
      · by_cases hc : c = .reset
        · subst hc
          exact .inl ⟨r.tag, reserveFor rest s, rfl⟩
        · exact .inr (carryOut_onward _ _ _ hc)
      · exact .inr (hrefused _)

/-- The chosen group's frame stands at the tail of the outbound queue, and the group awaits its NACK with nothing held. -/
theorem compose_eq {i : Nat} {g : Group} (h : s.notif.chosen = some (i, g)) : compose s =
    { s with
      notif := { s.notif with groups := s.notif.groups.set i { g with acc := none, delivery := .awaiting } }
      link := { s.link with outbound := s.link.outbound ++ [notifyFrame i g] } } := by
  rw [compose, h]

/-- The requests that wait, and the places for NOTIFY frames that are free (R144). -/
def movesLeft (s : State) : Nat := s.link.intake.length + (Config.notifyPlaces - s.link.notifications)

theorem takeRequest_moves_on (h : handlerReady s = true) :
    Settled (takeRequest s) ∨ movesLeft (takeRequest s) < movesLeft s := by
  cases hi : s.link.intake with
  | nil => exact nomatch (handlerReady_of_intake hi).symm.trans h
  | cons r rest =>
    rcases takeRequest_cases hi with ⟨tag, x, htaken⟩ | honward
    · exact .inl (htaken ▸ commandReset_settled tag x)
    · have hframes : s.link.notifications ≤ _ := honward.notifications_le
      obtain ⟨-, hintake, -⟩ := honward
      refine .inr ?_
      rw [movesLeft, movesLeft, show (takeRequest s).link.intake = rest from hintake, hi, List.length_cons]
      omega

theorem arbiterReady_iff : arbiterReady s = true ↔
    s.resetting = none ∧ (∃ i g, s.notif.chosen = some (i, g)) ∧ s.link.notifications < 2 ∧ s.link.hasPlace = true := by
  simp [arbiterReady, Config.notifyPlaces, Option.isSome_iff_exists, and_assoc]

theorem compose_moves_on (h : arbiterReady s = true) : movesLeft (compose s) < movesLeft s := by
  obtain ⟨-, ⟨i, g, hc⟩, hroom, -⟩ := arbiterReady_iff.1 h
  have hframes : (compose s).link.notifications = s.link.notifications + 1 := by
    rw [compose_eq hc, Link.notifications, List.countP_append]
    rfl
  rw [movesLeft, movesLeft, hframes, compose_intake, Config.notifyPlaces]
  omega

/-- As long as one of the two can move, a move brings them nearer to rest. -/
theorem serve_moves_on (h : ¬Settled s) : Settled (serve s) ∨ movesLeft (serve s) < movesLeft s := by
  unfold serve
  split
  next hh =>
    split
    next ha =>
      split
      · exact .inr (compose_moves_on (s := countRace s) ha)
      · exact takeRequest_moves_on (s := countRace s) hh
    next => exact takeRequest_moves_on hh
  next hh =>
    split
    next ha => exact .inr (compose_moves_on ha)
    next ha => exact absurd ⟨Bool.eq_false_iff.2 hh, Bool.eq_false_iff.2 ha⟩ h

theorem settled_of_no_moves (h : movesLeft s = 0) : Settled s := by
  obtain ⟨hintake, hfull⟩ := Nat.add_eq_zero_iff.1 h
  refine ⟨handlerReady_of_intake (List.length_eq_zero_iff.1 hintake), Bool.eq_false_iff.2 fun ha => ?_⟩
  obtain ⟨-, -, hroom, -⟩ := arbiterReady_iff.1 ha
  rw [Config.notifyPlaces] at hfull
  omega

/-- Enough moves bring the handler and the arbiter to rest. -/
theorem serveTimes_settles (n : Nat) (h : movesLeft s ≤ n) : Settled (serveTimes n s) := by
  induction n generalizing s with
  | zero => exact settled_of_no_moves (Nat.le_zero.1 h)
  | succ n ih =>
    by_cases hs : Settled s
    · rwa [serveTimes_settled hs.1 hs.2]
    · rcases serve_moves_on hs with hrest | hless
      · rwa [serveTimes, serveTimes_settled hrest.1 hrest.2]
      · exact ih (by omega)

/-- Settling leaves the handler and the arbiter nothing that they can do (R144, R180). -/
theorem settle_settles (s : State) : Settled (settle s) :=
  serveTimes_settles _ (Nat.add_le_add_left (Nat.sub_le _ _) _)

/-- Every command ends with the handler and the arbiter moving while they can. -/
theorem exec_finishes (c : Instr) (s : State) : ∃ x, exec c s = finish x := by
  cases c <;> exact ⟨_, rfl⟩

theorem exec_settles {c : Instr} (he : exec c s = .next t) : Settled t := by
  obtain ⟨x, hx⟩ := exec_finishes c s
  obtain rfl := Host.Outcome.next.inj (hx.symm.trans he)
  exact settle_settles x

/-- The clock alone gives neither of them anything to do. -/
theorem microtick_settled (h : Settled s) : Settled (microtick s) := by
  have hsame (x : State) (hr : x.resetting = s.resetting) (hl : x.link = s.link) (hn : x.notif = s.notif) : Settled x := by
    have := h
    unfold Settled handlerReady arbiterReady at this ⊢
    rwa [hr, hl, hn]
  unfold microtick
  split_ifs
  · exact h
  · exact hsame _ rfl rfl rfl
  · exact h
  · exact hsame _ rfl rfl rfl

end

end Sys2Proof.Machine
end

section
/-! A reset in force keeps every block at its reset values until it ends, and nothing but the supply and RESET_N begins one
(R163, R165); with the rest that every command ends in, this is O60. -/
namespace Sys2Proof.Machine

/-! ### A reset that is not in force stays so (R163) -/

section
variable (s : State) {t : State}

theorem Onward.awake {s : State} (h : Onward s t) (hr : s.resetting = none) : t.resetting = none := h.1.trans hr

@[simp] theorem compose_resetting : (compose s).resetting = s.resetting := by
  unfold compose
  split <;> rfl

/-- A RESET taken ends as it begins; no other request touches a reset (R164). -/
theorem takeRequest_awake {s : State} (h : s.resetting = none) : (takeRequest s).resetting = none := by
  cases hi : s.link.intake with
  | nil =>
    unfold takeRequest
    rw [hi]
    exact h
  | cons r rest =>
    rcases takeRequest_cases hi with ⟨tag, x, htaken⟩ | honward
    · rw [htaken]
      rfl
    · exact honward.awake h

theorem serve_awake {s : State} (h : s.resetting = none) : (serve s).resetting = none := by
  have hcount : (countRace s).resetting = none := h
  unfold serve
  split_ifs
  · exact (compose_resetting _).trans hcount
  · exact takeRequest_awake hcount
  · exact takeRequest_awake h
  · exact (compose_resetting s).trans h
  · exact h

theorem serveTimes_awake (n : Nat) {s : State} (h : s.resetting = none) : (serveTimes n s).resetting = none := by
  induction n generalizing s with
  | zero => exact h
  | succ n ih => exact ih (serve_awake h)

theorem settle_awake {s : State} (h : s.resetting = none) : (settle s).resetting = none := serveTimes_awake _ h

theorem finish_awake {s : State} (h : s.resetting = none) (he : finish s = .next t) : t.resetting = none := by
  obtain rfl := Host.Outcome.next.inj he
  exact settle_awake h

/-! #### The link (R169 to R179) -/

@[simp] theorem acceptFrame_resetting (kind : Byte) (r : Request) : (acceptFrame kind r s).resetting = s.resetting := by
  unfold acceptFrame enterIntake overflow
  split_ifs
  · exact raise_resetting
  · rfl
  · exact raise_resetting

@[simp] theorem requestArrives_resetting (code tag : Byte) (payload : List Byte) :
    (requestArrives code tag payload s).resetting = s.resetting := by
  unfold requestArrives
  split
  · rfl
  · exact acceptFrame_resetting s _ _

@[simp] theorem parseByte_resetting (b : Byte) : (parseByte b s).resetting = s.resetting := by
  unfold parseByte
  split
  next => split <;> rfl
  next =>
    split
    · rfl
    · exact raise_resetting
  next => rfl
  next => rfl
  next =>
    unfold completeFrame
    split
    · exact raise_resetting
    · exact acceptFrame_resetting _ _ _

@[simp] theorem clockOut_resetting : (clockOut s).resetting = s.resetting := by
  unfold clockOut
  split
  · rfl
  · split <;> rfl

@[simp] theorem fallCS_resetting : (fallCS s).resetting = s.resetting := by
  unfold fallCS
  split <;> rfl

@[simp] theorem riseCS_resetting : (riseCS s).resetting = s.resetting := by
  unfold riseCS cutFrame
  split
  · split
    · exact raise_resetting
    · rfl
  · rfl

theorem moveFirst_awake {s : State} (h : s.resetting = none) : (moveFirst s).resetting = none := by
  have hcount : (countRace s).resetting = none := h
  unfold moveFirst
  split_ifs
  · exact settle_awake hcount
  · exact hcount
  · exact h

theorem exchange_awake (b : Byte) {s : State} (h : s.resetting = none) : (exchange b s).resetting = none := by
  have hsent : (if sendsFrame s && s.resetting.isNone then moveFirst (clockOut s) else s).resetting = none := by
    split
    · exact moveFirst_awake ((clockOut_resetting s).trans h)
    · exact h
  unfold exchange
  dsimp only
  generalize (if sendsFrame s && s.resetting.isNone then moveFirst (clockOut s) else s) = x at hsent
  have hparsed : (if hears x then parseByte b x else x).resetting = none := by
    split
    · exact (parseByte_resetting x b).trans hsent
    · exact hsent
  exact settle_awake hparsed

/-! #### Rows that come at a moment of their own (R17) -/

theorem pass_onward (elapsed : Nat) : Onward s (pass elapsed s) := by
  unfold pass
  split <;> exact .plain rfl rfl

theorem endPulse_onward (m : Nat) : Onward s (endPulse m s) := by
  unfold endPulse
  dsimp only
  split_ifs <;> exact .plain rfl rfl

theorem microtick_onward : Onward s (microtick s) := by
  unfold microtick
  split_ifs <;> exact .plain rfl rfl

theorem windowStart_onward {role : EntryRole} {start : Nat → Entry → State → State}
    (hs : ∀ (position : Nat) (e : Entry) (x : State), Onward x (start position e x)) (position : Nat) :
    Onward s (windowStart role start position s) := by
  unfold windowStart
  split
  next e _ => exact Onward.trans (t := passTo e.start s) (.plain rfl rfl) (hs position e _)
  next => exact .refl s

theorem launchEnd_onward {kind : LaunchKind} {stop : Launch → State → State}
    (hs : ∀ (x : Launch) (y : State), Onward y (stop x y)) : Onward s (launchEnd kind stop s) := by
  unfold launchEnd
  split
  next x _ =>
    split
    · exact Onward.trans (t := passTo x.ends s) (.plain rfl rfl) (hs x _)
    · exact .refl s
  next => exact .refl s

theorem carrierStart_onward (l : Lane) (offset : Nat) : Onward s (carrierStart l offset s) := by
  unfold carrierStart
  split
  next w _ =>
    split
    · exact Onward.trans (t := passTo offset s) (.plain rfl rfl) (breachAt_onward _ w l offset)
    · exact .refl s
  next => exact .refl s

theorem closeExpect_onward (a b : List Heard) : Onward s (closeExpect a b s) := by
  unfold closeExpect
  split
  next w _ =>
    split
    · exact Onward.trans (t := passTo w.ends s) (.plain rfl rfl) (endExpect_onward _ w a b)
    · exact .refl s
  next => exact .refl s

theorem closeWindow_onward : Onward s (closeWindow s) := by
  unfold closeWindow
  split
  · split <;> exact .plain rfl rfl
  · exact .refl s

end

/-! ### The part held in a reset (R163, R165) -/

/-- What the part is while a reset of this cause is in force: CS and the exchange are the host's, the count of free choices and the
commands waiting are the model's own; everything else stands at its reset value. -/
def heldBy (cause : ResetCause) (transaction : Bool) (exchange : Option Exchange) (races : Nat) (pending : List Instr) : State :=
  { State.held with
    link := { Link.reset with transaction := transaction, exchange := exchange }
    resetting := some cause, races := races, pending := pending }

/-- A reset is in force, and it holds every block. -/
def Held (s : State) : Prop := ∃ cause transaction exchange races pending, s = heldBy cause transaction exchange races pending

section
variable {s t : State}

theorem Held.heldBy (cause : ResetCause) (transaction : Bool) (exchange : Option Exchange) (races : Nat) (pending : List Instr) :
    Held (heldBy cause transaction exchange races pending) := ⟨cause, transaction, exchange, races, pending, rfl⟩

theorem Held.resetSound (h : Held s) : ResetSound s := by
  obtain ⟨cause, transaction, exchange, races, pending, rfl⟩ := h
  exact fun _ => rfl

theorem ResetSound.held (h : ResetSound s) (hr : s.resetting.isSome = true) : Held s := by
  obtain ⟨cause, hcause⟩ := Option.isSome_iff_exists.1 hr
  refine ⟨cause, s.link.transaction, s.link.exchange, s.races, s.pending, ?_⟩
  rw [h hr, hcause]
  rfl

theorem resetSound_of_none (h : s.resetting = none) : ResetSound s := fun hr => by
  rw [h] at hr
  cases hr

theorem Held.settled (h : Held s) : Settled s := by
  obtain ⟨cause, transaction, exchange, races, pending, rfl⟩ := h
  exact ⟨rfl, rfl⟩

/-- A command that ends in such a state answers it as it is. -/
theorem Held.finish (h : Held s) (he : finish s = .next t) : Held t := by
  obtain rfl := Host.Outcome.next.inj he
  rwa [settle_settled h.settled.1 h.settled.2]

theorem Held.beginExchange (h : Held s) : Held (beginExchange s) := by
  obtain ⟨cause, transaction, exchange, races, pending, rfl⟩ := h
  exact .heldBy _ _ _ _ _

/-- A reset from outside holds every block, whatever went before. -/
theorem holdReset_held (cause : ResetCause) (s : State) : Held (holdReset cause s) := .heldBy _ _ _ _ _

/-! ### Commands that come while a reset is in force -/

theorem Held.fallCS (h : Held s) : Held (fallCS s) := by
  unfold Machine.fallCS
  split
  · exact h
  · obtain ⟨cause, transaction, exchange, races, pending, rfl⟩ := h
    exact Held.beginExchange (.heldBy cause true exchange races pending)

theorem Held.riseCS (h : Held s) : Held (riseCS s) := by
  unfold Machine.riseCS
  split
  · obtain ⟨cause, transaction, exchange, races, pending, rfl⟩ := h
    exact .heldBy cause false none races pending
  · exact h

theorem Held.requestArrives (h : Held s) (code tag : Byte) (payload : List Byte) :
    Machine.requestArrives code tag payload s = s := by
  obtain ⟨cause, transaction, exchange, races, pending, rfl⟩ := h
  rfl

/-- Neither does the outbound byte count as clocked out, nor does the parser take the inbound byte. -/
theorem Held.exchange (h : Held s) (b : Byte) : Held (exchange b s) := by
  have hr : s.resetting.isNone = false := by
    obtain ⟨cause, transaction, exchange, races, pending, rfl⟩ := h
    rfl
  have hears : hears s = false := by
    unfold Machine.hears
    rw [hr]
    split <;> rfl
  have hexchange : Machine.exchange b s = Machine.beginExchange (settle s) := by
    simp [Machine.exchange, hr, hears]
  rw [hexchange, settle_settled h.settled.1 h.settled.2]
  exact h.beginExchange

/-- No cycle runs, so no event of a cycle can be reached (R17, R165). -/
theorem Held.reaches (h : Held s) (m : Nat) : reaches s m = false := by
  obtain ⟨cause, transaction, exchange, races, pending, rfl⟩ := h
  rfl

theorem Held.hearsFree (h : Held s) (elapsed : Nat) (l : Lane) (lead : Nat) (m : Message) :
    hearsFree (pass elapsed s) l lead m = false := by
  refine Bool.eq_false_iff.2 fun hf => not_offline_of_hearsFree hf ?_
  obtain ⟨cause, transaction, exchange, races, pending, rfl⟩ := h
  rfl

theorem Held.windowStart (h : Held s) (role : EntryRole) (start : Nat → Entry → State → State) (position : Nat) :
    windowStart role start position s = s := by
  unfold Machine.windowStart
  split
  next e he => exact nomatch (h.reaches e.start).symm.trans (reaches_of_opens he)
  next => rfl

/-- While a reset is in force every command leaves the part held, but for the end of the reset. -/
theorem Held.exec (h : Held s) {c : Instr} (he : exec c s = .next t) : t.resetting = none ∨ Held t := by
  have guarded {x : State} {g : Bool} (hx : Held x) (he : Machine.finish (if g then x else s) = .next t) : Held t := by
    refine Held.finish ?_ he
    split
    · exact hx
    · exact h
  have never {x : State} {g : Bool} (hg : g = false) (he : Machine.finish (if g then x else s) = .next t) : Held t := by
    subst hg
    exact h.finish he
  cases c with
  | ident | config | cfgget | start | stop | stat | reset | eput | edel | eget | tclr | tload | tchk | tcommit | tcancel
  | bsetup | bwrite | bread | bstat | lsetDisable | lsetEnable | lsetClear | lstat | spost | scancel | slist | rfetch | rdrop
  | rthresh | gset | nmask | nack | evread => exact .inr (Held.finish ((h.requestArrives _ _ _).symm ▸ h) he)
  | unknownRequest tag code payload => exact .inr (guarded ((h.requestArrives code tag payload).symm ▸ h) he)
  | inboundFrameComplete b | frameLength b | syncByteClockedOut b | frameClockedOut b | exchangeComplete b =>
    exact .inr (guarded (h.exchange b) he)
  | transactionStart => exact .inr (h.fallCS.finish he)
  | transactionEnd => exact .inr (h.riseCS.finish he)
  | powerReset => exact .inr ((holdReset_held .power s).finish he)
  | pinReset => exact .inr ((holdReset_held .pin s).finish he)
  | notificationFrameComposed => exact .inr (never h.settled.2 he)
  | freeMessageEnd l elapsed m => exact .inr (never (by rw [h.hearsFree, Bool.and_false]) he)
  | cycleStart first => exact .inr (never (by rw [cycleEnds, h.reaches, Bool.and_false]) he)
  | beaconDeadline => exact .inr (never (by rw [deadlineDue, h.reaches, Bool.and_false]) he)
  | holdoverLimitReached =>
    exact .inr (never (by rw [limitComes, deadlineDue, h.reaches, Bool.and_false]; rfl) he)
  | sendWindowStart position => exact .inr (Held.finish ((h.windowStart .send openSend position).symm ▸ h) he)
  | expectWindowStart position => exact .inr (Held.finish ((h.windowStart .expect openExpect position).symm ▸ h) he)
  | openWindowStart position => exact .inr (Held.finish ((h.windowStart .openSlot openOpen position).symm ▸ h) he)
  | quietWindowStart position => exact .inr (Held.finish ((h.windowStart .quiet openQuiet position).symm ▸ h) he)
  | cycleMarkPulseEnd | startupListenExpiry | breach | expectWindowEnd | windowEnd | sendLaunchEnd | sporadicLaunchEnd
  | beaconLaunchEnd | expiry | holdExpired | probationPassed =>
    obtain ⟨cause, transaction, exchange, races, pending, rfl⟩ := h
    exact .inr (Held.finish (.heldBy cause transaction exchange races pending) he)
  | resetEnd =>
    obtain ⟨cause, transaction, exchange, races, pending, rfl⟩ := h
    exact .inl (finish_awake rfl he)

end

/-! ### Commands that come while none is in force (R163) -/

section
variable {s t : State}

/-- Nothing but the supply and RESET_N puts a reset in force. -/
theorem exec_awake (h : s.resetting = none) {c : Instr} (hc : c ≠ .powerReset ∧ c ≠ .pinReset) (he : exec c s = .next t) :
    t.resetting = none := by
  obtain ⟨hpower, hpin⟩ := hc
  have same {x : State} (hx : Onward s x) (he : finish x = .next t) : t.resetting = none :=
    finish_awake (hx.awake h) he
  have guarded {x : State} {g : Bool} (hx : x.resetting = none) (he : finish (if g then x else s) = .next t) :
      t.resetting = none := by
    refine finish_awake ?_ he
    split
    · exact hx
    · exact h
  have arrives (code tag : Byte) (payload : List Byte) : (requestArrives code tag payload s).resetting = none :=
    (requestArrives_resetting s code tag payload).trans h
  cases c with
  | powerReset => exact absurd rfl hpower
  | pinReset => exact absurd rfl hpin
  | ident | config | cfgget | start | stop | stat | reset | eput | edel | eget | tclr | tload | tchk | tcommit | tcancel
  | bsetup | bwrite | bread | bstat | lsetDisable | lsetEnable | lsetClear | lstat | spost | scancel | slist | rfetch | rdrop
  | rthresh | gset | nmask | nack | evread => exact finish_awake (arrives _ _ _) he
  | unknownRequest tag code payload => exact guarded (arrives code tag payload) he
  | inboundFrameComplete b | frameLength b | syncByteClockedOut b | frameClockedOut b | exchangeComplete b =>
    exact guarded (exchange_awake b h) he
  | transactionStart => exact finish_awake ((fallCS_resetting s).trans h) he
  | transactionEnd => exact finish_awake ((riseCS_resetting s).trans h) he
  | notificationFrameComposed => exact guarded ((compose_resetting s).trans h) he
  | resetEnd =>
    refine finish_awake ?_ he
    split
    · rfl
    · exact h
  | cycleStart first => exact guarded ((cycleStartEvent_onward s first).awake h) he
  | cycleMarkPulseEnd =>
    refine finish_awake ?_ he
    split
    · exact (endPulse_onward s _).awake h
    · exact h
  | startupListenExpiry =>
    refine finish_awake ?_ he
    split
    · exact (expireListen_onward s _).awake h
    · exact h
  | beaconDeadline | holdoverLimitReached => exact guarded ((meetDeadline_onward s).awake h) he
  | freeMessageEnd l elapsed m => exact guarded (((pass_onward s elapsed).trans (endFree_onward _ l m.body)).awake h) he
  | sendWindowStart position => exact same (windowStart_onward s (fun p e x => openSend_onward x p e) position) he
  | expectWindowStart position =>
    exact same (windowStart_onward s (start := openExpect) (fun _ _ _ => .plain rfl rfl) position) he
  | openWindowStart position => exact same (windowStart_onward s (fun p e x => openOpen_onward x p e) position) he
  | quietWindowStart position =>
    exact same (windowStart_onward s (start := openQuiet) (fun _ _ _ => .plain rfl rfl) position) he
  | breach l offset => exact same (carrierStart_onward s l offset) he
  | expectWindowEnd a b => exact same (closeExpect_onward s a b) he
  | windowEnd => exact same (closeWindow_onward s) he
  | sendLaunchEnd a b => exact same (launchEnd_onward s (fun x y => endSend_onward y x a b)) he
  | sporadicLaunchEnd a b => exact same (launchEnd_onward s (fun x y => endSporadic_onward y x a b)) he
  | beaconLaunchEnd a b => exact same (launchEnd_onward s (fun x y => endBeacon_onward y x a b)) he
  | expiry => exact guarded ((expireDue_onward s).awake h) he
  | holdExpired l => exact guarded ((enterProbation_onward s l .holdExpired).awake h) he
  | probationPassed l => exact guarded ((promoteLane_onward s l).awake h) he

/-- A command that leaves a reset in force leaves every block at its reset values. -/
theorem ResetSound.exec (h : ResetSound s) {c : Instr} (he : exec c s = .next t) : ResetSound t := by
  cases hr : s.resetting with
  | some cause =>
    rcases (h.held (by rw [hr]; rfl)).exec he with hnone | hheld
    · exact resetSound_of_none hnone
    · exact hheld.resetSound
  | none =>
    by_cases hc : c ≠ .powerReset ∧ c ≠ .pinReset
    · exact resetSound_of_none (exec_awake hr hc he)
    · cases c with
      | powerReset => exact ((holdReset_held .power s).finish he).resetSound
      | pinReset => exact ((holdReset_held .pin s).finish he).resetSound
      | _ => exact absurd ⟨nofun, nofun⟩ hc

/-- Neither time nor the model's own counts touch a reset. -/
theorem ResetSound.microtick (h : ResetSound s) : ResetSound (microtick s) := by
  cases hr : s.resetting with
  | some cause => rwa [microtick_reset (by rw [hr]; rfl)]
  | none => exact resetSound_of_none ((microtick_onward s).awake hr)

theorem ResetSound.withPending (h : ResetSound s) (rest : List Instr) : ResetSound { s with pending := rest } :=
  fun hr => congrArg (fun x : State => { x with pending := rest }) (h hr)

theorem ResetSound.countRace (h : ResetSound s) : ResetSound (countRace s) :=
  fun hr => congrArg Machine.countRace (h hr)

end

/-- Settles O60: a command ends with the handler and the arbiter at rest, whatever it does, and the clock gives them nothing to
do; and a command leaves a reset in force, or begins one, only with every block at its reset values. -/
theorem stepsStaySettledAndHeld : Obligations.StepsStaySettledAndHeld := by
  intro s t hinv hstep
  unfold step at hstep
  split at hstep
  next c rest _ => exact ⟨exec_settles hstep, (hinv.held.withPending rest).exec hstep⟩
  next =>
    split at hstep
    next c _ => exact ⟨exec_settles hstep, hinv.held.countRace.exec hstep⟩
    next =>
      obtain rfl := Host.Outcome.next.inj hstep
      exact ⟨microtick_settled hinv.settled, hinv.held.microtick⟩

end Sys2Proof.Machine
end

section
/-! The notification unit: what an event does to its group (O30), which group the arbiter takes (O31), and what its row composes
(O32). -/
namespace Sys2Proof.Machine

/-! ### Events and their groups (R137 to R141) -/

section
variable {g : Group} {kind : Nat} {a : Accumulation}

/-- The group of an event is one of the ten, and its kind one that the group defines (R137). -/
theorem event_defined (e : Event) : e.group < 10 ∧ (definedKinds e.group).getLsbD e.number = true := by
  cases e with
  | laneChanged l | receiveError l | transmitFault l => cases l <;> decide
  | _ => decide

theorem accept_disabled (c : BitVec 6) (d : Detail) (h : g.enable.getLsbD kind = false) :
    g.accept kind c d = { g with seen := g.seen ||| BitVec.twoPow 16 kind } :=
  if_neg (Bool.eq_false_iff.1 h)

theorem accept_enabled (c : BitVec 6) (d : Detail) (h : g.enable.getLsbD kind = true) :
    g.accept kind c d = { g with seen := g.seen ||| BitVec.twoPow 16 kind }.accumulate kind c d :=
  if_pos h

theorem accumulate_idle (c : BitVec 6) (d : Detail) (h : g.delivery = .idle) :
    g.accumulate kind c d = { g with acc := some (.begun kind c d), delivery := .pending } := by
  rw [Group.accumulate, h]

theorem accumulate_awaiting (c : BitVec 6) (d : Detail) (h : g.delivery = .awaiting) :
    g.accumulate kind c d = { g with acc := some (.begun kind c d), delivery := .awaitingMore } := by
  rw [Group.accumulate, h]

/-- A group that is to notify, or has more to notify, adds to what it holds (R140). -/
theorem accumulate_join (c : BitVec 6) (d : Detail) (h : g.delivery = .pending ∨ g.delivery = .awaitingMore)
    (ha : g.acc = some a) : g.accumulate kind c d = { g with acc := some (a.join kind c d) } := by
  unfold Group.accumulate
  rcases h with h | h <;> rw [h, ha]

end

section
variable {s : State} {g : Group}

theorem accept_group {n : Notifier} {e : Event} (h : n.groups[e.group]? = some g) (c : BitVec 6) (d : Detail) :
    n.accept e c d = { n with groups := n.groups.set e.group (g.accept e.number c d) } := by
  rw [Notifier.accept, h]

/-- An event is raised, and the arbiter has not moved yet. -/
def accepted (e : Event) (d : Detail) (g : Group) (s : State) : State :=
  { s with notif := { s.notif with groups := s.notif.groups.set e.group (g.accept e.number s.tb.cycle d) } }

/-- Where the arbiter can do nothing, the event has reached its group and that is all (R142). -/
theorem raise_unready {e : Event} {d : Detail} (h : s.notif.groups[e.group]? = some g)
    (ha : arbiterReady (accepted e d g s) = false) : raise e d s = accepted e d g s := by
  unfold raise
  rw [accept_group h]
  exact if_neg (Bool.eq_false_iff.1 ha)

/-- Where the arbiter can compose, a free choice says whether it does so at once (R142; log 5). -/
theorem raise_ready {e : Event} {d : Detail} (h : s.notif.groups[e.group]? = some g)
    (ha : arbiterReady (accepted e d g s) = true) :
    raise e d s = countRace (accepted e d g s) ∨ raise e d s = composeAll (countRace (accepted e d g s)) := by
  have hraise : raise e d s =
      if Config.arbiterFirst s.races then composeAll (countRace (accepted e d g s)) else countRace (accepted e d g s) := by
    unfold raise
    rw [accept_group h]
    exact if_pos ha
  rw [hraise]
  split
  · exact .inr rfl
  · exact .inl rfl

end

/-- Settles O30: an event finds its group among the ten, the arbiter then acts or waits, and the group takes the event as its
enable set and its delivery state say. -/
theorem eventAccumulates : Obligations.EventAccumulates := by
  refine ⟨fun e d s ten => ?_, fun g kind c d _ => ⟨accept_disabled c d, fun hon =>
    ⟨fun hd => ?_, fun hd => ?_, fun a hd ha => ?_⟩⟩⟩
  · obtain ⟨hgroup, hkind⟩ := event_defined e
    have hg := List.getElem?_eq_getElem (ten.symm ▸ hgroup : e.group < s.notif.groups.length)
    exact ⟨hgroup, hkind, _, hg, raise_unready hg, raise_ready hg⟩
  · exact (accept_enabled c d hon).trans (accumulate_idle c d hd)
  · exact (accept_enabled c d hon).trans (accumulate_awaiting c d hd)
  · exact (accept_enabled c d hon).trans (accumulate_join c d hd ha)

/-! ### The arbiter's choice (R143, R145) -/

section
variable {mask i j : Nat} {g h : Group} {gs : List Group}

theorem eligible_iff : g.eligible mask = true ↔ g.delivery = .pending ∧ mask < g.level := by
  simp [Group.eligible]

/-- Without a choice no group is eligible. -/
theorem not_eligible_of_chooseGroup_none (hc : chooseGroup mask gs i = none) : ∀ h ∈ gs, ¬h.eligible mask = true := by
  induction gs generalizing i with
  | nil => simp
  | cons x xs ih =>
    rw [chooseGroup] at hc
    split at hc
    next hnone =>
      split at hc
      · cases hc
      next hx => exact List.forall_mem_cons.2 ⟨hx, ih hnone⟩
    next => split at hc <;> cases hc

/-- Every eligible group has a lower level than the one chosen, or the same level and no lower number. -/
theorem chooseGroup_highest (hc : chooseGroup mask gs i = some (j, g)) {k : Nat} (hk : gs[k]? = some h)
    (he : h.eligible mask = true) : h.level < g.level ∨ (h.level = g.level ∧ j ≤ i + k) := by
  induction gs generalizing i j g k with
  | nil => simp at hk
  | cons x xs ih =>
    rw [chooseGroup] at hc
    split at hc
    next hnone =>
      split at hc
      next =>
        obtain ⟨rfl, rfl⟩ := Prod.mk.inj (Option.some.inj hc)
        cases k with
        | zero =>
          obtain rfl : x = h := by simpa using hk
          exact .inr ⟨rfl, Nat.le_refl _⟩
        | succ k => exact absurd he (not_eligible_of_chooseGroup_none hnone h (List.mem_of_getElem? hk))
      next => cases hc
    next l y hlater =>
      split at hc
      next hx =>
        obtain ⟨rfl, rfl⟩ := Prod.mk.inj (Option.some.inj hc)
        rw [Bool.and_eq_true, decide_eq_true_eq] at hx
        cases k with
        | zero =>
          obtain rfl : x = h := by simpa using hk
          exact .inr ⟨rfl, Nat.le_refl _⟩
        | succ k =>
          have := ih hlater hk
          omega
      next hx =>
        obtain ⟨rfl, rfl⟩ := Prod.mk.inj (Option.some.inj hc)
        cases k with
        | zero =>
          obtain rfl : x = h := by simpa using hk
          rw [he, Bool.true_and, decide_eq_true_eq] at hx
          exact .inl (Nat.lt_of_not_le hx)
        | succ k =>
          have := ih hlater hk
          omega

end

section
variable {n : Notifier} {i : Nat} {g : Group}

/-- The chosen group is one of the unit's, and eligible (R145). -/
theorem chosen_eligible (h : n.chosen = some (i, g)) : n.groups[i]? = some g ∧ g.eligible n.mask = true := by
  obtain ⟨-, hg, he⟩ := chooseGroup_some (Notifier.chosen.eq_1 _ ▸ h)
  rw [Nat.sub_zero] at hg
  exact ⟨hg, he⟩

theorem chosen_highest (h : n.chosen = some (i, g)) {j : Nat} {x : Group} (hx : n.groups[j]? = some x)
    (he : x.eligible n.mask = true) : x.level < g.level ∨ (x.level = g.level ∧ i ≤ j) := by
  have := chooseGroup_highest (Notifier.chosen.eq_1 _ ▸ h) hx he
  rwa [Nat.zero_add] at this

/-- A group is chosen exactly when one is eligible. -/
theorem chosen_isSome_iff : n.chosen.isSome = true ↔ ∃ x ∈ n.groups, x.eligible n.mask = true := by
  constructor
  · intro h
    obtain ⟨⟨i, g⟩, hc⟩ := Option.isSome_iff_exists.1 h
    obtain ⟨hg, he⟩ := chosen_eligible hc
    exact ⟨g, List.mem_of_getElem? hg, he⟩
  · rintro ⟨x, hx, he⟩
    refine Option.isSome_iff_ne_none.2 fun hnone => ?_
    exact not_eligible_of_chooseGroup_none (Notifier.chosen.eq_1 _ ▸ hnone) x hx he

end

/-- Settles O31: the choice is an eligible group, none that is eligible comes before it, and there is a choice whenever a group
is eligible. -/
theorem arbiterChoosesTheHighestLevel : Obligations.ArbiterChoosesTheHighestLevel := by
  refine ⟨fun n i g hc => ?_, fun n j x hx hp hl => ?_⟩
  · obtain ⟨hg, he⟩ := chosen_eligible hc
    obtain ⟨hpending, hlevel⟩ := eligible_iff.1 he
    exact ⟨hg, hpending, hlevel, fun j x hx hp hl => chosen_highest hc hx (eligible_iff.2 ⟨hp, hl⟩)⟩
  · have hsome := chosen_isSome_iff.2 ⟨x, List.mem_of_getElem? hx, eligible_iff.2 ⟨hp, hl⟩⟩
    obtain ⟨⟨i, g⟩, hc⟩ := Option.isSome_iff_exists.1 hsome
    exact ⟨i, g, hc⟩

/-! ### The arbiter's row (R144, R146) -/

theorem notifyFrame_eq {g : Group} {a : Accumulation} (h : g.acc = some a) (i : Nat) :
    notifyFrame i g = ⟨.notify, 0, byte i, notifyPayload g.sequence a, none⟩ := by
  rw [notifyFrame, h]
  rfl

/-- Settles O32: the row composes once where the arbiter's conditions hold, and with no request waiting, what follows is the
arbiter alone. -/
theorem arbiterComposes : Obligations.ArbiterComposes := by
  intro s hintake
  refine ⟨fun hidle => ?_, fun i g a hready hc ha => ⟨_, _, rfl, ?_, rfl⟩⟩
  · have hrow : exec .notificationFrameComposed s = finish s :=
      congrArg finish (if_neg (Bool.eq_false_iff.1 hidle))
    rw [hrow, finish, settle_settled (handlerReady_of_intake hintake) hidle]
  · have hrow : exec .notificationFrameComposed s = finish (compose s) := congrArg finish (if_pos hready)
    rw [hrow, finish, settle_empty ((compose_intake s).trans hintake), compose_eq hc, notifyFrame_eq ha]
    rfl

end Sys2Proof.Machine
end

section
/-! The requests of the notification unit on a free handler: GSET and NMASK (R149, R150; O33), NACK and EVREAD (R147, R151;
O34). -/
namespace Sys2Proof.Machine

section
variable {tag : Byte} {s : State} {n : Notifier}

/-! ### Requests that change the notification unit alone -/

/-- A request of the notification unit on a free handler is answered, and then the arbiter composes what it can (R144). -/
theorem ready_notifies (h : Ready tag s) (c : Code) {p q : List Byte} {r : Result} (hlen : p.length = c.required p)
    (hx : carryOut c tag p (reserveFor [] s) = answer tag r q { reserveFor [] s with notif := n }) :
    finish (requestArrives c.byte tag p s) = .next (composeAll (replied tag r q { s with notif := n })) := by
  obtain ⟨-, hintake, -⟩ := h.1
  have hreplied : answer tag r q { reserveFor [] s with notif := n } = replied tag r q { s with notif := n } := by
    unfold answer reserveFor replied
    rw [← hintake]
    rfl
  rw [ready_request h c hlen, hx, hreplied]

/-- An answer lets the arbiter compose nothing, where no group has become eligible. -/
theorem replied_unready (h : Idle s) (tag : Byte) (r : Result) (q : List Byte)
    (hn : n.chosen.isSome = true → s.notif.chosen.isSome = true) :
    arbiterReady (replied tag r q { s with notif := n }) = false := by
  obtain ⟨-, -, hplace, harbiter⟩ := h
  have hframes : (replied tag r q { s with notif := n }).link.notifications = s.link.notifications := by
    simp [replied, Link.notifications, responseFrame, OutFrame.isNotification]
  refine Bool.eq_false_iff.2 fun hready => Bool.eq_false_iff.1 harbiter ?_
  obtain ⟨hreset, ⟨i, g, hc⟩, hroom, -⟩ := arbiterReady_iff.1 hready
  obtain ⟨⟨j, x⟩, hx⟩ := Option.isSome_iff_exists.1 (hn (Option.isSome_iff_exists.2 ⟨_, hc⟩))
  exact arbiterReady_iff.2 ⟨hreset, ⟨j, x, hx⟩, hframes ▸ hroom, hplace⟩

/-- A group that takes new values makes no group eligible that was not, if it is not made eligible itself (R143). -/
theorem chosen_of_set {i : Nat} {g x : Group} (hg : s.notif.groups[i]? = some g)
    (hx : x.eligible s.notif.mask = true → g.eligible s.notif.mask = true)
    (h : ({ s.notif with groups := s.notif.groups.set i x } : Notifier).chosen.isSome = true) :
    s.notif.chosen.isSome = true := by
  obtain ⟨y, hy, he⟩ := chosen_isSome_iff.1 h
  rcases List.mem_or_eq_of_mem_set hy with hy | rfl
  · exact chosen_isSome_iff.2 ⟨y, hy, he⟩
  · exact chosen_isSome_iff.2 ⟨g, List.mem_of_getElem? hg, hx he⟩

/-- A request that gives a group new values which do not make it eligible is answered, and nothing follows. -/
theorem ready_setGroup (h : Ready tag s) (c : Code) {p q : List Byte} {r : Result} (hlen : p.length = c.required p)
    {i : Nat} {g x : Group} (hg : s.notif.groups[i]? = some g)
    (hx : x.eligible s.notif.mask = true → g.eligible s.notif.mask = true)
    (hc : carryOut c tag p (reserveFor [] s) = answer tag r q (setGroup i x (reserveFor [] s))) :
    finish (requestArrives c.byte tag p s) =
      .next (replied tag r q { s with notif := { s.notif with groups := s.notif.groups.set i x } }) := by
  have hunready := replied_unready h.1 tag r q (chosen_of_set hg hx)
  exact (ready_notifies h c hlen hc).trans (congrArg Host.Outcome.next (composeAll_of_not_ready hunready))

/-- A request that is refused, or only asks, changes nothing. -/
theorem ready_unchanged (h : Ready tag s) (c : Code) {p q : List Byte} {r : Result} (hlen : p.length = c.required p)
    (hx : carryOut c tag p (reserveFor [] s) = answer tag r q (reserveFor [] s)) :
    finish (requestArrives c.byte tag p s) = .next (replied tag r q s) := ready_answer h c hlen hx rfl rfl rfl

theorem groupAt_of_some {i : Nat} {g : Group} (h : s.notif.groups[i]? = some g) : groupAt s i = g := by
  rw [groupAt, h]
  rfl

/-! ### GSET and NMASK (R149, R150) -/

theorem doGset_refused {p : List Byte} {o : Nat} (h : groupBad p = some o) :
    doGset tag p s = answer tag .badField [byte o] s := by
  rw [doGset, h]
  rfl

theorem doGset_set {p : List Byte} {g : Group} (h : groupBad p = none) (hg : s.notif.groups[fieldAt p 0]? = some g) :
    doGset tag p s = answer tag .ok [g.delivery.code, g.sequence]
      (setGroup (fieldAt p 0) { g with level := fieldAt p 1, enable := wordAt p 2 } s) := by
  rw [doGset, h]
  dsimp only
  rw [groupAt_of_some hg]

/-- A GSET that passes its tests names one of the ten groups (R149). -/
theorem group_of_groupBad {p : List Byte} (h : groupBad p = none) : fieldAt p 0 < 10 := by
  have hall := firstBad_none h
  simp only [List.forall_mem_cons, within_iff] at hall
  obtain ⟨⟨-, hnumber⟩, -⟩ := hall
  exact Nat.lt_succ_of_le hnumber

theorem doNmask_set {m : Byte} (h : m.toNat ≤ 7) :
    doNmask tag [m] s = answer tag .ok [] { s with notif := { s.notif with mask := m.toNat } } :=
  if_neg (Nat.not_lt.2 h)

theorem doNmask_refused {m : Byte} (h : 7 < m.toNat) : doNmask tag [m] s = answer tag .badField [0] s := if_pos h

/-! ### NACK (R147) -/

section
variable {m q : Byte} {g : Group}

theorem doNack_acknowledged {x : Group} (hm : m.toNat ≤ 9) (hg : s.notif.groups[m.toNat]? = some g)
    (hq : g.sequence = q) (hx : g.acknowledged = some x) :
    doNack tag [m, q] s = answer tag .ok [] (setGroup m.toNat x s) := by
  have hat : groupAt s (fieldAt [m, q] 0) = g := groupAt_of_some hg
  have hfield : ¬9 < fieldAt [m, q] 0 := Nat.not_lt.2 hm
  have hsequence : g.sequence = byteAt [m, q] 1 := hq
  unfold doNack
  dsimp only
  rw [if_neg hfield, hat, if_pos hsequence, hx]
  rfl

/-- With no frame outstanding, or another sequence, a NACK finds nothing (R147). -/
theorem doNack_notFound (hm : m.toNat ≤ 9) (hg : s.notif.groups[m.toNat]? = some g)
    (h : g.delivery = .idle ∨ g.delivery = .pending ∨ g.sequence ≠ q) :
    doNack tag [m, q] s = answer tag .notFound [] s := by
  have hat : groupAt s (fieldAt [m, q] 0) = g := groupAt_of_some hg
  have hfield : ¬9 < fieldAt [m, q] 0 := Nat.not_lt.2 hm
  have hunacknowledged (hd : g.delivery = .idle ∨ g.delivery = .pending) : g.acknowledged = none := by
    unfold Group.acknowledged
    rcases hd with hd | hd <;> rw [hd]
  unfold doNack
  dsimp only
  rw [if_neg hfield, hat]
  split
  next hsequence =>
    have hd : g.delivery = .idle ∨ g.delivery = .pending := by
      rcases h with hd | hd | hne
      · exact .inl hd
      · exact .inr hd
      · exact absurd hsequence hne
    rw [hunacknowledged hd]
    rfl
  next => rfl

/-! ### EVREAD (R151) -/

theorem seenBytes_eq (g : Group) : seenBytes g = bytes16 g.seen ++ [byte g.level] ++ bytes16 g.enable ++
    [g.delivery.code, g.sequence, byte ((g.acc.map Accumulation.count).getD 0)] := by
  unfold seenBytes Group.occurrences
  cases g.acc <;> rfl

theorem doEvread_read (hm : m.toNat ≤ 9) (hg : s.notif.groups[m.toNat]? = some g) :
    doEvread tag [m] s = answer tag .ok (seenBytes g) (setGroup m.toNat { g with seen := 0 } s) := by
  have hat : groupAt s (fieldAt [m] 0) = g := groupAt_of_some hg
  have hfield : ¬9 < fieldAt [m] 0 := Nat.not_lt.2 hm
  unfold doEvread
  dsimp only
  rw [if_neg hfield, hat]
  rfl

theorem doEvread_refused (hm : 9 < m.toNat) : doEvread tag [m] s = answer tag .badField [0] s := if_pos hm

end

end

/-! ### O33, O34 -/

/-- Settles O33: each request is its branch, carried out at once; what it makes eligible the arbiter composes after the answer. -/
theorem groupAndMaskSettings : Obligations.GroupAndMaskSettings := by
  intro tag s h ten
  refine ⟨fun p hlen hbad => ?_, fun p o hlen hbad => ?_, fun m hm => ?_, fun m hm => ?_⟩
  · have hg := List.getElem?_eq_getElem (ten.symm ▸ group_of_groupBad hbad : fieldAt p 0 < s.notif.groups.length)
    exact ⟨_, hg, ready_notifies h .gset hlen (doGset_set hbad hg)⟩
  · exact ready_unchanged h .gset hlen (doGset_refused hbad)
  · exact ready_notifies h .nmask rfl (doNmask_set hm)
  · exact ready_unchanged h .nmask rfl (doNmask_refused hm)

/-- Settles O34: each clause is one branch of its request. Of the new values only those of a NACK in AWAITING_MORE make a group
eligible, so there alone the arbiter may go on. -/
theorem acknowledgeAndReadMarks : Obligations.AcknowledgeAndReadMarks := by
  refine ⟨fun tag m q g s h hm hg => ⟨fun hd hq => ?_, fun hd hq => ?_, fun hnot => ?_⟩,
    fun tag m s h => ⟨fun g hm hg => ?_, fun hm => ?_⟩⟩
  · have hx : g.acknowledged = some { g with sequence := g.sequence + 1, delivery := .idle } := by
      rw [Group.acknowledged, hd]
    have hidle (he : ({ g with sequence := g.sequence + 1, delivery := .idle } : Group).eligible s.notif.mask = true) :
        g.eligible s.notif.mask = true := nomatch (eligible_iff.1 he).1
    exact ready_setGroup h .nack rfl hg hidle (doNack_acknowledged hm hg hq hx)
  · have hx : g.acknowledged = some { g with sequence := g.sequence + 1, delivery := .pending } := by
      rw [Group.acknowledged, hd]
    exact ready_notifies h .nack rfl (doNack_acknowledged hm hg hq hx)
  · exact ready_unchanged h .nack rfl (doNack_notFound hm hg hnot)
  · rw [← seenBytes_eq]
    exact ready_setGroup h .evread rfl (x := { g with seen := 0 }) hg id (doEvread_read hm hg)
  · exact ready_unchanged h .evread rfl (doEvread_refused hm)

end Sys2Proof.Machine
end

section
/-! Resets and reset values (R163 to R166, R186): a reset in force holds the part until it ends (O14), how a reset from outside
and a RESET begin and end (O12, O13), and what the part holds after one (O3, O4). -/
namespace Sys2Proof.Machine

/-! ### A reset in force stays in force (R163) -/

section
variable {s t x : State}

theorem held_inForce (h : Held s) : s.resetting.isSome = true := by
  obtain ⟨cause, transaction, exchange, races, pending, rfl⟩ := h
  rfl

/-- While a reset is in force neither the handler nor the arbiter moves. -/
theorem finish_inForce (he : finish x = .next t) (hr : x.resetting.isSome = true) : t.resetting.isSome = true := by
  have hnone : x.resetting.isNone = false := Option.isNone_eq_false_iff.2 hr
  obtain rfl := Host.Outcome.next.inj he
  rwa [settle_settled (by simp [handlerReady, hnone]) (by simp [arbiterReady, hnone])]

/-- No command but RESET_END ends the reset that is in force: a row either does not occur while it lasts, or leaves it. -/
theorem exec_inForce (h : Held s) {c : Instr} (hc : c ≠ .resetEnd) (he : exec c s = .next t) :
    t.resetting.isSome = true := by
  have hs := held_inForce h
  have guarded {x : State} {g : Bool} (hx : x.resetting.isSome = true) (he : finish (if g then x else s) = .next t) :
      t.resetting.isSome = true := by
    refine finish_inForce he ?_
    split
    · exact hx
    · exact hs
  cases c with
  | resetEnd => exact absurd rfl hc
  | unknownRequest tag code payload => exact guarded ((h.requestArrives code tag payload).symm ▸ hs) he
  | inboundFrameComplete b | frameLength b | syncByteClockedOut b | frameClockedOut b | exchangeComplete b =>
    exact guarded (held_inForce (h.exchange b)) he
  | transactionStart => exact finish_inForce he (held_inForce h.fallCS)
  | transactionEnd => exact finish_inForce he (held_inForce h.riseCS)
  | freeMessageEnd l elapsed m =>
    have hdeaf := h.hearsFree elapsed l m.lead m.body
    refine finish_inForce he ?_
    rw [hdeaf, Bool.and_false]
    exact hs
  | sendWindowStart position => exact finish_inForce he ((h.windowStart .send openSend position).symm ▸ hs)
  | expectWindowStart position => exact finish_inForce he ((h.windowStart .expect openExpect position).symm ▸ hs)
  | openWindowStart position => exact finish_inForce he ((h.windowStart .openSlot openOpen position).symm ▸ hs)
  | quietWindowStart position => exact finish_inForce he ((h.windowStart .quiet openQuiet position).symm ▸ hs)
  | _ =>
    obtain ⟨cause, transaction, exchange, races, pending, rfl⟩ := h
    exact finish_inForce he rfl

end

/-- Settles O14: the reset stays in force, and what leaves one in force leaves every block at its reset values, with an empty
outbound queue. -/
theorem resetHoldsThePart : Obligations.ResetHoldsThePart := by
  intro c s t hsound hr hc he
  have ht := exec_inForce (hsound.held hr) hc he
  have hreset := hsound.exec he
  exact ⟨hreset, ht, congrArg (fun x => x.link.outbound) (hreset ht)⟩

/-! ### Resets begin and end (R163 to R166) -/

/-- Settles O12: the handler carries the RESET out, and the part it leaves has nothing to compose. -/
theorem resetRequestResets : Obligations.ResetRequestResets := by
  intro tag s h
  obtain ⟨-, hidle⟩ := commandReset_settled tag (reserveFor [] s)
  exact (ready_request h .reset rfl).trans (congrArg Host.Outcome.next (composeAll_of_not_ready hidle))

/-- A reset from outside is answered as it holds the part. -/
theorem finish_holdReset (cause : ResetCause) (s : State) : finish (holdReset cause s) = .next (holdReset cause s) :=
  finish_of_settled (holdReset_held cause s).settled rfl rfl rfl

theorem mergedCause_power (r : Option ResetCause) : mergedCause .power r = .power := by
  rcases r with _ | ⟨⟨⟩⟩ <;> rfl

theorem mergedCause_pin (r : Option ResetCause) :
    some (mergedCause .pin r) = if r = some .power then some .power else some .pin := by
  rcases r with _ | ⟨⟨⟩⟩ <;> rfl

/-- Once a reset has ended, the handler and the arbiter find nothing to do. -/
theorem releaseReset_settled {s : State} (h : Held s) (cause : ResetCause) : Settled (releaseReset cause s) := by
  obtain ⟨was, transaction, exchange, races, pending, rfl⟩ := h
  exact ⟨rfl, rfl⟩

/-- Settles O13: a reset begins with every block held and its cause merged with the one in force, and ends with STARTUP. -/
theorem outsideResets : Obligations.OutsideResets := by
  refine ⟨fun s => ?_, fun s => ?_, fun s cause hcause hsound => ?_⟩
  · exact ⟨_, finish_holdReset .power s, congrArg some (mergedCause_power s.resetting), rfl,
      (holdReset_held .power s).resetSound⟩
  · exact ⟨_, finish_holdReset .pin s, rfl, (holdReset_held .pin s).resetSound, mergedCause_pin s.resetting⟩
  · have hheld : Held s := hsound.held (by rw [hcause]; rfl)
    have hend : exec .resetEnd s = finish (releaseReset cause s) := by
      change execResetEnd s = _
      rw [execResetEnd, hcause]
    exact hend.trans (finish_of_settled (releaseReset_settled hheld cause) rfl rfl rfl)

/-! ### The part after a reset (R165, R166, R168) -/

/-- Settles O3: each clause is a row of the table. -/
theorem resetValues : Obligations.ResetValues :=
  ⟨rfl, rfl, rfl, rfl, rfl, rfl, rfl, rfl, rfl, rfl, rfl, rfl, rfl, rfl, rfl, rfl, rfl⟩

/-- The STARTUP frame is all there is on the link. -/
theorem reset_link_sound : LinkSound State.reset.link ∧ DeliverySound State.reset.link ∧ FramesSound State.reset.link := by
  have hlink : LinkSound State.reset.link := by decide
  have hframes : FramesSound State.reset.link := by decide
  exact ⟨hlink, ⟨⟨by decide, rfl, nofun⟩, rfl, nofun⟩, hframes⟩

/-- Settles O4: the link holds the STARTUP frame alone, and each other part of the invariant is what a reset gives its blocks. -/
theorem resetIsSound : Obligations.ResetIsSound := by
  have hbus : BusSound State.reset := .of_reset rfl
  have htime : TimeSound State.reset := .of_reset rfl
  have htables : TablesSound State.reset := .of_reset rfl
  have hpool : PoolSound State.reset := .of_reset rfl
  have hreports : ReportsSound State.reset := .of_reset rfl
  obtain ⟨hlink, hdelivery, hframes⟩ := reset_link_sound
  exact {
    params := htime.params
    link := hlink
    delivery := hdelivery
    frames := hframes
    parser := trivial
    deferred := ⟨rfl, rfl⟩
    still := fun _ => ⟨rfl, rfl, rfl, rfl, rfl⟩
    cycle := htime.cycle
    clock := htime.clock
    sync := htime.sync
    active := htables.valid.active
    edit := htables.valid.edit
    table := htables.valid.table
    window := hbus.window
    launch := hbus.launch
    onAir := hbus.onAir
    receiverA := hbus.receivers .A
    receiverB := hbus.receivers .B
    laneA := hbus.lanes .A
    laneB := hbus.lanes .B
    buffers := hpool.buffers
    sporadic := hpool.posts
    records := hreports.records
    groups := hreports.groups
    held := resetSound_of_none rfl
    settled := ⟨rfl, rfl⟩ }

end Sys2Proof.Machine
end

section
/-! The requests that ask, and CONFIG, on a free handler (R155 to R157, R161, R162, R121, R46, R49; O5, O6, O9). -/
namespace Sys2Proof.Machine

section
variable {tag : Byte} {s : State}

/-! ### EGET and TCHK (R46, R49) -/

/-- The bank that a bank code names (R191). -/
theorem bankOf_named (s : State) {b : Byte} (hb : b = 1 ∨ b = 2) :
    bankOf s b.toNat = some (if b = 1 then s.sched.active else s.sched.edit) := by
  rcases hb with rfl | rfl <;> rfl

theorem bankOf_unnamed (s : State) {b : Byte} (h1 : b ≠ 1) (h2 : b ≠ 2) : bankOf s b.toNat = none := by
  have hone : b.toNat ≠ 1 := fun h => h1 (BitVec.toNat_inj (y := 1).1 h)
  have htwo : b.toNat ≠ 2 := fun h => h2 (BitVec.toNat_inj (y := 2).1 h)
  rw [bankOf, if_neg hone, if_neg htwo]

/-- A bank named and a position that it has are answered with what stands there. -/
theorem doEget_answered {b q : Byte} {bank : Bank} (hb : bankOf s b.toNat = some bank) (hq : q.toNat ≤ 63) :
    doEget tag [b, q] s = answer tag .ok (positionBytes q.toNat (bank.entryAt q.toNat)) s := by
  have hbank : bankOf s (fieldAt [b, q] 0) = some bank := hb
  have hposition : ¬63 < fieldAt [b, q] 1 := Nat.not_lt.2 hq
  simp only [doEget, hbank, if_neg hposition]
  rfl

theorem doEget_beyond {b q : Byte} {bank : Bank} (hb : bankOf s b.toNat = some bank) (hq : 63 < q.toNat) :
    doEget tag [b, q] s = answer tag .badField [1] s := by
  have hbank : bankOf s (fieldAt [b, q] 0) = some bank := hb
  have hposition : 63 < fieldAt [b, q] 1 := hq
  simp only [doEget, hbank, if_pos hposition]
  rfl

theorem doEget_unnamed {b q : Byte} (hb : bankOf s b.toNat = none) : doEget tag [b, q] s = answer tag .badField [0] s := by
  have hbank : bankOf s (fieldAt [b, q] 0) = none := hb
  simp only [doEget, hbank]
  rfl

/-- An empty position is answered with the byte that it came in, and zeros. -/
theorem positionBytes_none (q : Byte) : positionBytes q.toNat none = q :: List.replicate 19 0 := by
  simp [positionBytes, byte]

theorem doTchk_valid (h : validate s.cfg s.bufs s.sched.edit = none) : doTchk tag s = answer tag .ok [] s := by
  simp only [doTchk, h]

theorem doTchk_invalid {f : Failure} (h : validate s.cfg s.bufs s.sched.edit = some f) :
    doTchk tag s = answer tag .tableInvalid f.payload s := by
  simp only [doTchk, h]

theorem payload_eq (f : Failure) : f.payload = [f.reason.code, byte f.i, (f.j.map byte).getD 0xFF] := by
  rw [← optByte_eq]
  rfl

end

/-- Settles O5: each request is answered from the state by its block, and none changes anything. -/
theorem queriesAnswered : Obligations.QueriesAnswered := by
  refine ⟨fun tag s h => ⟨?_, ?_, ?_⟩, fun tag s h => ⟨fun b q hb hq => ?_, fun b q h1 h2 => ?_, fun b q hb hq => ?_,
    fun hv => ?_, fun f hf => ?_⟩⟩
  · exact ready_unchanged h .ident rfl rfl
  · exact ready_unchanged h .stat rfl rfl
  · exact ready_unchanged h .slist rfl rfl
  · have hget := ready_unchanged h .eget rfl (doEget_answered (s := reserveFor [] s) (bankOf_named s hb) hq)
    cases he : (if b = 1 then s.sched.active else s.sched.edit).entryAt q.toNat with
    | some e =>
      rw [he] at hget
      exact hget
    | none =>
      rw [he, positionBytes_none] at hget
      exact hget
  · exact ready_unchanged h .eget rfl (doEget_unnamed (s := reserveFor [] s) (bankOf_unnamed s h1 h2))
  · exact ready_unchanged h .eget rfl (doEget_beyond (s := reserveFor [] s) (bankOf_named s hb) hq)
  · exact ready_unchanged h .tchk rfl (doTchk_valid (s := reserveFor [] s) hv)
  · rw [← payload_eq]
    exact ready_unchanged h .tchk rfl (doTchk_invalid (s := reserveFor [] s) hf)

/-! ### The bytes of the configuration (R154, R190) -/

theorem byte_toNat {n : Nat} (h : n ≤ 255) : (byte n).toNat = n := by
  rw [byte, BitVec.toNat_ofNat]
  exact Nat.mod_eq_of_lt (Nat.lt_succ_of_le h)

/-- A number that fits a two-byte field comes back from its bytes. -/
theorem wordOf_number16 {n : Nat} (h : n ≤ 65535) :
    (wordOf (lowByte (BitVec.ofNat 16 n)) (highByte (BitVec.ofNat 16 n))).toNat = n := by
  rw [wordOf_bytes, BitVec.toNat_ofNat]
  exact Nat.mod_eq_of_lt (Nat.lt_succ_of_le h)

theorem roleOfCode_code (r : Role) : Role.ofCode r.code.toNat = some r := by cases r <;> rfl

theorem laneOfCode_code (l : Lane) : Lane.ofCode l.code.toNat = some l := by cases l <;> rfl

theorem flagByte_toNat (b : Bool) : (flagByte b).toNat = b.toNat := by cases b <;> rfl

/-- The tests pass when each field passes its own (R203). -/
theorem firstBad_eq_none {fields : List (Nat × Bool)} (h : ∀ x ∈ fields, x.2 = true) : firstBad fields = none := by
  induction fields with
  | nil => rfl
  | cons x xs ih =>
    obtain ⟨hx, hxs⟩ := List.forall_mem_cons.1 h
    rw [firstBad, if_pos hx]
    exact ih hxs

section
variable {c : Params}

/-- The fields of the CFGGET answer, each read at its offset (R190). -/
theorem configBytes_fields (h : ParamsSound c) :
    fieldAt (configBytes c) 0 = c.nodeId ∧ Role.ofCode (fieldAt (configBytes c) 1) = some c.role ∧
    (wordAt (configBytes c) 2).toNat = c.cycleLength ∧ fieldAt (configBytes c) 4 = c.tol ∧
    fieldAt (configBytes c) 5 = c.lockWindow ∧ fieldAt (configBytes c) 6 = c.correctionLimit ∧
    fieldAt (configBytes c) 7 = c.holdoverLimit ∧ Lane.ofCode (fieldAt (configBytes c) 8) = some c.preferredLane ∧
    fieldAt (configBytes c) 9 = c.debitLimit ∧ fieldAt (configBytes c) 10 = c.holdTime ∧
    fieldAt (configBytes c) 11 = c.probationCount ∧ fieldAt (configBytes c) 12 = c.autoReadmission.toNat := by
  exact ⟨byte_toNat (by omega), roleOfCode_code c.role, wordOf_number16 (by omega), byte_toNat (by omega),
    byte_toNat (by omega), byte_toNat (by omega), byte_toNat (by omega), laneOfCode_code c.preferredLane,
    byte_toNat (by omega), byte_toNat (by omega), byte_toNat (by omega), flagByte_toNat c.autoReadmission⟩

/-- Read as a CONFIG payload, the CFGGET answer carries the parameters it was made from. -/
theorem configOf_configBytes (h : ParamsSound c) : configOf (configBytes c) = c := by
  obtain ⟨hnode, hrole, hlength, htol, hlock, hcorrection, hholdover, hlane, hdebit, hhold, hprobation, hflag⟩ :=
    configBytes_fields h
  have hauto : decide (c.autoReadmission.toNat = 1) = c.autoReadmission := by cases c.autoReadmission <;> rfl
  rw [configOf, hnode, hrole, hlength, htol, hlock, hcorrection, hholdover, hlane, hdebit, hhold, hprobation, hflag, hauto]
  rfl

/-- It passes the field tests, but for an unset node id. -/
theorem configBad_configBytes (h : ParamsSound c) (hset : c.nodeId ≠ 0) : configBad (configBytes c) = none := by
  obtain ⟨hnode, hrole, hlength, htol, hlock, hcorrection, hholdover, hlane, hdebit, hhold, hprobation, hflag⟩ :=
    configBytes_fields h
  have hauto : c.autoReadmission.toNat ≤ 1 := c.autoReadmission.toNat_le
  rw [configBad, hnode, hrole, hlength, htol, hlock, hcorrection, hholdover, hlane, hdebit, hhold, hprobation, hflag]
  refine firstBad_eq_none ?_
  simp only [List.forall_mem_cons, within_iff, Option.isSome_some]
  exact ⟨by omega, trivial, by omega, by omega, by omega, by omega, by omega, trivial, by omega, by omega, by omega, by omega,
    nofun⟩

end

/-- Settles O6: the answer is the stored parameters' bytes, which carry them back. -/
theorem cfggetAnswersTheStore : Obligations.CfggetAnswersTheStore := fun _ s h hp =>
  ⟨configBytes s.cfg, rfl, ready_unchanged h .cfgget rfl rfl, rfl, configOf_configBytes hp, configBad_configBytes hp⟩

/-! ### CONFIG (R155, R156) -/

section
variable {tag : Byte} {p : List Byte} {s : State}

theorem doConfig_outside (hs : s.tb.sync ≠ .offline) : doConfig tag p s = answer tag .wrongState [] s := if_pos hs

theorem doConfig_badField (hs : s.tb.sync = .offline) {o : Nat} (ho : configBad p = some o) :
    doConfig tag p s = answer tag .badField [byte o] s := by
  simp [doConfig, hs, ho, badField]

theorem doConfig_invalid (hs : s.tb.sync = .offline) (hb : configBad p = none) {f : Failure}
    (hf : validate (configOf p) s.bufs s.sched.active = some f) :
    doConfig tag p s = answer tag .tableInvalid f.payload s := by
  simp [doConfig, hs, hb, hf]

theorem doConfig_stored (hs : s.tb.sync = .offline) (hb : configBad p = none)
    (hv : validate (configOf p) s.bufs s.sched.active = none) :
    doConfig tag p s = answer tag .ok [] (storeConfig (configOf p) s) := by
  simp [doConfig, hs, hb, hv]

end

/-- Settles O9: each clause is one of the tests of R155, and a CONFIG that passes them stores what it carries. -/
theorem configStoresOrRefuses : Obligations.ConfigStoresOrRefuses := by
  refine fun tag p s h hlen => ⟨fun hs => ?_, fun hs => ⟨fun o ho => ?_, fun hb => ⟨fun f hf => ?_, fun hv => ?_⟩⟩⟩
  · exact ready_unchanged h .config hlen (doConfig_outside (s := reserveFor [] s) hs)
  · exact ready_unchanged h .config hlen (doConfig_badField (s := reserveFor [] s) hs ho)
  · rw [← payload_eq]
    exact ready_unchanged h .config hlen (doConfig_invalid (s := reserveFor [] s) hs hb hf)
  · exact ready_answer h .config hlen (x := storeConfig (configOf p) s)
      (doConfig_stored (s := reserveFor [] s) hs hb hv) rfl rfl rfl

end Sys2Proof.Machine
end

section
/-! START and STOP on a free handler (R158, R159; O10, O11). -/
namespace Sys2Proof.Machine

/-! ### START (R22, R28, R158) -/

/-- The part is in LISTEN with its configured role, and its receivers hear from this moment on. -/
def started (s : State) : State :=
  { s with
    tb := { s.tb with sync := .listen, role := s.cfg.role }
    rx := ⟨{ s.rx.a with since := s.now }, { s.rx.b with since := s.now }⟩ }

/-- A master's startup listen runs, and its START is deferred. -/
def awaiting (tag : Byte) (s : State) : State :=
  { s with
    tb := { s.tb with startupListen := some (s.now + 2 * s.cfg.cycleLength) }
    link := { s.link with deferred := some ⟨.start, tag⟩ } }

section
variable {tag : Byte} {s : State}

/-- LISTEN is entered with STATE_CHANGED, whatever the role. -/
theorem startListening_posts (s : State) :
    Posts [] [syncNotice s.tb.cycle s.tb.sync .listen s.cfg.role 0] (started s)
      (changeSync .listen (setTimebase { s.tb with role := s.cfg.role } (receivers LaneSet.both (Receiver.listen s.now) s))) :=
  (changeSync_does .listen).posts _

theorem doStart_outside (hs : s.tb.sync ≠ .offline) : doStart tag s = answer tag .wrongState [] s := if_pos hs

theorem doStart_unset (hs : s.tb.sync = .offline) (hn : s.cfg.nodeId = 0) :
    doStart tag s = answer tag .notConfigured [] s := by
  simp [doStart, hs, hn, refuse]

theorem doStart_follower (hs : s.tb.sync = .offline) (hn : s.cfg.nodeId ≠ 0) (hr : s.cfg.role = .follower) :
    Posts [responseFrame tag .ok []] [syncNotice s.tb.cycle .offline .listen s.cfg.role 0] (unreserved (started s))
      (doStart tag s) := by
  have hposts := (answer_does tag .ok []).after (startListening_posts s)
  rw [hs] at hposts
  simpa [doStart, startPart, hs, hn, hr] using hposts

theorem doStart_master (hs : s.tb.sync = .offline) (hn : s.cfg.nodeId ≠ 0) (hr : s.cfg.role = .master) :
    Posts [] [syncNotice s.tb.cycle .offline .listen s.cfg.role 0] (awaiting tag (started s)) (doStart tag s) := by
  have hposts := (startListening_posts s).map (f := awaiting tag) fun _ _ _ _ => rfl
  rw [hs] at hposts
  simpa [doStart, startPart, hs, hn, hr, awaiting, setTimebase] using hposts

/-- What a follower's START leaves but for the event and the answer. -/
theorem unreserved_started (hi : s.link.intake = []) (hr : s.cfg.role = .follower) :
    unreserved (started (reserveFor [] s)) = { s with
      tb := { s.tb with sync := .listen, role := .follower }
      rx := ⟨{ s.rx.a with since := s.now }, { s.rx.b with since := s.now }⟩ } := by
  have hback : unreserved (started (reserveFor [] s)) = started s := congrArg started (unreserved_reserveFor hi)
  rw [hback, started, hr]

/-- What a master's START leaves but for the event: its reservation is the deferred request's. -/
theorem awaiting_started (tag : Byte) (hi : s.link.intake = []) (hr : s.cfg.role = .master) :
    awaiting tag (started (reserveFor [] s)) = { s with
      rx := ⟨{ s.rx.a with since := s.now }, { s.rx.b with since := s.now }⟩
      tb := { s.tb with sync := .listen, role := .master, startupListen := some (s.now + 2 * s.cfg.cycleLength) }
      link := { s.link with deferred := some ⟨.start, tag⟩, reservations := s.link.reservations + 1 } } := by
  simp only [awaiting, started, reserveFor, hr, ← hi]

end

/-- Settles O10: START is refused, answered to a follower, or deferred for a master. -/
theorem startEntersListen : Obligations.StartEntersListen := by
  intro tag s h ten
  have htaken : exec (.start tag []) s = .next (composeAll (doStart tag (reserveFor [] s))) := ready_request h .start rfl
  obtain ⟨-, hintake, -⟩ := h.1
  refine ⟨fun hs => ?_, fun hs hn => ?_, fun hs hn => ?_⟩
  · exact ready_unchanged h .start rfl (doStart_outside (s := reserveFor [] s) hs)
  · exact ready_unchanged h .start rfl (doStart_unset (s := reserveFor [] s) hs hn)
  · intro notices rx
    refine ⟨fun hr => ?_, fun hr => ?_⟩
    · have hposts := (doStart_follower (tag := tag) (s := reserveFor [] s) hs hn hr).composeAll
      rw [unreserved_started hintake hr] at hposts
      exact ⟨_, htaken, hposts.raised rfl ten, hposts.answers rfl⟩
    · have hposts := (doStart_master (tag := tag) (s := reserveFor [] s) hs hn hr).composeAll
      rw [awaiting_started tag hintake hr] at hposts
      exact ⟨_, htaken, hposts.raised rfl ten, hposts.answers rfl⟩

/-! ### STOP (R38, R159) -/

/-- The timebase has stopped with the launch cut and the window abandoned, and a pending commit is not settled yet. -/
def offlined (s : State) : State :=
  setTimebase { (stopped s).tb with
    sync := .offline, role := (stopped s).cfg.role, offset := 0, length := (stopped s).cfg.cycleLength, missed := 0
    startupListen := none, beaconMark := false, lastTaken := none, atCycleStart := false, markUntil := none } (stopped s)

theorem offlined_blind : Blind offlined := fun n o r s => by
  unfold offlined
  rw [stopped_blind]
  rfl

theorem offlined_eq (s : State) : offlined s = { s with
    tb := { s.tb with
      sync := .offline, role := s.cfg.role, offset := 0, length := s.cfg.cycleLength, missed := 0
      startupListen := none, beaconMark := false, lastTaken := none, atCycleStart := false, markUntil := none }
    launch := none, spor := cutQueue s, rx := stoppedReceivers s, sched := { s.sched with window := none } } := by
  rw [offlined, stopped_eq]
  rfl

/-- A pending commit has taken effect, and no START is deferred any more. -/
def settledOffline (s : State) : State := undefer .start (committed (offlined s))

/-- The answers to what was deferred when a STOP comes: the TCOMMIT of a pending commit, and a START. -/
def stopAnswers (s : State) : List OutFrame :=
  (if s.sched.commitPending then s.link.deferredAnswer .tcommit .ok else []) ++
    (committed (offlined s)).link.deferredAnswer .start .cancelled

section
variable {tag : Byte} {s : State}

/-- Steps 1 to 5 of STOP in their order (R159). -/
theorem stopPart_posts (s : State) :
    Posts (stopAnswers s)
      (syncNotice s.tb.cycle s.tb.sync .offline s.cfg.role 0 :: commitNotices .cyclesStopped s.tb.cycle s)
      (settledOffline s) (stopPart s) := by
  have hsync := (raiseSyncChanged_does s.tb.sync).after ((Posts.refl s).map offlined_blind)
  have hposts := (answerDeferred_does .start .cancelled).after ((settleCommit_does .cyclesStopped).after hsync)
  change Posts _ _ _ (stopPart s) at hposts
  unfold stopAnswers settledOffline
  rw [id_eq, offlined_eq] at hposts
  rw [offlined_eq]
  simpa [commitNotices, Sync.running] using hposts

/-- Where the receivers stand after a stop is no matter of the link. -/
theorem stoppedReceivers_link (k : Link) (s : State) : stoppedReceivers { s with link := k } = stoppedReceivers s := by
  have hcut : cutLaunch LaneSet.both { s with link := k } = { cutLaunch LaneSet.both s with link := k } := by
    unfold cutLaunch
    cases hx : s.launch with
    | none => simp only [← hx]
    | some x =>
      dsimp only
      split
      · cases x.kind <;> rfl
      · rfl
  unfold stoppedReceivers
  rw [hcut]
  rfl

/-- The deferred request stands in its turn, so settling the commit and the START leaves the link with nothing deferred. -/
theorem undeferred_link (hd : DeferredSound s) (hk : LinkSound s.link) (hi : s.link.intake = []) :
    (unreserved (settledOffline (reserveFor [] s))).link = { s.link with deferred := none, reservations := 0 } := by
  obtain ⟨-, -, -, hreserved⟩ := hk
  simp only [settledOffline, committed_eq, offlined_eq, unreserved, undefer, reserveFor, ← hi]
  unfold DeferredSound at hd
  split at hd
  next hnone => simp [Link.withoutDeferred, hreserved, hnone, hd.1]
  next d hsome =>
    obtain ⟨kind, tag⟩ := d
    cases kind with
    | start => simp [Link.withoutDeferred, hreserved, hsome, hd.1]
    | tcommit => simp [Link.withoutDeferred, hreserved, hsome, hd.1]

/-- What a STOP leaves but for its events and answers. -/
theorem unreserved_settledOffline (hd : DeferredSound s) (hk : LinkSound s.link) (hi : s.link.intake = []) :
    unreserved (settledOffline (reserveFor [] s)) = { s with
      tb := { s.tb with
        sync := .offline, role := s.cfg.role, offset := 0, length := s.cfg.cycleLength, missed := 0
        startupListen := none, beaconMark := false, lastTaken := none, atCycleStart := false, markUntil := none }
      sched := stoppedSchedule s.sched, launch := none, spor := cutQueue s, rx := stoppedReceivers s
      link := { s.link with deferred := none, reservations := 0 } } := by
  have hrx : stoppedReceivers (reserveFor [] s) = stoppedReceivers s := stoppedReceivers_link _ s
  rw [← undeferred_link hd hk hi, ← hrx]
  unfold settledOffline
  rw [committed_eq, offlined_eq]
  rfl

/-- At most one of the two kinds of request is deferred, and it gets its answer. -/
theorem stopAnswers_eq (hd : DeferredSound s) : stopAnswers s =
    match s.link.deferred with
    | some ⟨.start, d⟩ => [responseFrame d .cancelled []]
    | some ⟨.tcommit, d⟩ => [responseFrame d .ok []]
    | none => [] := by
  unfold stopAnswers
  rw [committed_eq, offlined_eq]
  unfold DeferredSound at hd
  split at hd
  next hnone => simp [Link.deferredAnswer, hnone, hd.1]
  next d hsome =>
    obtain ⟨kind, tag⟩ := d
    cases kind with
    | start => simp [Link.deferredAnswer, hsome, hd.1]
    | tcommit => simp [Link.deferredAnswer, Link.withoutDeferred, hsome, hd.1]

theorem doStop_offline (hs : s.tb.sync = .offline) : doStop tag s = answer tag .ok [0] s := by
  rw [doStop, if_pos hs, hs]
  rfl

theorem doStop_posts (tag : Byte) (hs : s.tb.sync ≠ .offline) :
    Posts (stopAnswers s ++ [responseFrame tag .ok [s.tb.sync.code]])
      (syncNotice s.tb.cycle s.tb.sync .offline s.cfg.role 0 :: commitNotices .cyclesStopped s.tb.cycle s)
      (unreserved (settledOffline s)) (doStop tag s) := by
  have hposts := (answer_does tag .ok [s.tb.sync.code]).after (stopPart_posts s)
  rw [List.append_nil] at hposts
  rwa [doStop, if_neg hs]

end

/-- Settles O11: STOP is its five steps and then its own answer. -/
theorem stopEndsOffline : Obligations.StopEndsOffline := by
  intro tag s h ten hd hk
  refine ⟨fun hs => ready_unchanged h .stop rfl (doStop_offline (s := reserveFor [] s) hs), fun hs => ?_⟩
  have htaken : exec (.stop tag []) s = .next (composeAll (doStop tag (reserveFor [] s))) := ready_request h .stop rfl
  have hposts := (doStop_posts (s := reserveFor [] s) tag hs).composeAll
  obtain ⟨-, hintake, -⟩ := h.1
  rw [unreserved_settledOffline hd hk hintake, stopAnswers_eq (s := reserveFor [] s) hd] at hposts
  exact ⟨_, htaken, hposts.raised rfl ten, hposts.answers rfl⟩

end Sys2Proof.Machine
end

section
/-! The link as one invariant: its places, its delivery and its parser, with the places that answers still owed have reserved; and
the operations of the blocks, which let frames join the outbound queue only where a place is theirs (R168 to R183). -/
namespace Sys2Proof.Machine

/-! ### The link (R168 to R179) -/

/-- The link is sound while `owed` answers have a place reserved beside the deferred request's (R172, R182, R183). Inside an
exchange (`mid`) CS is low, and the byte that goes out may belong to no queued frame any longer (R170). -/
structure LinkFit (mid : Bool) (owed : Nat) (k : Link) : Prop where
  used : k.used ≤ 8
  notifications : k.notifications ≤ 2
  intake : k.intake.length ≤ 4
  reserved : k.reservations = (if k.deferred.isSome then 1 else 0) + owed
  emptied : k.outbound = [] → k.delivered = 0
  oldest : ∀ f rest, k.outbound = f :: rest →
    k.delivered < f.size ∧ f.fill.isSome = decide (0 < k.delivered) ∧ ∀ g ∈ rest, g.fill = none
  exchanging : k.exchange.isSome = k.transaction
  low : mid = true → k.transaction = true
  offered : mid = false → ∀ x ∈ k.exchange, x.source = .frame → k.outbound ≠ []
  frames : FramesSound k
  parser : ParserSound k.parser

section
variable {mid : Bool} {owed : Nat} {k : Link}

theorem linkFit_iff (k : Link) :
    LinkFit false 0 k ↔ LinkSound k ∧ DeliverySound k ∧ FramesSound k ∧ ParserSound k.parser := by
  constructor
  · intro h
    refine ⟨⟨h.used, h.notifications, h.intake, h.reserved⟩, ⟨?_, h.exchanging, h.offered rfl⟩, h.frames, h.parser⟩
    cases hk : k.outbound with
    | nil => exact h.emptied hk
    | cons f rest => exact h.oldest f rest hk
  · rintro ⟨⟨hused, hnotify, hintake, hreserved⟩, ⟨holdest, hexchange, hoffered⟩, hframes, hparser⟩
    refine ⟨hused, hnotify, hintake, hreserved, ?_, ?_, hexchange, nofun, fun _ => hoffered, hframes, hparser⟩
    · intro hk
      rw [hk] at holdest
      exact holdest
    · intro f rest hk
      rw [hk] at holdest
      exact holdest

/-- A frame that is not begun joins the tail of the outbound queue. -/
theorem LinkFit.join (h : LinkFit mid owed k) {f : OutFrame} {reservations later : Nat} {deferred : Option Deferred}
    (hfill : f.fill = none) (hlength : f.payload.length ≤ 240) (hused : k.outbound.length + 1 + reservations ≤ 8)
    (hnotify : k.notifications + (if f.isNotification then 1 else 0) ≤ 2)
    (hreserved : reservations = (if deferred.isSome then 1 else 0) + later) :
    LinkFit mid later { k with outbound := k.outbound ++ [f], reservations := reservations, deferred := deferred } where
  used := by
    unfold Link.used
    rw [List.length_append, List.length_singleton]
    exact hused
  notifications := by
    unfold Link.notifications
    rw [List.countP_append, List.countP_singleton]
    exact hnotify
  intake := h.intake
  reserved := hreserved
  emptied hk := by simp at hk
  oldest g rest hk := by
    cases hq : k.outbound with
    | nil =>
      obtain ⟨rfl, rfl⟩ : f = g ∧ rest = [] := by simpa [hq] using hk
      have hzero : k.delivered = 0 := h.emptied hq
      exact ⟨by simp [hzero, OutFrame.size], by simp [hzero, hfill], nofun⟩
    | cons x more =>
      obtain ⟨rfl, rfl⟩ : x = g ∧ more ++ [f] = rest := by simpa [hq] using hk
      obtain ⟨hlt, hbegun, hrest⟩ := h.oldest x more hq
      refine ⟨hlt, hbegun, fun y hy => ?_⟩
      rcases List.mem_append.1 hy with hy | hy
      · exact hrest y hy
      · rwa [List.mem_singleton.1 hy]
  exchanging := h.exchanging
  low := h.low
  offered _ _ _ _ hk := by simp at hk
  frames y hy := by
    rcases List.mem_append.1 hy with hy | hy
    · exact h.frames y hy
    · rwa [List.mem_singleton.1 hy]
  parser := h.parser

/-- An answer enters the place that was reserved for it (R182). -/
theorem LinkFit.answer {s : State} (h : LinkFit mid (owed + 1) s.link) (tag : Byte) (r : Result) {p : List Byte}
    (hp : p.length ≤ 240) : LinkFit mid owed (answer tag r p s).link := by
  have hused : s.link.outbound.length + s.link.reservations ≤ 8 := h.used
  have hreserved := h.reserved
  exact h.join (f := responseFrame tag r p) rfl hp (by omega) h.notifications (by omega)

/-- A request is deferred, and its reservation lasts (R183). -/
theorem LinkFit.defer (h : LinkFit mid (owed + 1) k) (hnone : k.deferred = none) (d : Deferred) :
    LinkFit mid owed { k with deferred := some d } := by
  have hreserved : k.reservations = 1 + owed := by simpa [hnone, Nat.add_comm] using h.reserved
  exact { h with reserved := hreserved }

end

/-! ### What a block's operation does to the link -/

/-- No place is given up, and the link stays sound. -/
structure Serves (s t : State) : Prop where
  used : s.link.used ≤ t.link.used
  fit : ∀ {mid : Bool} {owed : Nat}, LinkFit mid owed s.link → LinkFit mid owed t.link

/-- Nor is the deferred request parted from what it waits for. -/
structure Tends (s t : State) : Prop extends Serves s t where
  deferred : DeferredSound s → DeferredSound t

/-- What a deferred request waits for: a pending commit, or the startup listen of a master (R22, R51). -/
structure Waits where
  commit : Bool
  listen : Option Nat
  sync : Sync
  role : Role

def State.waits (s : State) : Waits := ⟨s.sched.commitPending, s.tb.startupListen, s.tb.sync, s.tb.role⟩

section
variable {s t u : State}

/-- The deferred request and what it waits for are all that its soundness looks at. -/
theorem DeferredSound.of_waits (h : DeferredSound s) (hd : t.link.deferred = s.link.deferred) (hw : t.waits = s.waits) :
    DeferredSound t := by
  obtain ⟨hcommit, hlisten, hsync, hrole⟩ := Waits.mk.inj hw
  unfold DeferredSound
  rw [hd, hcommit, hlisten, hsync, hrole]
  exact h

theorem deferredSound_of_none (hd : t.link.deferred = none) (hc : t.sched.commitPending = false)
    (hl : t.tb.startupListen = none) : DeferredSound t := by
  unfold DeferredSound
  rw [hd]
  exact ⟨hc, hl⟩

theorem Serves.trans (h : Serves s t) (k : Serves t u) : Serves s u := ⟨h.used.trans k.used, fun hs => k.fit (h.fit hs)⟩

/-- A change that leaves the link alone. -/
theorem Serves.plain (hl : t.link = s.link) : Serves s t := ⟨by rw [hl], fun h => by rwa [hl]⟩

theorem Tends.refl (s : State) : Tends s s := ⟨.plain rfl, id⟩

theorem Tends.trans (h : Tends s t) (k : Tends t u) : Tends s u :=
  ⟨h.toServes.trans k.toServes, fun hs => k.deferred (h.deferred hs)⟩

/-- A change that leaves the link and what a deferred request waits for alone. Where the goal tells the new state, `(by rfl)`
waits for it. -/
theorem Tends.plain (hl : t.link = s.link) (hw : t.waits = s.waits) : Tends s t :=
  ⟨.plain hl, fun h => h.of_waits (by rw [hl]) hw⟩

/-- A further such change. -/
theorem Tends.andPlain (h : Tends s t) (hl : u.link = t.link) (hw : u.waits = t.waits) : Tends s u := h.trans (.plain hl hw)

variable (s)

/-! ### Notifications (R139 to R146) -/

/-- The arbiter composes only where a place is free and fewer than two notifications are queued (R144). -/
theorem compose_tends (h : arbiterReady s = true) : Tends s (compose s) := by
  obtain ⟨-, ⟨i, g, hc⟩, hroom, hplace⟩ := arbiterReady_iff.1 h
  have hfree : s.link.outbound.length + s.link.reservations < 8 := of_decide_eq_true hplace
  rw [compose_eq hc]
  refine ⟨⟨?_, fun hk => ?_⟩, fun hd => hd.of_waits rfl rfl⟩
  · simp only [Link.used, List.length_append]
    omega
  · exact hk.join (f := notifyFrame i g) rfl (by simp [notifyFrame, notifyPayload, bytes16]) (by omega)
      (by simpa [notifyFrame, OutFrame.isNotification] using hroom) hk.reserved

theorem composeAll_tends : Tends s (composeAll s) := by
  have once (x : State) : Tends x (if arbiterReady x then compose x else x) := by
    split
    next h => exact compose_tends x h
    next => exact .refl x
  exact (once s).trans (once _)

theorem countRace_tends : Tends s (countRace s) := .plain rfl rfl

theorem raise_tends (e : Event) (d : Detail) : Tends s (raise e d s) := by
  have haccept : Tends s { s with notif := s.notif.accept e s.tb.cycle d } := .plain rfl rfl
  unfold raise
  dsimp only
  split_ifs
  · exact haccept.trans ((countRace_tends _).trans (composeAll_tends _))
  · exact haccept.trans (countRace_tends _)
  · exact haccept

/-! ### Records and the sporadic queue (R118, R122, R126 to R129) -/

theorem insertRecord_tends (r : Record) : Tends s (insertRecord r s) := by
  have hinserted : Tends s { s with recs := { s.recs with
      records := s.recs.records ++ [{ r with number := s.recs.next }], next := s.recs.next + 1 } } := .plain rfl rfl
  unfold insertRecord
  dsimp only
  split
  · exact hinserted.trans (raise_tends _ _ _)
  · exact hinserted

theorem fileRecord_tends (r : Record) : Tends s (fileRecord r s) := by
  have hlost : Tends s { s with recs := { s.recs with lost := min 65535 (s.recs.lost + 1) } } := .plain rfl rfl
  unfold fileRecord
  dsimp only
  split_ifs
  · exact insertRecord_tends s r
  · exact hlost.trans (raise_tends _ _ _)
  · exact hlost

theorem logRecord_tends (logged : Bool) (r : Record) : Tends s (if logged then fileRecord r s else s) := by
  split
  · exact fileRecord_tends s r
  · exact .refl s

theorem raiseQueueEmpty_tends (ticket : Nat) (cause : Byte) (cycle : BitVec 6) :
    Tends s (raiseQueueEmpty ticket cause cycle s) := by
  unfold raiseQueueEmpty
  split
  · exact raise_tends s _ _
  · exact .refl s

theorem expireEntry_tends (e : SporadicEntry) : Tends s (expireEntry e s) := by
  have hremoved : Tends s (removeTicket e.ticket s) := .plain rfl rfl
  exact (hremoved.trans (fileRecord_tends _ _)).trans (raise_tends _ _ _)

theorem expireAll_tends (gone : List SporadicEntry) : Tends s (gone.foldl (fun t e => expireEntry e t) s) := by
  induction gone generalizing s with
  | nil => exact .refl s
  | cons e rest ih => exact (expireEntry_tends s e).trans (ih _)

theorem expireDue_tends : Tends s (expireDue s) := by
  unfold expireDue
  split
  · exact .refl s
  · exact (expireAll_tends s _).trans (raiseQueueEmpty_tends _ _ _ _)

/-! ### Lanes (R9, R91 to R98, R106) -/

theorem cutLaunch_tends (lanes : LaneSet) : Tends s (cutLaunch lanes s) := by
  rcases cutLaunch_cases lanes s with ⟨-, h⟩ | ⟨x, -, ⟨-, h⟩ | ⟨-, h⟩⟩ <;> rw [h]
  · exact .refl s
  · exact .plain rfl rfl
  · cases x.kind <;> exact .plain rfl rfl

theorem stopped_tends : Tends s (stopped s) := (cutLaunch_tends s _).andPlain rfl rfl

theorem laneLeaves_tends (l : Lane) : Tends s (laneLeaves l s) := (cutLaunch_tends s _).andPlain rfl rfl

theorem changeLane_tends (l : Lane) (cause : LaneCause) (u : LaneUnit) : Tends s (changeLane l cause u s) :=
  Tends.trans (t := { s with lanes := s.lanes.set l u }) (.plain rfl rfl) (raise_tends _ _ _)

theorem faultLane_tends (l : Lane) (cause : LaneCause) : Tends s (faultLane l cause s) :=
  (laneLeaves_tends s l).trans (changeLane_tends _ l cause _)

theorem enterProbation_tends (l : Lane) (cause : LaneCause) : Tends s (enterProbation l cause s) :=
  Tends.trans (t := { s with rx := s.rx.update l (Receiver.listen s.now) }) (.plain rfl rfl) (changeLane_tends _ l cause _)

theorem promoteLane_tends (l : Lane) : Tends s (promoteLane l s) := changeLane_tends s l _ _

theorem chargeLane_tends (l : Lane) (amount : Nat) {report : Nat → State → State} (hr : ∀ d x, Tends x (report d x)) :
    Tends s (chargeLane l amount report s) := by
  have hcharged (d : Nat) : Tends s (report d (setDebit l d s)) := Tends.trans (t := setDebit l d s) (.plain rfl rfl) (hr d _)
  unfold chargeLane
  dsimp only
  split
  · exact (hcharged _).trans (faultLane_tends _ l _)
  · exact hcharged _

theorem gradeOutcome_tends (l : Lane) (o : Outcome) (proved : Bool) (position : Option Nat) (cycle : BitVec 6) :
    Tends s (gradeOutcome l o proved position cycle s) := by
  have hreport (d : Nat) (x : State) : Tends x (reportReceiveError l o position cycle d x) := raise_tends x _ _
  unfold gradeOutcome
  split
  · split_ifs
    · exact .plain rfl rfl
    · exact chargeLane_tends s l 2 hreport
    · exact chargeLane_tends s l 2 fun _ x => .refl x
    · exact .refl s
  · split_ifs
    · exact .plain rfl rfl
    · exact (hreport _ s).trans (faultLane_tends _ l _)
    · exact .refl s
  · exact .refl s
  · exact .refl s

theorem gradeEcho_tends (l : Lane) (o : Outcome) (k : LaunchKind) (position : Option Nat) (cycle : BitVec 6) :
    Tends s (gradeEcho l o k position cycle s) := by
  unfold gradeEcho
  split_ifs
  · exact .plain rfl rfl
  · exact chargeLane_tends s l 4 (report := reportTransmitFault l k position cycle) fun _ x => raise_tends x _ _
  · exact .refl s
  · exact .refl s

theorem gradeEchoes_tends (k : LaunchKind) (position : Option Nat) (cycle : BitVec 6) (o : PerLane Outcome) :
    Tends s (gradeEchoes k position cycle o s) :=
  (gradeEcho_tends s .A o.a k position cycle).trans (gradeEcho_tends _ .B o.b k position cycle)

theorem laneCycleStart_tends (l : Lane) : Tends s (laneCycleStart l s) := by
  have hunit (u : LaneUnit) : Tends s (setUnit l u s) := .plain rfl rfl
  cases hu : (s.lanes.get l).state with
  | faulted =>
    rw [laneCycleStart_faulted hu]
    split
    · exact (hunit _).trans (enterProbation_tends _ l _)
    · exact hunit _
  | probation =>
    rw [laneCycleStart_probation hu]
    split
    · exact (hunit _).trans (promoteLane_tends _ l)
    · exact hunit _
  | active =>
    rw [laneCycleStart_other (.inl hu)]
    exact .refl s
  | disabled =>
    rw [laneCycleStart_other (.inr hu)]
    exact .refl s

/-! ### Windows and launches (R58 to R63, R90, R115) -/

theorem launchBeacon_tends (lanes : LaneSet) : Tends s (launchBeacon lanes s) := by
  unfold launchBeacon
  split
  · exact .plain rfl rfl
  · exact .refl s

theorem openSend_tends (position : Nat) (e : Entry) : Tends s (openSend position e s) := by
  have hopen (role : WindowRole) : Tends s (openWindow position e role s) := .plain rfl rfl
  unfold openSend
  dsimp only
  split
  · exact hopen _
  · split
    · exact ((hopen _).trans (raise_tends _ _ _)).trans (logRecord_tends _ _ _)
    · split
      next n y _ =>
        have hlaunched : Tends s (openWindow position e (.send (e.lanes.inter (activeLanes s)) .inProgress)
          (beginLaunch (sendLaunch e (e.lanes.inter (activeLanes s)) y s) (setBuffer n y.after s))) := .plain rfl rfl
        unfold launchSend
        dsimp only
        split
        · exact hlaunched.trans (raise_tends _ _ _)
        · exact hlaunched
      next => exact hopen _

theorem openOpen_tends (position : Nat) (e : Entry) : Tends s (openOpen position e s) := by
  unfold openOpen
  split
  · exact .plain rfl rfl
  · split <;> exact .plain rfl rfl

theorem windowStart_tends {role : EntryRole} {start : Nat → Entry → State → State}
    (hs : ∀ (position : Nat) (e : Entry) (x : State), Tends x (start position e x)) (position : Nat) :
    Tends s (windowStart role start position s) := by
  unfold windowStart
  split
  next e _ => exact Tends.trans (t := passTo e.start s) (.plain rfl rfl) (hs position e _)
  next => exact .refl s

theorem carrierStart_tends (l : Lane) (offset : Nat) : Tends s (carrierStart l offset s) := by
  unfold carrierStart
  split
  next w _ =>
    split
    · have hmarked : Tends s { passTo offset s with
          sched := { s.sched with window := some { w with role := w.role.breach } }
          rx := s.rx.update l (Receiver.occupy (passTo offset s).now) } := .plain rfl rfl
      exact (hmarked.trans (fileRecord_tends _ _)).trans (raise_tends _ _ _)
    · exact .refl s
  next => exact .refl s

theorem reportDisagree_tends (w : Window) (c : Combined) : Tends s (reportDisagree w c s) := by
  unfold reportDisagree
  split
  · exact raise_tends s _ _
  · exact .refl s

theorem applyToBuffer_tends (w : Window) (c : Combined) (f : Facts) : Tends s (applyToBuffer w c f s) := by
  unfold applyToBuffer
  split
  · exact .refl s
  · split
    · dsimp only
      split
      · exact (raise_tends s .receiveOverrun _).andPlain rfl rfl
      · exact .plain rfl rfl
    · exact .plain rfl rfl
    · exact .refl s
    · exact .refl s

theorem reportAlarm_tends (w : Window) (c : Combined) (v : PerLane LaneView) : Tends s (reportAlarm w c v s) := by
  unfold reportAlarm
  split
  · split
    · exact raise_tends s _ _
    · exact raise_tends s _ _
    · exact .refl s
    · exact .refl s
  · exact .refl s

theorem endExpect_tends (w : Window) (a b : List Heard) : Tends s (endExpect w a b s) := by
  have hclosed : Tends s (closeHeard w a b s) := .plain rfl rfl
  have hgraded (v : PerLane LaneView) : Tends s (gradeWindow w v (closeHeard w a b s)) :=
    (hclosed.trans (gradeOutcome_tends _ _ _ _ _ _)).trans (gradeOutcome_tends _ _ _ _ _ _)
  have happlied (v : PerLane LaneView) (c : Combined) (f : Facts) :=
    ((hgraded v).trans (reportDisagree_tends _ w c)).trans (applyToBuffer_tends _ w c f)
  exact ((happlied _ _ _).trans (logRecord_tends _ w.entry.log _)).trans (reportAlarm_tends _ _ _ _)

theorem closeExpect_tends (a b : List Heard) : Tends s (closeExpect a b s) := by
  unfold closeExpect
  split
  next w _ =>
    split
    · exact Tends.trans (t := passTo w.ends s) (.plain rfl rfl) (endExpect_tends _ w a b)
    · exact .refl s
  next => exact .refl s

theorem closeWindow_tends : Tends s (closeWindow s) := by
  unfold closeWindow
  split
  · split <;> exact .plain rfl rfl
  · exact .refl s

section
variable (x : Launch) (a b : Echo)

/-- The launch is over and its lanes are graded. -/
theorem gradeLaunch_tends (k : LaunchKind) (position : Option Nat) (o : PerLane Outcome) :
    Tends s (gradeEchoes k position x.cycle o (endLaunch x s)) :=
  Tends.trans (t := endLaunch x s) (.plain rfl rfl) (gradeEchoes_tends _ _ _ _ _)

theorem endSend_tends : Tends s (endSend x a b s) := by
  unfold endSend
  dsimp only
  split
  · exact (gradeLaunch_tends s x _ _ _).trans (logRecord_tends _ _ _)
  · exact gradeLaunch_tends s x _ _ _

theorem completeSporadic_tends (w : Window) (y : SporadicEntry) (o : PerLane Outcome) :
    Tends s (completeSporadic w x y o s) := by
  have hremoved : Tends s (removeTicket y.ticket s) := .plain rfl rfl
  exact ((hremoved.trans (fileRecord_tends _ _)).trans (raise_tends _ _ _)).trans (raiseQueueEmpty_tends _ _ _ _)

theorem endSporadic_tends : Tends s (endSporadic x a b s) := by
  unfold endSporadic
  dsimp only
  split
  · exact (gradeLaunch_tends s x _ _ _).trans (completeSporadic_tends _ x _ _ _)
  · exact gradeLaunch_tends s x _ _ _

theorem endBeacon_tends : Tends s (endBeacon x a b s) :=
  Tends.trans (t := releaseLaunch x s) (.plain rfl rfl) (gradeEchoes_tends _ _ _ _ _)

end

theorem launchEnd_tends {kind : LaunchKind} {stop : Launch → State → State}
    (hs : ∀ (x : Launch) (y : State), Tends y (stop x y)) :
    Tends s (launchEnd kind stop s) := by
  unfold launchEnd
  split
  next x _ =>
    split
    · exact Tends.trans (t := passTo x.ends s) (.plain rfl rfl) (hs x _)
    · exact .refl s
  next => exact .refl s

end

end Sys2Proof.Machine
end

section
/-! The commit and the timebase keep the link sound and the deferred request matched to what it waits for: where the wait ends,
the request is answered (R22 to R24, R51 to R53, R159, R183). -/
namespace Sys2Proof.Machine

section
variable {s t : State}

/-! ### Deferred answers and the commit (R52, R53, R183) -/

/-- What is posted to the host touches no deferred request. -/
theorem Posts.deferredSound {responses : List OutFrame} {notices : List Notice} (h : Posts responses notices s t)
    (hs : DeferredSound s) : DeferredSound t := by
  obtain ⟨n, new, r, rfl, -⟩ := h
  exact hs.of_waits rfl rfl

/-- Outside LISTEN no startup listen runs (R22). -/
theorem DeferredSound.listen_none (h : DeferredSound s) (hs : s.tb.sync ≠ .listen) : s.tb.startupListen = none := by
  unfold DeferredSound at h
  split at h
  next => exact h.2
  next d _ =>
    split at h
    next => exact absurd h.2.2.1 hs
    next => exact h.2.1

theorem DeferredSound.listen_none_of_running (h : DeferredSound s) (hr : s.tb.sync.running = true) :
    s.tb.startupListen = none :=
  h.listen_none fun hs => by rw [hs] at hr; cases hr

/-- With no startup listen, and no commit pending while cycles run, nothing is deferred. -/
theorem DeferredSound.undeferred (h : DeferredSound s) (hl : s.tb.startupListen = none)
    (hc : s.sched.commitPending = true → s.tb.sync.running = false) :
    s.link.deferred = none ∧ s.sched.commitPending = false := by
  unfold DeferredSound at h
  split at h
  next hnone => exact ⟨hnone, h.1⟩
  next d _ =>
    split at h
    next => rw [hl] at h; exact nomatch h.2.1
    next => exact nomatch (hc h.1).symm.trans h.2.2

/-- In OFFLINE nothing is deferred, and nothing waits. -/
theorem DeferredSound.of_offline (h : DeferredSound s) (hs : s.tb.sync = .offline) :
    s.link.deferred = none ∧ s.sched.commitPending = false ∧ s.tb.startupListen = none := by
  have hl := h.listen_none (by rw [hs]; nofun)
  obtain ⟨hnone, hcommit⟩ := h.undeferred hl fun _ => by rw [hs]; rfl
  exact ⟨hnone, hcommit, hl⟩

/-- A pending commit is the deferred request's, and nothing else is; once it has taken effect none is deferred. -/
theorem DeferredSound.committed (h : DeferredSound s) : DeferredSound (committed s) := by
  rw [committed_eq]
  cases hc : s.sched.commitPending with
  | false => exact h.of_waits rfl (by simp [State.waits, hc])
  | true =>
    unfold DeferredSound at h
    split at h
    next => exact nomatch hc.symm.trans h.1
    next d hd =>
      split at h
      next => exact nomatch hc.symm.trans h.1
      next hk => exact deferredSound_of_none (by simp [Link.withoutDeferred, hd, hk]) rfl h.2.1

variable (s)

/-- A deferred request is answered into its own reservation (R183). -/
theorem answerDeferred_serves (kind : DeferredKind) (r : Result) : Serves s (answerDeferred kind r s) := by
  obtain ⟨tag, hd, h⟩ | ⟨-, h⟩ := answerDeferred_cases kind r s
  · rw [h]
    refine ⟨?_, fun {mid owed} hk => ?_⟩
    · simp only [Link.used, List.length_append, List.length_singleton]
      omega
    · have hreserved : s.link.reservations = 1 + owed := by simpa [hd] using hk.reserved
      have hused : s.link.outbound.length + s.link.reservations ≤ 8 := hk.used
      exact hk.join (f := responseFrame tag r []) rfl (Nat.zero_le _) (by omega) hk.notifications
        (by simp [hreserved])
  · rw [h]
    exact .plain rfl

theorem settleCommit_serves (cause : CommitCause) : Serves s (settleCommit cause s) := by
  have hcopied : Serves s (copyEdit s) := .plain rfl
  unfold settleCommit
  split
  · exact (hcopied.trans (answerDeferred_serves _ _ _)).trans (raise_tends _ _ _).toServes
  · exact .plain rfl

theorem settleCommit_tends (cause : CommitCause) : Tends s (settleCommit cause s) :=
  ⟨settleCommit_serves s cause, fun h => ((settleCommit_does cause).posts s).deferredSound h.committed⟩

/-! ### Cycle starts and beacons (R18, R24, R27 to R36) -/

theorem blockReactions_tends : Tends s (blockReactions s) := by
  have haged : Tends s (ageBuffers (settleCommit .cycleStart s)) := (settleCommit_tends s _).andPlain rfl rfl
  have hlanes := (haged.trans (laneCycleStart_tends _ .A)).trans (laneCycleStart_tends _ .B)
  refine Tends.trans ?_ (expireDue_tends _)
  exact hlanes.andPlain rfl rfl

theorem cycleStartEvent_tends (first : Promotions) : Tends s (cycleStartEvent first s) := by
  have hbegun : Tends s (beginCycle s) := .plain rfl rfl
  exact (hbegun.trans (blockReactions_tends _)).trans (launchBeacon_tends _ _)

theorem hardAlign_tends (number : BitVec 6) : Tends s (hardAlign number s) := by
  unfold hardAlign
  dsimp only
  split
  · have hset (tb : Timebase) (hl : tb.startupListen = s.tb.startupListen) (hs : tb.sync = s.tb.sync)
        (hr : tb.role = s.tb.role) : Tends s (setTimebase tb (stopped s)) := by
      rw [stopped_eq]
      exact .plain rfl (by simp only [State.waits, setTimebase, hl, hs, hr])
    refine Tends.trans ?_ (blockReactions_tends _)
    exact hset _ rfl rfl rfl
  · exact .plain rfl rfl

theorem changeSync_serves (new : Sync) : Serves s (changeSync new s) :=
  Serves.trans (t := setTimebase { s.tb with sync := new } s) (.plain rfl) (raise_tends _ _ _).toServes

theorem hardAlign_listen (number : BitVec 6) : (hardAlign number s).tb.startupListen = s.tb.startupListen := by
  cases hr : s.tb.sync.running with
  | true => exact congrArg (fun c : Clock => c.tb.startupListen) (hardAlign_clock (number := number) hr)
  | false => rw [hardAlign_idle hr]; rfl

theorem alignAndAcquire_serves (number : BitVec 6) : Serves s (alignAndAcquire number s) :=
  (hardAlign_tends s number).toServes.trans (changeSync_serves _ _)

theorem conflictInListen_serves (l : Lane) (number : BitVec 6) (sender : Nat) :
    Serves s (conflictInListen l number sender s) := by
  have hdemoted : Serves s (demote (setTimebase { s.tb with startupListen := none } s)) := .plain rfl
  exact ((hdemoted.trans (raise_tends _ _ _).toServes).trans (alignAndAcquire_serves _ number)).trans
    (answerDeferred_serves _ _ _)

variable {s}

/-- What a pending commit waits for goes on while cycles do (R51). -/
theorem DeferredSound.carries (h : DeferredSound s) (hl : s.tb.startupListen = none)
    (hd : t.link.deferred = s.link.deferred) (hc : t.sched.commitPending = s.sched.commitPending)
    (htl : t.tb.startupListen = none) (hr : s.tb.sync.running = true → t.tb.sync.running = true) : DeferredSound t := by
  unfold DeferredSound at h ⊢
  rw [hd, hc]
  split at h
  next => exact ⟨h.1, htl⟩
  next d _ =>
    split at h
    next => rw [hl] at h; exact nomatch h.2.1
    next => exact ⟨h.1, htl, hr h.2.2⟩

theorem DeferredSound.changeSync (h : DeferredSound s) (hl : s.tb.startupListen = none) {new : Sync}
    (hnew : new.running = true) : DeferredSound (changeSync new s) :=
  ((changeSync_does new).posts s).deferredSound (h.carries (t := synced new s) hl rfl rfl hl fun _ => hnew)

theorem DeferredSound.alignAndAcquire (h : DeferredSound s) (hl : s.tb.startupListen = none) (number : BitVec 6) :
    DeferredSound (alignAndAcquire number s) :=
  DeferredSound.changeSync ((hardAlign_tends s number).deferred h) ((hardAlign_listen s number).trans hl) rfl

/-- The START that waited is answered (R24). -/
theorem DeferredSound.conflictInListen (h : DeferredSound s) (hs : s.tb.sync = .listen) (l : Lane) (number : BitVec 6)
    (sender : Nat) : DeferredSound (conflictInListen l number sender s) := by
  refine (conflictInListen_posts (.refl s) hs).deferredSound ?_
  unfold DeferredSound at h
  split at h
  next hd => exact deferredSound_of_none (by simp [startedOn, Link.withoutDeferred, hd]) h.1 rfl
  next d hd =>
    split at h
    next hk => exact deferredSound_of_none (by simp [startedOn, Link.withoutDeferred, hd, hk]) h.1 rfl
    next => rw [hs] at h; exact nomatch h.2.2

variable (s)

theorem conflictInLocked_tends (hs : s.tb.sync = .locked) (l : Lane) (number : BitVec 6) (sender : Nat) :
    Tends s (conflictInLocked l number sender s) := by
  have hcut := cutLaunch_tends s LaneSet.both
  have hcuttb : (cutLaunch LaneSet.both s).tb = s.tb := congrArg Clock.tb (cutLaunch_clock s LaneSet.both)
  have hdemote : Serves s (demote (cutLaunch LaneSet.both s)) := hcut.toServes.trans (.plain rfl)
  refine ⟨(hdemote.trans (raise_tends _ _ _).toServes).trans (alignAndAcquire_serves _ number), fun h => ?_⟩
  have hl : (cutLaunch LaneSet.both s).tb.startupListen = none := by
    rw [hcuttb]
    exact h.listen_none (by rw [hs]; nofun)
  have hdemoted : DeferredSound (demote (cutLaunch LaneSet.both s)) := (hcut.deferred h).carries hl rfl rfl hl id
  exact ((raise_tends _ _ _).deferred hdemoted).alignAndAcquire (by rw [raise_tb]; exact hl) number

theorem realignFromHoldover_tends (hs : s.tb.sync = .holdover) (number : BitVec 6) :
    Tends s (realignFromHoldover number s) := by
  have hacquire : Tends s (setTimebase { s.tb with sync := .acquire } s) := ⟨.plain rfl, fun h =>
    have hl := h.listen_none (by rw [hs]; nofun)
    h.carries hl rfl rfl hl fun _ => rfl⟩
  exact ((hacquire.trans (cutLaunch_tends _ _)).trans (hardAlign_tends _ number)).trans (raise_tends _ _ _)

theorem correct_tends (e : Int) (number : BitVec 6) (l : Lane) (sender : Nat) : Tends s (correct e number l sender s) := by
  unfold correct
  dsimp only
  split
  · exact .plain rfl rfl
  · refine Tends.trans ?_ (raise_tends _ _ _)
    exact .plain rfl rfl

/-- A beacon in window locks a follower (R34, R36). -/
theorem lock_tends (hr : s.tb.sync.running = true) : Tends s (changeSync .locked s) :=
  ⟨changeSync_serves s .locked, fun h => h.changeSync (h.listen_none_of_running hr) rfl⟩

theorem correct_sync (e : Int) (number : BitVec 6) (l : Lane) (sender : Nat) :
    (correct e number l sender s).tb.sync = s.tb.sync := by
  unfold correct
  dsimp only
  split
  · rfl
  · rw [raise_tb]
    rfl

theorem actOnBeacon_tends (l : Lane) (stamp : Stamp) (number : BitVec 6) (sender : Nat) :
    Tends s (actOnBeacon l stamp number sender s) := by
  have hcorrected := correct_tends s (phaseError s stamp) number l sender
  have hsync := correct_sync s (phaseError s stamp) number l sender
  unfold actOnBeacon
  dsimp only
  split
  next => exact .refl s
  next hs =>
    split
    next => exact ⟨conflictInListen_serves s l number sender, fun h => h.conflictInListen hs l number sender⟩
    next hl =>
      exact ⟨alignAndAcquire_serves s number, fun h => h.alignAndAcquire (Option.not_isSome_iff_eq_none.1 hl) number⟩
  next hs =>
    split
    · exact hcorrected.trans (lock_tends _ (by rw [hsync, hs]; rfl))
    · exact hardAlign_tends s number
  next hs =>
    split_ifs
    · exact conflictInLocked_tends s hs l number sender
    · exact hcorrected
    · exact raise_tends s _ _
  next hs =>
    split
    · refine Tends.trans ?_ (lock_tends _ (congrArg Sync.running (hsync.trans hs)))
      exact hcorrected.andPlain rfl rfl
    · exact realignFromHoldover_tends s hs number

theorem freeMessage_tends (l : Lane) (stamp : Stamp) (m : Message) : Tends s (freeMessage l stamp m s) := by
  have hgraded (o : Outcome) : Tends s (gradeBeacon l o s) := gradeOutcome_tends s _ _ _ _ _
  unfold freeMessage
  split
  next =>
    unfold takeBeacon
    dsimp only
    split
    · exact hgraded .good
    · refine Tends.trans ?_ (actOnBeacon_tends _ l stamp _ _)
      exact (hgraded .good).andPlain rfl rfl
  next o _ _ => exact hgraded o
  next => exact .refl s

theorem endFree_tends (l : Lane) (m : Message) : Tends s (endFree l m s) := by
  refine Tends.trans ?_ (freeMessage_tends _ l _ m)
  exact .plain rfl rfl

/-! ### Missed beacons, and the end of the startup listen (R23, R33 to R36) -/

theorem fallToListen_tends : Tends s (fallToListen s) := by
  have hhalted : Serves s (halted s) := (stopped_tends s).toServes.trans (.plain rfl)
  refine ⟨(hhalted.trans (raise_tends _ _ _).toServes).trans (settleCommit_serves _ _), fun h => ?_⟩
  refine (fallToListen_posts (.refl s)).deferredSound ?_
  unfold DeferredSound at h
  split at h
  next hd => exact deferredSound_of_none (by simp [fallen, h.1, hd]) rfl h.2
  next d hd =>
    split at h
    next hk =>
      obtain ⟨hc, hl, -, hr⟩ := h
      have hlink : (fallen s).link.deferred = some d := by simp [fallen, hc, hd]
      unfold DeferredSound
      rw [hlink]
      dsimp only
      rw [hk]
      exact ⟨rfl, hl, rfl, hr⟩
    next hk => exact deferredSound_of_none (by simp [fallen, h.1, hd, hk, Link.withoutDeferred]) rfl h.2.1

theorem missedBeacon_tends : Tends s (missedBeacon s) := by
  unfold missedBeacon
  split
  next => exact fallToListen_tends s
  next hs =>
    have hholdover : Tends s (setTimebase { s.tb with sync := .holdover, missed := 1 } s) := ⟨.plain rfl, fun h =>
      have hl := h.listen_none (by rw [hs]; nofun)
      h.carries hl rfl rfl hl fun _ => rfl⟩
    exact (hholdover.trans (raise_tends _ _ _)).trans (raise_tends _ _ _)
  next =>
    have hmissed : Tends s (raiseBeaconMissed (setTimebase { s.tb with missed := s.tb.missed + 1 } s)) :=
      Tends.trans (t := setTimebase { s.tb with missed := s.tb.missed + 1 } s) (.plain rfl rfl) (raise_tends _ _ _)
    dsimp only
    split
    · exact hmissed.trans (fallToListen_tends _)
    · exact hmissed
  next => exact .refl s
  next => exact .refl s

theorem meetDeadline_tends : Tends s (meetDeadline s) := by
  unfold meetDeadline
  dsimp only
  split
  · exact .plain rfl rfl
  · refine Tends.trans ?_ (missedBeacon_tends _)
    exact .plain rfl rfl

theorem expireListen_serves (moment : Nat) : Serves s (expireListen moment s) := by
  have hwaited : Serves s { s with now := max s.now moment, tb := { s.tb with startupListen := none } } := .plain rfl
  unfold expireListen
  refine Serves.trans ?_ (answerDeferred_serves _ _ _)
  refine Serves.trans ?_ (launchBeacon_tends _ _).toServes
  exact (hwaited.trans (changeSync_serves _ .locked)).trans (.plain rfl)

/-- The startup listen ends with the answer to the START that waited for it (R23). -/
theorem expireListen_tends (moment : Nat) (hl : s.tb.startupListen.isSome = true) : Tends s (expireListen moment s) := by
  refine ⟨expireListen_serves s moment, fun h => (expireListen_posts moment s).deferredSound ?_⟩
  rw [launchBeacon_eq]
  unfold DeferredSound at h
  split at h
  next => rw [h.2] at hl; exact nomatch hl
  next d hd =>
    split at h
    next hk => exact deferredSound_of_none (by simp [undefer, firstCycle, Link.withoutDeferred, hd, hk]) h.1 rfl
    next => rw [h.2.1] at hl; exact nomatch hl

/-! ### Start and stop (R22, R38, R159) -/

theorem startPart_serves : Serves s (startPart s) := by
  have hconfigured : Serves s (setTimebase { s.tb with role := s.cfg.role } (receivers LaneSet.both (Receiver.listen s.now) s)) :=
    .plain rfl
  have hlisten := hconfigured.trans (changeSync_serves _ .listen)
  unfold startPart
  dsimp only
  split
  · exact hlisten.trans (.plain rfl)
  · exact hlisten

/-- A STOP answers whatever was deferred (R159). -/
theorem stopPart_tends : Tends s (stopPart s) := by
  have hoffline : Serves s (offlined s) := (stopped_tends s).toServes.trans (.plain rfl)
  refine ⟨((hoffline.trans (raise_tends _ _ _).toServes).trans (settleCommit_serves _ _)).trans
    (answerDeferred_serves _ _ _), fun h => (stopPart_posts s).deferredSound ?_⟩
  unfold settledOffline
  rw [committed_eq, offlined_eq]
  unfold DeferredSound at h
  split at h
  next hd => exact deferredSound_of_none (by simp [undefer, Link.withoutDeferred, hd, h.1]) rfl rfl
  next d hd =>
    split at h
    next hk => exact deferredSound_of_none (by simp [undefer, Link.withoutDeferred, hd, hk, h.1]) rfl rfl
    next hk => exact deferredSound_of_none (by simp [undefer, Link.withoutDeferred, hd, hk, h.1]) rfl rfl

/-! ### Time (R17) -/

theorem pass_tends (elapsed : Nat) : Tends s (pass elapsed s) := by
  unfold pass
  split <;> exact .plain rfl rfl

theorem endPulse_tends (m : Nat) : Tends s (endPulse m s) := by
  unfold endPulse
  dsimp only
  split_ifs <;> exact .plain rfl rfl

theorem microtick_tends : Tends s (microtick s) := by
  unfold microtick
  split_ifs <;> exact .plain rfl rfl

end

end Sys2Proof.Machine
end

section
/-! A request that is carried out is answered in the place reserved for it, or keeps that place while it is deferred, and its
answer fits a frame (R172, R182, R183, R187). -/
namespace Sys2Proof.Machine

/-! ### The lengths of answers (R187, R190 to R199) -/

theorem positionBytes_length (position : Nat) (e : Option Entry) : (positionBytes position e).length = 20 := by
  cases e <;> rfl

theorem optBytes16_length (n : Option Nat) : (optBytes16 n).length = 2 := by
  cases n <;> rfl

theorem statusOf_length (s : State) (n : Nat) : (statusOf s n).length = 13 := by
  unfold statusOf statusRecord
  split
  · rfl
  · rfl
  · simp only [List.length_append, optBytes16_length, List.length_cons, List.length_nil]
  · rfl

theorem recordBytes_length (r : Record) : (recordBytes r).length = 16 := by
  simp only [recordBytes, List.length_append, optBytes16_length, bytes16, List.length_cons, List.length_nil]

/-- Items of one length each. -/
theorem length_flatMap_const {α : Type} {f : α → List Byte} {k : Nat} (hf : ∀ x, (f x).length = k) (l : List α) :
    (l.flatMap f).length = l.length * k := by
  rw [List.length_flatMap, List.map_congr_left fun x _ => hf x, List.map_const', List.sum_replicate, smul_eq_mul]

theorem listBytes_length (s : State) : (listBytes s).length = 1 + s.spor.entries.length * 9 := by
  rw [listBytes, List.length_cons, length_flatMap_const (k := 9) (fun _ => rfl), Nat.add_comm]

theorem fetchBytes_length (q : RecordQueue) {n : Nat} (hn : n ≤ 12) : (fetchBytes q n).length ≤ 240 := by
  have hhead : (fetchBytes q n).length = 4 + (q.records.take n).length * 16 := by
    rw [fetchBytes, List.length_append, length_flatMap_const recordBytes_length]
    rfl
  rw [hhead, List.length_take]
  omega

/-! ### What a request owes -/

/-- With its place reserved, a request lets the link and the deferred request stand as `s` has them. -/
structure Linked (mid : Bool) (owed : Nat) (s : State) : Prop where
  fit : LinkFit mid owed s.link
  deferred : DeferredSound s

/-- A request carried out gives up no place, and pays what it owes: its answer, or its deferral. -/
structure Meets (s t : State) : Prop where
  used : s.link.used ≤ t.link.used
  linked : ∀ {mid : Bool}, PoolSound s → Linked mid 1 s → Linked mid 0 t

section
variable {mid : Bool} {owed : Nat} {s t x : State}

theorem Linked.tends (h : Linked mid owed s) (k : Tends s t) : Linked mid owed t := ⟨k.fit h.fit, k.deferred h.deferred⟩

theorem answer_used (tag : Byte) (r : Result) (p : List Byte) (s : State) : s.link.used ≤ (answer tag r p s).link.used := by
  simp only [answer, Link.used, List.length_append, List.length_singleton]
  omega

/-- After changes that keep the link sound, an answer of this length is queued. -/
theorem Meets.answered (hx : Tends s x) {tag : Byte} {r : Result} {p : List Byte} (hp : PoolSound s → p.length ≤ 240) :
    Meets s (answer tag r p x) where
  used := hx.used.trans (answer_used tag r p x)
  linked hpool h := ⟨(hx.fit h.fit).answer tag r (hp hpool), (hx.deferred h.deferred).of_waits rfl rfl⟩

theorem Meets.tends (h : Meets s t) (k : Tends t x) : Meets s x :=
  ⟨h.used.trans k.used, fun hpool hs => (h.linked hpool hs).tends k⟩

/-- Changes that leave the link and what a deferred request waits for alone, and then an answer whose length is plain to see. -/
theorem Meets.brief {tag : Byte} {r : Result} {p : List Byte} (hl : x.link = s.link)
    (hw : x.waits = s.waits) (hp : Nat.ble p.length 240 = true) : Meets s (answer tag r p x) :=
  .answered (.plain hl hw) fun _ => Nat.le_of_ble_eq_true hp

variable (tag : Byte) (p : List Byte) (s)

/-- A CONFIG is taken in OFFLINE alone, where nothing is deferred and no role is asked for (R155, R156). -/
theorem doConfig_meets : Meets s (doConfig tag p s) := by
  unfold doConfig
  split
  · exact .brief rfl rfl rfl
  next hs =>
    have hs : s.tb.sync = .offline := not_not.1 hs
    split
    · exact .brief rfl rfl rfl
    · split
      · exact .brief rfl rfl rfl
      · have hstored : Tends s (storeConfig (configOf p) s) := ⟨.plain rfl, fun h =>
          have ⟨hnone, hcommit, hl⟩ := h.of_offline hs
          deferredSound_of_none hnone hcommit hl⟩
        exact .answered hstored fun _ => by simp

theorem doStart_meets : Meets s (doStart tag s) := by
  by_cases hs : s.tb.sync = .offline
  · by_cases hn : s.cfg.nodeId = 0
    · rw [doStart_unset hs hn]
      exact .brief rfl rfl rfl
    · have hserves := startPart_serves s
      cases hr : s.cfg.role with
      | follower =>
        have heq : doStart tag s = answer tag .ok [] (startPart s) := by simp [doStart, hs, hn, hr]
        refine ⟨heq ▸ hserves.used.trans (answer_used tag .ok [] _), fun _ h => ⟨?_, ?_⟩⟩
        · rw [heq]
          exact (hserves.fit h.fit).answer tag .ok (Nat.zero_le _)
        · obtain ⟨hnone, hcommit, hl⟩ := h.deferred.of_offline hs
          exact (doStart_follower hs hn hr).deferredSound (deferredSound_of_none hnone hcommit hl)
      | master =>
        have heq : doStart tag s =
            { startPart s with link := { (startPart s).link with deferred := some ⟨.start, tag⟩ } } := by
          simp [doStart, hs, hn, hr]
        refine ⟨heq ▸ hserves.used, fun _ h => ⟨?_, ?_⟩⟩
        · obtain ⟨hnone, -, -⟩ := h.deferred.of_offline hs
          rw [heq]
          refine (hserves.fit h.fit).defer ?_ _
          rw [← hnone]
          simp only [startPart]
          split <;> exact raise_deferred
        · obtain ⟨-, hcommit, -⟩ := h.deferred.of_offline hs
          exact (doStart_master hs hn hr).deferredSound ⟨hcommit, rfl, rfl, hr⟩
  · rw [doStart_outside hs]
    exact .brief rfl rfl rfl

theorem doStop_meets : Meets s (doStop tag s) := by
  unfold doStop
  split
  · exact .brief rfl rfl rfl
  · exact .answered (stopPart_tends s) fun _ => by simp

theorem doTcommit_meets : Meets s (doTcommit tag s) := by
  unfold doTcommit
  split
  · exact .brief rfl rfl rfl
  next hc =>
    have hc : s.sched.commitPending = false := Bool.eq_false_iff.2 hc
    split
    · exact .brief rfl rfl rfl
    · split
      next hr =>
        refine ⟨Nat.le_refl _, fun _ h => ?_⟩
        have hl := h.deferred.listen_none_of_running hr
        obtain ⟨hnone, -⟩ := h.deferred.undeferred hl fun hp => nomatch hc.symm.trans hp
        exact ⟨h.fit.defer hnone _, rfl, hl, hr⟩
      next =>
        have hcopied : Tends s (copyEdit s) := .plain rfl (by rw [State.waits, State.waits, hc]; rfl)
        refine Meets.tends ?_ (raise_tends _ _ _)
        exact .answered hcopied fun _ => by simp

/-- A commit that is cancelled answers the TCOMMIT that waited (R54). -/
theorem cancelled_tends (hc : s.sched.commitPending = true) :
    Tends s (answerDeferred .tcommit .cancelled (uncommitted s)) := by
  have hserves : Serves s (uncommitted s) := .plain rfl
  refine ⟨hserves.trans (answerDeferred_serves _ _ _), fun h => ?_⟩
  refine ((answerDeferred_does .tcommit .cancelled).posts (uncommitted s)).deferredSound ?_
  unfold DeferredSound at h
  split at h
  next => exact nomatch hc.symm.trans h.1
  next d hd =>
    split at h
    next => exact nomatch hc.symm.trans h.1
    next hk => exact deferredSound_of_none (by simp [undefer, uncommitted, Link.withoutDeferred, hd, hk]) rfl h.2.1

theorem doTcancel_meets : Meets s (doTcancel tag s) := by
  unfold doTcancel
  split
  next hc =>
    refine Meets.tends ?_ (raise_tends _ _ _)
    exact .answered (cancelled_tends s hc) fun _ => by simp
  next => exact .brief rfl rfl rfl

theorem doLset_meets : Meets s (doLset tag p s) := by
  have hdisable (l : Lane) : Meets s (laneDisable tag l s) := by
    unfold laneDisable
    dsimp only
    split
    · exact .brief rfl rfl rfl
    · refine Meets.tends ?_ (changeLane_tends _ l _ _)
      exact .answered (laneLeaves_tends s l) fun _ => by simp
  have henable (l : Lane) : Meets s (laneEnable tag l s) := by
    unfold laneEnable
    dsimp only
    split
    · refine Meets.tends ?_ (enterProbation_tends _ l _)
      exact .brief rfl rfl rfl
    · exact .brief rfl rfl rfl
  have hclear (l : Lane) : Meets s (laneClear tag l s) := by
    unfold laneClear
    split <;> exact .brief rfl rfl rfl
  unfold doLset
  split
  · exact .brief rfl rfl rfl
  · split_ifs
    · exact hdisable _
    · exact henable _
    · exact hclear _
    · exact .brief rfl rfl rfl

theorem doRdrop_meets : Meets s (doRdrop tag p s) := by
  have hgap : Tends s (closeGap s.recs.lost (dropRecords (fieldAt p 0) s)) := by
    refine Tends.trans ?_ (insertRecord_tends _ _)
    exact .plain rfl rfl
  unfold doRdrop
  dsimp only
  split_ifs
  · exact .brief rfl rfl rfl
  · exact .answered hgap fun _ => by simp [bytes16, number16]
  · exact .brief rfl rfl rfl

/-- At most 32 words are read (R65, R80). -/
theorem doBread_meets : Meets s (doBread tag p s) := by
  have hwords (hpool : PoolSound s) :
      (statusOf s (fieldAt p 0) ++ bytesOf (bufferAt s (fieldAt p 0)).words).length ≤ 240 := by
    obtain ⟨hle, -⟩ := bufferSound_at hpool.buffers (fieldAt p 0)
    rw [List.length_append, statusOf_length, bytesOf_length]
    omega
  unfold doBread
  dsimp only
  split_ifs
  · exact .brief rfl rfl rfl
  · exact .brief rfl rfl rfl
  · exact .answered (.refl s) hwords
  · exact .answered (.plain (by rfl) (by rfl)) hwords

/-- At most eight status records are read (R82). -/
theorem doBstat_meets : Meets s (doBstat tag p s) := by
  unfold doBstat
  dsimp only
  split_ifs with _ hcount
  · exact .brief rfl rfl rfl
  · exact .brief rfl rfl rfl
  · refine .answered (.refl s) fun _ => ?_
    rw [length_flatMap_const (fun i => statusOf_length s (fieldAt p 0 + i)), List.length_range]
    omega

theorem doRfetch_meets : Meets s (doRfetch tag p s) := by
  unfold doRfetch
  split
  next h => exact .answered (.refl s) fun _ => fetchBytes_length s.recs (within_iff.1 h).2
  next => exact .brief rfl rfl rfl

theorem doEget_meets : Meets s (doEget tag p s) := by
  unfold doEget
  split
  · exact .brief rfl rfl rfl
  · split
    · exact .brief rfl rfl rfl
    · exact .answered (.refl s) fun _ => by rw [positionBytes_length]; decide

/-- The list of a queue of at most sixteen entries (R108, R121). -/
theorem listing_meets : Meets s (answer tag .ok (listBytes s) s) := by
  refine .answered (.refl s) fun hpool => ?_
  obtain ⟨hle, -⟩ := hpool.posts
  rw [listBytes_length]
  omega

/-- Every request but RESET. -/
theorem carryOut_meets {c : Code} (hc : c ≠ .reset) : Meets s (carryOut c tag p s) := by
  cases c with
  | reset => exact absurd rfl hc
  | start => exact doStart_meets s tag
  | stop => exact doStop_meets s tag
  | tcommit => exact doTcommit_meets s tag
  | tcancel => exact doTcancel_meets s tag
  | lset => exact doLset_meets s tag p
  | rdrop => exact doRdrop_meets s tag p
  | bread => exact doBread_meets s tag p
  | bstat => exact doBstat_meets s tag p
  | rfetch => exact doRfetch_meets s tag p
  | eget => exact doEget_meets s tag p
  | slist => exact listing_meets s tag
  | ident | cfgget | stat | lstat => exact .brief rfl rfl rfl
  | config => exact doConfig_meets s tag p
  | eput | edel | tclr | tload | tchk =>
    simp only [carryOut, doEput, doEdel, doTclr, doTload, doTchk]
    repeat' split
    all_goals exact .brief rfl rfl rfl
  | bsetup | bwrite =>
    simp only [carryOut, doBsetup, doBwrite]
    repeat' split
    all_goals exact .brief rfl rfl rfl
  | spost | scancel | rthresh =>
    simp only [carryOut, doSpost, doScancel, doRthresh]
    repeat' split
    all_goals exact .brief rfl rfl rfl
  | gset | nmask | nack | evread =>
    simp only [carryOut, doGset, doNmask, doNack, doEvread]
    repeat' split
    all_goals exact .brief rfl rfl rfl

end

end Sys2Proof.Machine
end

section
/-! The handler, the arbiter, the parser and the bytes that go out keep the link sound; and with the blocks, so does every command
and every step (R163 to R187; O54). -/
namespace Sys2Proof.Machine

/-! ### The handler and the arbiter (R144, R164, R180) -/

section
variable {mid : Bool} {owed : Nat} {s t : State}

theorem handlerReady_iff : handlerReady s = true ↔ s.resetting = none ∧ s.link.intake ≠ [] ∧ s.link.hasPlace = true := by
  simp [handlerReady, and_assoc]

/-- A RESET leaves the STARTUP frame alone in the queue, and the exchange in progress to no frame (R165, R166, R186). -/
theorem Linked.commandReset (h : Linked mid owed s) (tag : Byte) : Linked mid 0 (commandReset tag s) where
  fit :=
    { used := Nat.le_of_ble_eq_true rfl
      notifications := Nat.le_succ 1
      intake := Nat.zero_le _
      reserved := rfl
      emptied := nofun
      oldest := by
        intro f rest hk
        obtain ⟨rfl, rfl⟩ : startupFrame 3 tag = f ∧ [] = rest := List.cons_eq_cons.1 hk
        exact ⟨Nat.succ_pos _, rfl, nofun⟩
      exchanging := (Option.isSome_map ..).trans h.fit.exchanging
      low := h.fit.low
      offered := fun _ _ _ _ => nofun
      frames := by
        intro f hf
        rw [List.mem_singleton.1 hf]
        exact Nat.le_of_ble_eq_true rfl
      parser := trivial }
  deferred := deferredSound_of_none rfl rfl rfl

/-- The handler takes the head request where a place is free for its answer (R180). -/
theorem Linked.reserveFor (h : Linked mid 0 s) {r : Request} {rest : List Request} (hi : s.link.intake = r :: rest)
    (hplace : s.link.hasPlace = true) : Linked mid 1 (reserveFor rest s) where
  fit := { h.fit with
    used := Nat.succ_le_of_lt (of_decide_eq_true hplace)
    intake := by
      have hintake := h.fit.intake
      rw [hi, List.length_cons] at hintake
      exact Nat.le_of_succ_le hintake
    reserved := congrArg (· + 1) h.fit.reserved }
  deferred := h.deferred.of_waits rfl rfl

theorem Linked.takeRequest (h : Linked mid 0 s) (hpool : PoolSound s) (hr : handlerReady s = true) :
    Linked mid 0 (takeRequest s) := by
  obtain ⟨-, -, hplace⟩ := handlerReady_iff.1 hr
  unfold Machine.takeRequest
  split
  next => exact h
  next r rest hi =>
    have hreserved := h.reserveFor hi hplace
    have hpool : PoolSound (Machine.reserveFor rest s) := hpool.of_pool rfl
    have hrefused (x : Result) : Linked mid 0 (refuse r.tag x (Machine.reserveFor rest s)) :=
      (Meets.brief rfl rfl rfl (p := [])).linked hpool hreserved
    unfold checkRequest
    split
    next => exact hrefused _
    next =>
      split
      next => exact hrefused _
      next c _ =>
        split
        · by_cases hc : c = .reset
          · rw [hc]
            exact hreserved.commandReset r.tag
          · exact (carryOut_meets _ r.tag r.payload hc).linked hpool hreserved
        · exact hrefused _

theorem Linked.serve (h : Linked mid 0 s) (hpool : PoolSound s) : Linked mid 0 (serve s) := by
  have hcount : Linked mid 0 (countRace s) := h.tends (countRace_tends s)
  unfold Machine.serve
  split_ifs with hh ha hf ha
  · exact hcount.tends (compose_tends (countRace s) ha)
  · exact hcount.takeRequest (hpool.of_pool rfl) hh
  · exact h.takeRequest hpool hh
  · exact h.tends (compose_tends s ha)
  · exact h

theorem Linked.serveTimes (n : Nat) (h : Linked mid 0 s) (hpool : PoolSound s) : Linked mid 0 (serveTimes n s) := by
  induction n generalizing s with
  | zero => exact h
  | succ n ih => exact ih (h.serve hpool) (hpool.moves (serve_moves s))

theorem Linked.settle (h : Linked mid 0 s) (hpool : PoolSound s) : Linked mid 0 (settle s) := h.serveTimes _ hpool

end

/-! ### The parser (R174 to R179) -/

section
variable (s : State)

/-- The parser moves on to a state that is sound if the one before it was. -/
theorem setParser_tends {p : Parser} (hp : ParserSound s.link.parser → ParserSound p) : Tends s (setParser p s) :=
  ⟨⟨Nat.le_refl _, fun h => { h with parser := hp h.parser }⟩, fun h => h.of_waits rfl rfl⟩

theorem enterIntake_tends (r : Request) : Tends s (enterIntake r s) := by
  unfold enterIntake
  split
  next hroom =>
    refine ⟨⟨Nat.le_refl _, fun h => { h with intake := ?_ }⟩, fun h => h.of_waits rfl rfl⟩
    rw [List.length_append]
    exact hroom
  next => exact raise_tends s _ _

theorem acceptFrame_tends (kind : Byte) (r : Request) : Tends s (acceptFrame kind r s) := by
  unfold acceptFrame
  split
  · exact raise_tends s _ _
  · exact enterIntake_tends s r

theorem requestArrives_tends (code tag : Byte) (payload : List Byte) : Tends s (requestArrives code tag payload s) := by
  unfold requestArrives
  split
  · exact .refl s
  · exact acceptFrame_tends s _ _

theorem parseByte_tends (b : Byte) : Tends s (parseByte b s) := by
  have hsync : Tends s (setParser .sync s) := setParser_tends s fun _ => trivial
  unfold parseByte
  split
  next =>
    split
    · exact setParser_tends s fun _ => trivial
    · exact .refl s
  next =>
    split
    next hb =>
      obtain ⟨hlow, hhigh⟩ := within_iff.1 hb
      exact setParser_tends s fun _ => ⟨hlow, hhigh, Nat.lt_of_lt_of_le (Nat.zero_lt_succ 2) hlow⟩
    next => exact hsync.trans (raise_tends _ _ _)
  next len bytes hp =>
    refine setParser_tends s fun hs => ?_
    rw [hp] at hs
    obtain ⟨hlow, hhigh, hlt⟩ := hs
    split
    next hmore => exact ⟨hlow, hhigh, hmore⟩
    next hfull =>
      rw [List.length_append] at hfull
      exact ⟨hlow, hhigh, by rw [List.length_append]; exact Nat.le_antisymm hlt (Nat.le_of_not_lt hfull)⟩
  next len body hp =>
    refine setParser_tends s fun hs => ?_
    rw [hp] at hs
    exact hs
  next len body high _ =>
    unfold completeFrame
    split
    · exact hsync.trans (raise_tends _ _ _)
    · exact hsync.trans (acceptFrame_tends _ _ _)

end

/-! ### The bytes that go out (R169, R170, R173) -/

section
variable {mid : Bool} {owed : Nat} {s t : State} {k : Link}

/-- An exchange is in progress: CS is low. -/
theorem LinkFit.inExchange (h : LinkFit mid owed k) (hk : k.transaction = true) : LinkFit true owed k :=
  { h with low := fun _ => hk, offered := nofun }

/-- The oldest frame has gone out. -/
theorem LinkFit.dropOldest (h : LinkFit true owed k) {f : OutFrame} {rest : List OutFrame} (hk : k.outbound = f :: rest) :
    LinkFit true owed { k with outbound := rest, delivered := 0 } := by
  have hused : k.outbound.length + k.reservations ≤ 8 := h.used
  have hnotify : k.outbound.countP OutFrame.isNotification ≤ 2 := h.notifications
  obtain ⟨-, -, hfresh⟩ := h.oldest f rest hk
  rw [hk, List.length_cons] at hused
  rw [hk, List.countP_cons] at hnotify
  exact { h with
    used := (by omega : rest.length + k.reservations ≤ 8)
    notifications := (Nat.le_add_right _ _).trans hnotify
    emptied := fun _ => rfl
    oldest := by
      intro g more hg
      have hg : rest = g :: more := hg
      rw [hg, List.forall_mem_cons] at hfresh
      exact ⟨Nat.zero_lt_succ _, congrArg Option.isSome hfresh.1, hfresh.2⟩
    offered := nofun
    frames := fun g hg => h.frames g (hk ▸ List.mem_cons_of_mem f hg) }

/-- The oldest frame, its room and check filled in by now, has one more byte out. -/
theorem LinkFit.deliver (h : LinkFit true owed k) {f g : OutFrame} {rest : List OutFrame} (hk : k.outbound = f :: rest)
    (hkind : g.kind = f.kind) (hpayload : g.payload = f.payload) (hfill : g.fill.isSome = true)
    (hmore : k.delivered + 1 ≠ f.size) :
    LinkFit true owed { k with outbound := g :: rest, delivered := k.delivered + 1 } := by
  have hused : k.outbound.length + k.reservations ≤ 8 := h.used
  have hnotify : k.outbound.countP OutFrame.isNotification ≤ 2 := h.notifications
  have hsame : g.isNotification = f.isNotification := by unfold OutFrame.isNotification; rw [hkind]
  obtain ⟨hlt, -, hfresh⟩ := h.oldest f rest hk
  rw [hk] at hused hnotify
  exact { h with
    used := hused
    notifications := by
      rw [List.countP_cons, ← hsame, ← List.countP_cons] at hnotify
      exact hnotify
    emptied := nofun
    oldest := by
      intro y more hy
      obtain ⟨rfl, rfl⟩ : g = y ∧ rest = more := List.cons_eq_cons.1 hy
      have hsize : g.size = f.size := by unfold OutFrame.size; rw [hpayload]
      exact ⟨by rw [hsize]; exact Nat.lt_of_le_of_ne hlt hmore, hfill.trans (decide_eq_true (Nat.succ_pos _)).symm, hfresh⟩
    offered := nofun
    frames := by
      intro y hy
      rcases List.mem_cons.1 hy with rfl | hy
      · rw [hpayload]
        exact h.frames f (hk ▸ List.mem_cons_self)
      · exact h.frames y (hk ▸ List.mem_cons_of_mem f hy) }

/-- Nothing but the queue is touched. -/
theorem clockOut_waits (s : State) :
    (Machine.clockOut s).link.deferred = s.link.deferred ∧ (Machine.clockOut s).waits = s.waits := by
  unfold Machine.clockOut
  split
  · exact ⟨rfl, rfl⟩
  · split <;> exact ⟨rfl, rfl⟩

theorem LinkFit.clockOut (h : LinkFit true owed s.link) : LinkFit true owed (clockOut s).link := by
  unfold Machine.clockOut
  split
  next => exact h
  next f rest hk =>
    split
    next => exact h.dropOldest hk
    next hmore =>
      obtain ⟨-, hbegun, -⟩ := h.oldest f rest hk
      dsimp only
      split
      next => exact h.deliver (g := f.filled (roomByte s.link)) hk rfl rfl rfl hmore
      next hpos => exact h.deliver hk rfl rfl (hbegun.trans (decide_eq_true (Nat.pos_of_ne_zero hpos))) hmore

/-- CS low, and the exchange that begins offers a byte of the queue or filler. -/
theorem LinkFit.offering (h : LinkFit mid owed k) {x : Exchange} (hx : x.source = .frame → k.outbound ≠ []) :
    LinkFit false owed { k with transaction := true, exchange := some x } :=
  { h with
    exchanging := rfl
    low := nofun
    offered := by
      rintro - y hy
      obtain rfl := Option.some.inj hy
      exact hx }

/-- The byte of a new exchange is the oldest frame's, or filler where the queue is empty (R170). -/
theorem nextByte_offered (k : Link) (h : (nextByte k).source = .frame) : k.outbound ≠ [] := by
  intro hk
  unfold nextByte at h
  rw [hk] at h
  cases h

/-- An exchange begins with its byte fixed, which is a frame's only where one is queued (R170). -/
theorem beginExchange_offers (s : State) : ∃ x : Exchange, (x.source = .frame → s.link.outbound ≠ []) ∧
    beginExchange s = { s with link := { s.link with exchange := some x } } := by
  refine ⟨_, fun hx => ?_, rfl⟩
  split at hx
  · cases hx
  · exact nextByte_offered s.link hx

theorem Linked.beginExchange (h : Linked true 0 s) : Linked false 0 (beginExchange s) := by
  obtain ⟨x, hx, hbegun⟩ := beginExchange_offers s
  have hfit := h.fit.offering hx
  rw [← h.fit.low rfl] at hfit
  rw [hbegun]
  exact ⟨hfit, h.deferred.of_waits rfl rfl⟩

theorem Linked.moveFirst (h : Linked mid 0 s) (hpool : PoolSound s) : Linked mid 0 (moveFirst s) := by
  have hcount : Linked mid 0 (countRace s) := h.tends (countRace_tends s)
  unfold Machine.moveFirst
  split_ifs
  · exact hcount.settle (hpool.of_pool rfl)
  · exact hcount
  · exact h

/-- One byte goes each way, whatever moves between, and the next exchange begins. -/
theorem Linked.exchange (h : Linked false 0 s) (hpool : PoolSound s) (hk : s.link.transaction = true) (b : Byte) :
    Linked false 0 (exchange b s) := by
  have hin : Linked true 0 s := ⟨h.fit.inExchange hk, h.deferred⟩
  have hsent : Linked true 0 (if sendsFrame s && s.resetting.isNone then Machine.moveFirst (Machine.clockOut s) else s) ∧
      PoolSound (if sendsFrame s && s.resetting.isNone then Machine.moveFirst (Machine.clockOut s) else s) := by
    split
    · obtain ⟨hdeferred, hwaits⟩ := clockOut_waits s
      have hout : Linked true 0 (Machine.clockOut s) := ⟨hin.fit.clockOut, h.deferred.of_waits hdeferred hwaits⟩
      have hpool : PoolSound (Machine.clockOut s) := hpool.of_pool (clockOut_linkOnly s).pool_eq
      exact ⟨hout.moveFirst hpool, hpool.moves (moveFirst_moves _)⟩
    · exact ⟨hin, hpool⟩
  unfold Machine.exchange
  dsimp only
  generalize (if sendsFrame s && s.resetting.isNone then Machine.moveFirst (Machine.clockOut s) else s) = x at hsent
  obtain ⟨hlink, hpool⟩ := hsent
  refine Linked.beginExchange ?_
  split
  · exact (hlink.tends (parseByte_tends x b)).settle (hpool.of_pool (parseByte_linkOnly x b).pool_eq)
  · exact hlink.settle hpool

/-- CS falls: the first exchange begins (R169). -/
theorem Linked.fallCS (h : Linked false 0 s) : Linked false 0 (fallCS s) := by
  unfold Machine.fallCS
  split
  · exact h
  · obtain ⟨x, hx, hbegun⟩ := beginExchange_offers { s with link := { s.link with transaction := true } }
    rw [hbegun]
    exact ⟨h.fit.offering hx, h.deferred.of_waits rfl rfl⟩

/-- CS rises: no exchange is in progress, and a partial frame is cut (R177). -/
theorem Linked.riseCS (h : Linked false 0 s) : Linked false 0 (riseCS s) := by
  unfold Machine.riseCS
  split
  · have hhigh : Linked false 0 { s with link := { s.link with transaction := false, exchange := none } } :=
      ⟨{ h.fit with exchanging := rfl, low := nofun, offered := fun _ => nofun }, h.deferred.of_waits rfl rfl⟩
    unfold cutFrame
    split
    · exact (hhigh.tends (setParser_tends _ fun _ => trivial)).tends (raise_tends _ _ _)
    · exact hhigh
  · exact h

/-! ### Resets from outside (R163 to R166) -/

/-- While the part is held in a reset, nothing is queued (R165, R168). -/
theorem linked_holdReset (h : Linked false 0 s) (cause : ResetCause) : Linked false 0 (holdReset cause s) where
  fit :=
    { used := Nat.zero_le _
      notifications := Nat.zero_le _
      intake := Nat.zero_le _
      reserved := rfl
      emptied := fun _ => rfl
      oldest := nofun
      exchanging := (Option.isSome_map ..).trans h.fit.exchanging
      low := nofun
      offered := by
        intro _ x hx hs
        obtain ⟨y, -, rfl⟩ := Option.map_eq_some_iff.1 hx
        cases hs
      frames := nofun
      parser := trivial }
  deferred := deferredSound_of_none rfl rfl rfl

/-- The STARTUP frame enters the empty queue (R166). -/
theorem Held.linked_release (hheld : Held s) (h : Linked false 0 s) (cause : ResetCause) :
    Linked false 0 (releaseReset cause s) := by
  obtain ⟨held, transaction, exchange, races, pending, rfl⟩ := hheld
  exact ⟨h.fit.join (f := startupFrame cause.code 0) rfl (Nat.le_of_ble_eq_true rfl) (Nat.le_of_ble_eq_true rfl)
    (Nat.le_of_ble_eq_true rfl) rfl, deferredSound_of_none rfl rfl rfl⟩

end

/-! ### Commands -/

section
variable {s t : State}

/-- Every command keeps the link sound and the deferred request matched to what it waits for; answers fit their frames because
the pool is sound. -/
theorem Linked.exec (h : Linked false 0 s) (hpool : PoolSound s) (hw : WindowFits s) (hreset : ResetSound s) {c : Instr}
    (he : exec c s = .next t) : Linked false 0 t := by
  have ends {x : State} (hx : Linked false 0 x) (hp : PoolSound x) (he : finish x = .next t) : Linked false 0 t := by
    obtain rfl := Host.Outcome.next.inj he
    exact hx.settle hp
  have same {x : State} (hx : Linked false 0 x) (hp : x.pool = s.pool) (he : finish x = .next t) : Linked false 0 t :=
    ends hx (hpool.of_pool hp) he
  have guarded {x : State} {g : Bool} (hx : g = true → Linked false 0 x) (hp : g = true → PoolSound x)
      (he : finish (if g then x else s) = .next t) : Linked false 0 t := by
    split at he
    next hg => exact ends (hx hg) (hp hg) he
    next => exact ends h hpool he
  have tends {x : State} {g : Bool} (hx : Tends s x) (hp : PoolSound x) (he : finish (if g then x else s) = .next t) :
      Linked false 0 t := guarded (fun _ => h.tends hx) (fun _ => hp) he
  have exchanges {b : Byte} {g : Bool} (hg : g = true → exchanging s = true)
      (he : finish (if g then Machine.exchange b s else s) = .next t) : Linked false 0 t :=
    guarded (fun hx => h.exchange hpool (Bool.and_elim_left (hg hx)) b) (fun _ => hpool.moves (exchange_moves s b)) he
  cases c with
  | ident | config | cfgget | start | stop | stat | reset | eput | edel | eget | tclr | tload | tchk | tcommit | tcancel
  | bsetup | bwrite | bread | bstat | lsetDisable | lsetEnable | lsetClear | lstat | spost | scancel | slist | rfetch | rdrop
  | rthresh | gset | nmask | nack | evread =>
    exact same (h.tends (requestArrives_tends s _ _ _)) (requestArrives_linkOnly s _ _ _).pool_eq he
  | unknownRequest tag code payload =>
    exact tends (requestArrives_tends s code tag payload)
      (hpool.of_pool (requestArrives_linkOnly s code tag payload).pool_eq) he
  | exchangeComplete b => exact exchanges id he
  | syncByteClockedOut b | frameClockedOut b =>
    exact exchanges (fun hg => Bool.and_elim_left (Bool.and_elim_left hg)) he
  | inboundFrameComplete b => exact exchanges (fun hg => Bool.and_elim_left (Bool.and_elim_left hg)) he
  | frameLength b => exact exchanges (fun hg => Bool.and_elim_left (Bool.and_elim_left (Bool.and_elim_left hg))) he
  | transactionStart => exact same h.fallCS (fallCS_linkOnly s).pool_eq he
  | transactionEnd => exact same h.riseCS (riseCS_linkOnly s).pool_eq he
  | notificationFrameComposed =>
    exact guarded (fun ha => h.tends (compose_tends s ha)) (fun _ => hpool.of_pool (compose_linkOnly s).pool_eq) he
  | powerReset => exact ends (linked_holdReset h .power) (.of_reset rfl) he
  | pinReset => exact ends (linked_holdReset h .pin) (.of_reset rfl) he
  | resetEnd =>
    refine ends ?_ ?_ he
    · split
      next cause hr => exact (hreset.held (by rw [hr]; rfl)).linked_release h cause
      next => exact h
    · split
      · exact hpool.of_pool rfl
      · exact hpool
  | cycleStart first => exact tends (cycleStartEvent_tends s first) (hpool.cycleStartEvent first) he
  | cycleMarkPulseEnd =>
    refine ends ?_ ?_ he
    · split
      · exact h.tends (endPulse_tends s _)
      · exact h
    · split
      · exact hpool.of_pool (endPulse_pool s _)
      · exact hpool
  | startupListenExpiry =>
    refine ends ?_ ?_ he
    · split
      next m hl => exact h.tends (expireListen_tends s m (by rw [hl]; rfl))
      next => exact h
    · split
      · exact hpool.of_pool (expireListen_pool s _)
      · exact hpool
  | beaconDeadline | holdoverLimitReached =>
    exact tends (meetDeadline_tends s) (hpool.of_pool (meetDeadline_pool s)) he
  | freeMessageEnd l elapsed m =>
    have hx : PoolSound { pass elapsed s with
      rx := (pass elapsed s).rx.update l (Receiver.occupy (pass elapsed s).now) } := hpool.of_pool (pass_pool s elapsed)
    exact tends ((pass_tends s elapsed).trans (endFree_tends _ l m.body)) (hx.freeMessage l _ m.body) he
  | sendWindowStart position =>
    exact ends (h.tends (windowStart_tends s (fun p e x => openSend_tends x p e) position))
      (hpool.windowStart PoolSound.openSend position) he
  | expectWindowStart position =>
    exact ends (h.tends (windowStart_tends s (start := openExpect) (fun _ _ _ => .plain rfl rfl) position))
      (hpool.windowStart (start := openExpect) (fun hx _ _ => hx.of_pool rfl) position) he
  | openWindowStart position =>
    exact ends (h.tends (windowStart_tends s (fun p e x => openOpen_tends x p e) position))
      (hpool.windowStart PoolSound.openOpen position) he
  | quietWindowStart position =>
    exact ends (h.tends (windowStart_tends s (start := openQuiet) (fun _ _ _ => .plain rfl rfl) position))
      (hpool.windowStart (start := openQuiet) (fun hx _ _ => hx.of_pool rfl) position) he
  | breach l offset => exact same (h.tends (carrierStart_tends s l offset)) (carrierStart_pool s l offset) he
  | expectWindowEnd a b => exact ends (h.tends (closeExpect_tends s a b)) (hpool.closeExpect hw a b) he
  | windowEnd => exact same (h.tends (closeWindow_tends s)) (closeWindow_pool s) he
  | sendLaunchEnd a b =>
    exact ends (h.tends (launchEnd_tends s fun x y => endSend_tends y x a b))
      (hpool.launchEnd fun hx l => hx.of_pool (endSend_pool _ l a b)) he
  | sporadicLaunchEnd a b =>
    exact ends (h.tends (launchEnd_tends s fun x y => endSporadic_tends y x a b))
      (hpool.launchEnd fun hx l => hx.endSporadic l a b) he
  | beaconLaunchEnd a b =>
    exact ends (h.tends (launchEnd_tends s fun x y => endBeacon_tends y x a b))
      (hpool.launchEnd fun hx l => hx.of_pool (endBeacon_pool _ l a b)) he
  | expiry => exact tends (expireDue_tends s) hpool.expireDue he
  | holdExpired l => exact tends (enterProbation_tends s l _) (hpool.of_pool (enterProbation_pool s l .holdExpired)) he
  | probationPassed l => exact tends (promoteLane_tends s l) (hpool.of_pool (promoteLane_pool s l)) he

end

/-- Settles O54: that the link is sound, and the deferred request matched to what it waits for, is what every step keeps; of the
rest of the invariant it needs that the pool is sound, so that answers fit their frames, and that a reset in force holds the
part. -/
theorem linkStaysSound : Obligations.LinkStaysSound := by
  intro s t hinv hstep
  have hlinked : Linked false 0 s :=
    ⟨(linkFit_iff s.link).2 ⟨hinv.link, hinv.delivery, hinv.frames, hinv.parser⟩, hinv.deferred⟩
  have hpool := PoolSound.of_inv hinv
  have hfits := WindowFits.of_inv hinv
  have hend : Linked false 0 t := by
    unfold step at hstep
    split at hstep
    next c rest _ =>
      exact Linked.exec (s := { s with pending := rest }) (hlinked.tends (.plain rfl rfl)) (hpool.of_pool rfl) hfits
        (hinv.held.withPending rest) hstep
    next =>
      split at hstep
      next c _ =>
        exact Linked.exec (s := countRace s) (hlinked.tends (countRace_tends s)) (hpool.of_pool rfl) hfits
          hinv.held.countRace hstep
      next =>
        obtain rfl := Host.Outcome.next.inj hstep
        exact hlinked.tends (microtick_tends s)
  obtain ⟨hlink, hdelivery, hframes, hparser⟩ := (linkFit_iff t.link).1 hend.fit
  exact ⟨hlink, hdelivery, hframes, hparser, hend.deferred⟩

end Sys2Proof.Machine
end

section
/-! What the handler refuses before a block sees it: a tag in use, a code that names no request, a payload of a wrong length
(O8). -/
namespace Sys2Proof.Machine

section
variable {tag code : Byte} {payload : List Byte} {s : State}

theorem Code.ofByte_byte (c : Code) : Code.ofByte c.byte = some c := by
  cases c <;> rfl

/-- A free handler that refuses a request has its refusal alone in the outbound queue more than before. -/
theorem idle_refusal (h : Idle s) (htag : tag ≠ 0) {r : Result}
    (hr : checkRequest ⟨tag, code, payload⟩ [] (reserveFor [] s) = refuse tag r (reserveFor [] s)) :
    finish (requestArrives code tag payload s) = .next (replied tag r [] s) := by
  have hnotifications : (replied tag r [] s).link.notifications = s.link.notifications := by
    simp [replied, Link.notifications, responseFrame, OutFrame.isNotification]
  have hidle : arbiterReady (replied tag r [] s) = false := arbiter_idle_of_fuller h rfl rfl hnotifications
  obtain ⟨hreset, hintake, hplace, harbiter⟩ := h
  have hreplied : refuse tag r (reserveFor [] s) = replied tag r [] s := by
    unfold refuse answer reserveFor replied
    rw [← hintake]
    rfl
  rw [request_row hreset hintake hplace harbiter htag, hr, hreplied, composeAll_of_not_ready hidle]

variable {r : Request} {rest : List Request}

theorem checkRequest_inUse (h : tagInUse r.tag rest s.link.deferred = true) :
    checkRequest r rest s = refuse r.tag .duplicateTag s := if_pos h

theorem checkRequest_unknown (h : tagInUse r.tag rest s.link.deferred = false) (hc : Code.ofByte r.code = none) :
    checkRequest r rest s = refuse r.tag .unknownRequest s := by
  rw [checkRequest, if_neg (Bool.eq_false_iff.1 h), hc]

theorem checkRequest_badLength (h : tagInUse r.tag rest s.link.deferred = false) {c : Code}
    (hc : Code.ofByte r.code = some c) (hlen : r.payload.length ≠ c.required r.payload) :
    checkRequest r rest s = refuse r.tag .badLength s := by
  rw [checkRequest, if_neg (Bool.eq_false_iff.1 h), hc]
  exact if_neg hlen

end

/-- Settles O8: a refusal is decided by the tests of R181 in their order, and enters the place that was reserved for it. -/
theorem handlerRefusals : Obligations.HandlerRefusals := by
  intro tag payload s hidle htag
  refine ⟨fun hfree => ⟨fun code hcode => ?_, fun c hlen => ?_⟩, fun hused code => ?_⟩
  · have hrow : exec (.unknownRequest tag code payload) s = finish (requestArrives code tag payload s) :=
      congrArg finish (if_pos (Option.isNone_iff_eq_none.2 hcode))
    rw [hrow]
    exact idle_refusal hidle htag (checkRequest_unknown hfree hcode)
  · exact idle_refusal hidle htag (checkRequest_badLength hfree c.ofByte_byte hlen)
  · exact idle_refusal hidle htag (checkRequest_inUse hused)

end Sys2Proof.Machine
end

section
/-! The parser: what it does with a byte from each of its states (R175), and that it reads back a frame that is sent as R174
says (O37). -/
namespace Sys2Proof.Machine

section
variable {s : State} {b : Byte} {p : Parser}

theorem goodLength_iff : goodLength b = true ↔ 3 ≤ b.toNat ∧ b.toNat ≤ 243 := within_iff

theorem setParser_self (h : s.link.parser = p) : setParser p s = s := by
  subst h
  rfl

/-- A byte that ends no frame moves the parser alone. -/
theorem parseByte_takes (h : TakesByte b s.link.parser p) : parseByte b s = setParser p s := by
  unfold parseByte
  rcases h with ⟨hp, rfl⟩ | ⟨hp, hlow, hhigh, rfl⟩ | ⟨len, bytes, hp, rfl⟩ | ⟨len, bytes, hp, rfl⟩
  · rw [hp]
    change (if b = 0xC3 then setParser .length s else s) = _
    split_ifs
    · rfl
    · exact (setParser_self hp).symm
  · rw [hp]
    exact if_pos (goodLength_iff.2 ⟨hlow, hhigh⟩)
  · rw [hp]
    simp only [List.length_append, List.length_singleton]
  · rw [hp]

/-- The second check byte ends the frame (R176). -/
theorem parseByte_completes {len : Nat} {body : List Byte} {high : Byte} (h : s.link.parser = .check len body (some high)) :
    parseByte b s = completeFrame len body (high ++ b) (setParser .sync s) := by
  unfold parseByte
  rw [h]

theorem parseByte_body {len : Nat} {bytes : List Byte} (h : s.link.parser = .body len bytes) :
    parseByte b s = setParser
      (if bytes.length + 1 < len then .body len (bytes ++ [b]) else .check len (bytes ++ [b]) none) s :=
  parseByte_takes (.inr (.inr (.inl ⟨len, bytes, h, rfl⟩)))

/-- The rest of the body, byte by byte, brings the parser to the first check byte. -/
theorem foldl_parseByte_body {len : Nat} {bytes rest : List Byte} (hrest : rest ≠ [])
    (hlen : bytes.length + rest.length = len) (hp : s.link.parser = .body len bytes) :
    rest.foldl (fun t b => parseByte b t) s = setParser (.check len (bytes ++ rest) none) s := by
  induction rest generalizing bytes s with
  | nil => exact absurd rfl hrest
  | cons b more ih =>
    rw [List.foldl_cons, parseByte_body hp]
    rw [List.length_cons] at hlen
    cases more with
    | nil =>
      have hlast : ¬bytes.length + 1 < len := by simp only [List.length_nil] at hlen; omega
      rw [if_neg hlast]
      rfl
    | cons c more =>
      have hmore : bytes.length + 1 < len := by simp only [List.length_cons] at hlen; omega
      rw [if_pos hmore, ih (bytes := bytes ++ [b]) (List.cons_ne_nil c more) _ rfl, List.append_assoc]
      · rfl
      · rw [List.length_append, List.length_singleton]
        omega

theorem completeFrame_right {len : Nat} {kind tag code : Byte} {payload : List Byte} {check : Word}
    (h : check = linkCheck (byte len :: kind :: tag :: code :: payload)) :
    completeFrame len (kind :: tag :: code :: payload) check s = acceptFrame kind ⟨tag, code, payload⟩ s :=
  if_neg (not_not.2 h)

theorem completeFrame_wrong {len : Nat} {kind tag code : Byte} {payload : List Byte} {check : Word}
    (h : check ≠ linkCheck (byte len :: kind :: tag :: code :: payload)) :
    completeFrame len (kind :: tag :: code :: payload) check s = raise .frameCheck ⟨byte len, kind, tag, code⟩ s :=
  if_pos h

end

/-- Settles O37: the parser goes from SYNC to LENGTH, through the body to the check bytes, and back to SYNC. -/
theorem requestFrameRoundTrip : Obligations.RequestFrameRoundTrip := by
  intro tag code payload s hpayload hsync body
  have hlen : (byte (payload.length + 3)).toNat = payload.length + 3 := byte_toNat (by omega)
  have hstart : parseByte 0xC3 s = setParser .length s := parseByte_takes (.inl ⟨hsync, rfl⟩)
  have hlength : parseByte (byte (payload.length + 3)) (setParser .length s) =
      setParser (.body (payload.length + 3) []) s := by
    have htaken := parseByte_takes (s := setParser .length s) (b := byte (payload.length + 3))
      (.inr (.inl ⟨rfl, by omega, by omega, rfl⟩))
    rw [htaken, hlen]
    rfl
  have hbody : (0x01 :: tag :: code :: payload).foldl (fun t b => parseByte b t)
      (setParser (.body (payload.length + 3) []) s) =
      setParser (.check (payload.length + 3) (0x01 :: tag :: code :: payload) none) s :=
    foldl_parseByte_body (bytes := []) (List.cons_ne_nil _ _) (Nat.zero_add _) rfl
  have hread : (0xC3 :: body).foldl (fun t b => parseByte b t) s =
      setParser (.check (payload.length + 3) (0x01 :: tag :: code :: payload) none) s := by
    rw [List.foldl_cons, hstart, List.foldl_cons, hlength, hbody]
  calc ((0xC3 :: body) ++ [highByte (linkCheck body), lowByte (linkCheck body)]).foldl (fun t b => parseByte b t) s
      = [highByte (linkCheck body), lowByte (linkCheck body)].foldl (fun t b => parseByte b t)
          (setParser (.check (payload.length + 3) (0x01 :: tag :: code :: payload) none) s) := by
        rw [List.foldl_append, hread]
    _ = completeFrame (payload.length + 3) (0x01 :: tag :: code :: payload)
          (highByte (linkCheck body) ++ lowByte (linkCheck body)) (setParser .sync s) := rfl
    _ = acceptFrame 0x01 ⟨tag, code, payload⟩ (setParser .sync s) := completeFrame_right (wordOf_bytes (linkCheck body))
    _ = acceptFrame 0x01 ⟨tag, code, payload⟩ s := by rw [setParser_self hsync]

end Sys2Proof.Machine
end

section
/-! One exchange of the link while the handler and the arbiter have nothing to do: the byte that goes out is counted, the byte
that comes in is parsed, and the next byte is chosen (O35, O36, O38). -/
namespace Sys2Proof.Machine

/-! ### What the handler and the arbiter look at (R144, R180) -/

section
variable {s t x : State} {responses : List OutFrame} {notices : List Notice}

theorem noPlace_iff {k : Link} : k.hasPlace = false ↔ 8 ≤ k.used := by
  rw [Link.hasPlace, decide_eq_false_iff_not, Nat.not_lt]
  rfl

theorem settled_of_full (h : t.link.hasPlace = false) : Settled t := by
  refine ⟨?_, ?_⟩
  · rw [handlerReady, h, Bool.and_false]
  · rw [arbiterReady, h, Bool.and_false]

theorem settled_of_quiet (hi : t.link.intake = []) (hc : t.notif.chosen = none) : Settled t := by
  refine ⟨handlerReady_of_intake hi, ?_⟩
  rw [arbiterReady, hc, Option.isSome_none, Bool.and_false, Bool.false_and, Bool.false_and]

theorem settled_in_reset {cause : ResetCause} (h : t.resetting = some cause) : Settled t := by
  refine ⟨?_, ?_⟩
  · rw [handlerReady, h, Option.isNone_some, Bool.false_and, Bool.false_and]
  · rw [arbiterReady, h, Option.isNone_some, Bool.false_and, Bool.false_and, Bool.false_and]

/-- Both look at the reset, the unit, whether requests wait, and how many frames and reservations there are. -/
theorem Settled.of_same (h : Settled s) (hr : t.resetting = s.resetting) (hn : t.notif = s.notif)
    (hi : t.link.intake = s.link.intake) (hu : t.link.used = s.link.used)
    (hk : t.link.notifications = s.link.notifications) : Settled t := by
  have hplace : t.link.hasPlace = s.link.hasPlace := by rw [Link.hasPlace, Link.hasPlace, hu]
  obtain ⟨hhandler, harbiter⟩ := h
  refine ⟨Eq.trans ?_ hhandler, Eq.trans ?_ harbiter⟩
  · rw [handlerReady, handlerReady, hr, hi, hplace]
  · rw [arbiterReady, arbiterReady, hr, hn, hk, hplace]

/-- With both at rest, requests wait only for a place (R180). -/
theorem Settled.full (h : Settled s) (hr : s.resetting = none) (hi : s.link.intake ≠ []) : s.link.hasPlace = false := by
  obtain ⟨hhandler, -⟩ := h
  have hwaits : s.link.intake.isEmpty = false := List.isEmpty_eq_false_iff.2 hi
  rw [handlerReady, hr, hwaits] at hhandler
  exact hhandler

/-- What comes in at rest takes no request: either none waits, or no place is free. -/
theorem Settled.posts_settle (h : Settled x) (k : Posts responses notices x t) : Posts responses notices x (settle t) := by
  obtain ⟨hreset, -, new, hnew⟩ := k.onward
  cases hr : x.resetting with
  | some cause =>
    obtain ⟨hhandler, harbiter⟩ := settled_in_reset (hreset.trans hr)
    rwa [settle_settled hhandler harbiter]
  | none =>
    by_cases hi : x.link.intake = []
    · exact k.settle hi
    · have hreservations : t.link.reservations = x.link.reservations := by
        obtain ⟨n, new, r, rfl, -⟩ := k
        rfl
      have hfull : t.link.hasPlace = false := by
        have hbefore : 8 ≤ x.link.used := noPlace_iff.1 (h.full hr hi)
        rw [noPlace_iff]
        rw [Link.used] at hbefore ⊢
        rw [hnew, hreservations, List.length_append]
        omega
      obtain ⟨hhandler, harbiter⟩ := settled_of_full hfull
      rwa [settle_settled hhandler harbiter]

theorem finish_settled (h : Settled t) : finish t = .next t := by
  rw [finish, settle_settled h.1 h.2]

/-- An event raised at rest is all that comes of it but for NOTIFY frames (R142). -/
theorem Settled.raise_posts (h : Settled x) (e : Event) (d : Detail) :
    Posts [] [⟨e, x.tb.cycle, d⟩] x (settle (raise e d x)) :=
  h.posts_settle ((Posts.refl x).raise e d)

end

/-! ### The exchange that begins (R169, R170) -/

/-- The link with another exchange in progress. -/
def withExchange (e : Option Exchange) (s : State) : State := { s with link := { s.link with exchange := e } }

section
variable {s t u x : State} {b : Byte} {p : Parser} {k : Link} {notices : List Notice}

theorem withExchange_blind (e : Option Exchange) : Blind (withExchange e) := fun _ _ _ _ => rfl

theorem beginExchange_awake (h : s.resetting = none) : beginExchange s = withExchange (some (nextByte s.link)) s := by
  unfold beginExchange withExchange
  rw [h]
  rfl

theorem Settled.beginExchange (h : Settled s) : Settled (beginExchange s) := h.of_same rfl rfl rfl rfl rfl

/-- The next exchange begins after what these events and no request have brought about. -/
theorem Posts.next_exchange (h : Posts [] notices x u) :
    Posts [] notices (withExchange (beginExchange u).link.exchange x) (beginExchange u) := h.map (withExchange_blind _)

/-! ### The byte that goes out (R170, R173) -/

/-- A byte clocked out changes the outbound queue and its count alone, and an exchange is in progress. -/
theorem ByteSent.channel (h : ByteSent s k) : k.intake = s.link.intake ∧ k.reservations = s.link.reservations ∧
    k.parser = s.link.parser ∧ k.transaction = s.link.transaction ∧ k.exchange = s.link.exchange ∧
    ∃ x, s.link.exchange = some x ∧ x.source ≠ .orphan := by
  obtain ⟨x, hx, rfl⟩ | ⟨x, f, rest, hx, -, hk⟩ := h
  · exact ⟨rfl, rfl, rfl, rfl, rfl, _, hx, nofun⟩
  · rcases hk with ⟨-, rfl⟩ | ⟨-, -, rfl⟩ | ⟨-, -, -, rfl⟩ <;> exact ⟨rfl, rfl, rfl, rfl, rfl, _, hx, nofun⟩

/-- The handler and the arbiter stay at rest whatever byte goes out. -/
theorem ByteSent.settled (h : ByteSent s k) (hs : Settled s) (hr : t.resetting = s.resetting) (hn : t.notif = s.notif)
    (hi : t.link.intake = k.intake) (ho : t.link.outbound = k.outbound) (hv : t.link.reservations = k.reservations) :
    Settled t := by
  obtain ⟨x, -, rfl⟩ | ⟨x, f, rest, -, hf, hk⟩ := h
  · exact hs.of_same hr hn hi (by rw [Link.used, ho, hv, Link.used]) (by rw [Link.notifications, ho, Link.notifications])
  rcases hk with ⟨-, rfl⟩ | ⟨-, -, rfl⟩ | ⟨-, hintake, hchosen, rfl⟩
  · refine hs.of_same hr hn hi ?_ ?_
    · rw [Link.used, ho, hv, Link.used, hf]
      rfl
    · rw [Link.notifications, ho, Link.notifications, hf, List.countP_cons, List.countP_cons]
      rfl
  · exact hs.of_same hr hn hi (by rw [Link.used, ho, hv, Link.used]) (by rw [Link.notifications, ho, Link.notifications])
  · exact settled_of_quiet (hi.trans hintake) (by rw [hn, hchosen])

theorem moveFirst_settled (h : Settled s) : moveFirst s = s := by
  unfold moveFirst
  rw [h.1, h.2]
  rfl

/-- Which of the bytes of the oldest frame it is, its count decides. -/
theorem ByteSent.clockOut {y : Byte} (h : ByteSent s k) (hx : s.link.exchange = some ⟨y, .frame⟩) :
    clockOut s = { s with link := k } := by
  obtain ⟨x, hfiller, -⟩ | ⟨x, f, rest, -, hf, hk⟩ := h
  · cases hx.symm.trans hfiller
  unfold Machine.clockOut
  rw [hf]
  have hsize : f.size = f.payload.length + 8 := rfl
  rcases hk with ⟨hfirst, rfl⟩ | ⟨hlater, hless, rfl⟩ | ⟨hlast, -, -, rfl⟩
  · simp only [hsize, hfirst, if_neg (show ¬0 + 1 = f.payload.length + 8 by omega), if_true]
    rfl
  · simp only [hsize, if_neg (show ¬s.link.delivered + 1 = f.payload.length + 8 by omega),
      if_neg (show ¬s.link.delivered = 0 by omega), ← hf]
  · exact if_pos hlast

/-- An exchange whose byte goes out at rest: the byte that comes in is parsed, what follows follows, and the next exchange
begins. -/
theorem ByteSent.exchange_eq (h : ByteSent s k) (hs : Settled s) (hr : s.resetting = none) :
    exchange b s = Machine.beginExchange (settle (parseByte b { s with link := k })) := by
  have hrest : Settled { s with link := k } := h.settled hs rfl rfl rfl rfl rfl
  have hheard : hears { s with link := k } = true := by
    obtain ⟨-, -, -, -, hsame, x, hx, hsource⟩ := h.channel
    have hopen : k.exchange = some x := hsame.trans hx
    simp only [hears, hopen, hr, Option.isNone_none, Bool.true_and, bne_iff_ne, ne_eq]
    exact hsource
  have hsent : (if sendsFrame s && s.resetting.isNone then moveFirst (Machine.clockOut s) else s) = { s with link := k } := by
    have hsends (y : Exchange) (hy : s.link.exchange = some y) : sendsFrame s = (y.source == .frame) := by
      rw [sendsFrame, hy]
    by_cases hframe : ∃ y, s.link.exchange = some ⟨y, .frame⟩
    · obtain ⟨y, hy⟩ := hframe
      have hcounts : (sendsFrame s && s.resetting.isNone) = true := by
        rw [hsends _ hy, hr]
        rfl
      rw [if_pos hcounts, h.clockOut hy, moveFirst_settled hrest]
    · obtain ⟨y, hy, rfl⟩ | ⟨y, f, rest, hy, -⟩ := h
      · rw [hsends _ hy]
        rfl
      · exact absurd ⟨y, hy⟩ hframe
  unfold exchange
  simp only [hsent, hheard, if_true]

theorem ByteSent.exchanging (h : ByteSent s k) (ht : s.link.transaction = true) : exchanging s = true := by
  obtain ⟨-, -, -, -, -, x, hx, -⟩ := h.channel
  rw [Machine.exchanging, ht, hx]
  rfl

theorem ByteSent.hears (h : ByteSent s k) (hr : s.resetting = none) : hears s = true := by
  obtain ⟨-, -, -, -, -, x, hx, hsource⟩ := h.channel
  simp only [Machine.hears, hx, hr, Option.isNone_none, Bool.true_and, bne_iff_ne, ne_eq]
  exact hsource

/-- An exchange that ends no frame and finds no one waiting: one byte passes each way, and no more. -/
theorem ByteSent.passes (h : ByteSent s k) (hs : Settled s) (hr : s.resetting = none) (hp : TakesByte b s.link.parser p) :
    finish (Machine.exchange b s) =
      .next { s with link := { k with parser := p, exchange := some (nextByte k) } } := by
  have hrest : Settled { s with link := { k with parser := p } } := h.settled hs rfl rfl rfl rfl rfl
  have hparsed : parseByte b { s with link := k } = { s with link := { k with parser := p } } := by
    obtain ⟨-, -, hsame, -⟩ := h.channel
    exact parseByte_takes (hsame.symm ▸ hp)
  rw [h.exchange_eq hs hr, hparsed, settle_settled hrest.1 hrest.2, finish_settled hrest.beginExchange,
    beginExchange_awake (s := { s with link := { k with parser := p } }) hr]
  rfl

end

/-- Settles O36: with nobody waiting, the byte sent and the byte parsed are all that an exchange changes, and the next begins. -/
theorem exchangePassesOneByteEachWay : Obligations.ExchangePassesOneByteEachWay := by
  intro b p k s hs hr htransaction hsent htaken
  have hrow : exec (.exchangeComplete b) s = finish (exchange b s) :=
    congrArg finish (if_pos (hsent.exchanging htransaction))
  rw [hrow, hsent.passes hs hr htaken]
  rfl

end Sys2Proof.Machine
end

section
/-! What ends a frame that comes in: CS rising inside it (O35), its last check byte, or a bad length (O38). -/
namespace Sys2Proof.Machine

/-! ### Transactions (R169, R177) -/

section
variable {s t : State} {d : Detail}

/-- CS is low (R169). -/
def selected (s : State) : State := { s with link := { s.link with transaction := true } }

/-- CS is high, and the exchange in progress is discarded (R169). -/
def deselected (s : State) : State := { s with link := { s.link with transaction := false, exchange := none } }

theorem fallCS_high (h : s.link.transaction = false) : fallCS s = beginExchange (selected s) :=
  if_neg (Bool.eq_false_iff.1 h)

theorem riseCS_low (h : s.link.transaction = true) : riseCS s = cutFrame (deselected s) := if_pos h

theorem cutFrame_outside (h : s.link.parser = .sync) : cutFrame s = s := by
  rw [cutFrame, h]
  rfl

theorem cutFrame_inside (h : s.link.parser.cutDetail = some d) : cutFrame s = raise .frameCut d (setParser .sync s) := by
  rw [cutFrame, h]

theorem Settled.selected (h : Settled s) : Settled (selected s) := h.of_same rfl rfl rfl rfl rfl

theorem Settled.deselected (h : Settled s) : Settled (deselected s) := h.of_same rfl rfl rfl rfl rfl

theorem Settled.setParser (h : Settled s) (p : Parser) : Settled (setParser p s) := h.of_same rfl rfl rfl rfl rfl

end

/-- Settles O35: what begins and what ends with CS leaves the handler and the arbiter at rest, and a frame that is cut raises its
event, which takes no request. -/
theorem transactionsBeginAndEnd : Obligations.TransactionsBeginAndEnd := by
  intro s hs ten
  refine ⟨fun hhigh hr => ?_, fun hlow hp => ?_, fun d hlow hinside => ?_⟩
  · change finish (fallCS s) = _
    rw [fallCS_high hhigh, finish_settled hs.selected.beginExchange, beginExchange_awake (s := selected s) hr]
    rfl
  · change finish (riseCS s) = _
    rw [riseCS_low hlow, cutFrame_outside (s := deselected s) hp, finish_settled hs.deselected]
    rfl
  · have hdetail : s.link.parser.cutDetail = some d := by
      rcases hinside with ⟨hp, rfl⟩ | ⟨len, bytes, hp, rfl⟩ | ⟨len, bytes, hp, rfl⟩ | ⟨len, bytes, high, hp, rfl⟩
      · rw [hp]
        rfl
      · rw [hp]
        rfl
      · rw [hp]
        rfl
      · have hcount : 1 + bytes.length + 1 = 2 + bytes.length := by omega
        rw [hp, ← hcount]
        rfl
    have hrow : exec .transactionEnd s = finish (raise .frameCut d (setParser .sync (deselected s))) := by
      rw [← cutFrame_inside (s := deselected s) hdetail, ← riseCS_low hlow]
      rfl
    have hposts := (hs.deselected.setParser .sync).raise_posts .frameCut d
    exact ⟨_, hrow, hposts.raised rfl ten, hposts.answers rfl⟩

/-! ### Frames that end (R175, R176, R178, R179) -/

section
variable {s : State} {b : Byte} {k : Link} {e : Event} {d : Detail} {tag code : Byte} {payload : List Byte}

/-- A frame that is discarded raises its event, and nothing else comes of the exchange. -/
theorem ByteSent.discards (h : ByteSent s k) (hs : Settled s) (hr : s.resetting = none) (ten : TenGroups s)
    (hparsed : parseByte b { s with link := k } = raise e d { s with link := { k with parser := .sync } }) :
    ∃ t, finish (exchange b s) = .next t ∧ Raised [⟨e, s.tb.cycle, d⟩] s t ∧
      Effect { s with link := { k with parser := .sync, exchange := t.link.exchange } } t := by
  have hrest : Settled { s with link := { k with parser := .sync } } := h.settled hs rfl rfl rfl rfl rfl
  have hposts := (hrest.raise_posts e d).next_exchange
  refine ⟨_, ?_, hposts.raised rfl ten, hposts.answers rfl⟩
  rw [h.exchange_eq hs hr, hparsed]
  exact finish_settled (settle_settles _).beginExchange

theorem requestArrives_awake (hr : s.resetting = none) :
    requestArrives code tag payload s = acceptFrame 0x01 ⟨tag, code, payload⟩ s := by
  rw [requestArrives, hr]
  rfl

theorem acceptFrame_request (htag : tag ≠ 0) :
    acceptFrame 0x01 ⟨tag, code, payload⟩ s = enterIntake ⟨tag, code, payload⟩ s :=
  if_neg fun h => h.elim (absurd rfl) htag

theorem acceptFrame_otherwise {kind : Byte} (h : kind ≠ 0x01 ∨ tag = 0) :
    acceptFrame kind ⟨tag, code, payload⟩ s = raise .frameKind ⟨kind, tag, code, byte (payload.length + 3)⟩ s := if_pos h

/-- The exchange of a frame's second check byte. -/
theorem ByteSent.frame_row {len : Nat} {body : List Byte} {high : Byte} (h : ByteSent s k) (hr : s.resetting = none)
    (ht : s.link.transaction = true) (hp : s.link.parser = .check len body (some high)) :
    exec (.inboundFrameComplete b) s = finish (exchange b s) ∧
      parseByte b { s with link := k } = completeFrame len body (high ++ b) { s with link := { k with parser := .sync } } := by
  obtain ⟨-, -, hsame, -⟩ := h.channel
  refine ⟨congrArg finish (if_pos ?_), parseByte_completes (hsame.trans hp)⟩
  rw [h.exchanging ht, h.hears hr, hp]
  rfl

/-- The exchange of a bad length byte. -/
theorem ByteSent.length_row (h : ByteSent s k) (hr : s.resetting = none) (ht : s.link.transaction = true)
    (hp : s.link.parser = .length) (hb : b.toNat < 3 ∨ 243 < b.toNat) :
    exec (.frameLength b) s = finish (exchange b s) ∧
      parseByte b { s with link := k } = raise .frameLength ⟨b, 0, 0, 0⟩ { s with link := { k with parser := .sync } } := by
  have hbad : goodLength b = false := Bool.eq_false_iff.2 fun hgood => by
    obtain ⟨hlow, hhigh⟩ := goodLength_iff.1 hgood
    omega
  obtain ⟨-, -, hsame, -⟩ := h.channel
  refine ⟨congrArg finish (if_pos ?_), ?_⟩
  · rw [h.exchanging ht, h.hears hr, hp, hbad]
    rfl
  · have hat : ({ s with link := k } : State).link.parser = .length := hsame.trans hp
    rw [parseByte, hat]
    exact if_neg (Bool.eq_false_iff.1 hbad)

end

/-- Settles O38: the last check byte's exchange is the parser's `completeFrame` on what the byte sent leaves, and every discard is
one event raised at rest. -/
theorem inboundFramesEnd : Obligations.InboundFramesEnd := by
  refine ⟨fun len tag code kind high low payload k s hs hr ten ht hsent hp => ?_,
    fun tag code payload s hs hr ten htag => ⟨fun hplace hroom => ?_, fun hfull => ?_⟩,
    fun b k s hs hr ten ht hsent hp hb => ?_⟩
  · obtain ⟨hrow, hparsed⟩ := hsent.frame_row (b := low) hr ht hp
    rw [hrow]
    refine ⟨fun hright hkind htag => ?_, fun hright hother => ?_, fun hwrong => ?_⟩
    · subst hkind
      refine ⟨_, congrArg finish (requestArrives_awake (s := { s with link := { k with parser := .sync } }) hr), ?_⟩
      rw [hsent.exchange_eq hs hr, hparsed, completeFrame_right hright]
      exact finish_settled (settle_settles _).beginExchange
    · exact hsent.discards hs hr ten (by rw [hparsed, completeFrame_right hright, acceptFrame_otherwise hother])
    · exact hsent.discards hs hr ten (by rw [hparsed, completeFrame_wrong hwrong])
  · have hwaits : requestArrives code tag payload s =
        { s with link := { s.link with intake := s.link.intake ++ [⟨tag, code, payload⟩] } } := by
      rw [requestArrives_awake hr, acceptFrame_request htag]
      exact if_pos hroom
    rw [hwaits]
    exact finish_settled (settled_of_full hplace)
  · have hdiscarded : requestArrives code tag payload s = overflow ⟨tag, code, payload⟩ s := by
      rw [requestArrives_awake hr, acceptFrame_request htag]
      exact if_neg (Nat.not_lt.2 hfull)
    have hposts := hs.raise_posts .intakeOverflow ⟨tag, code, byte s.link.outbound.length, byte s.link.reservations⟩
    exact ⟨_, congrArg finish hdiscarded, hposts.raised rfl ten, hposts.answers rfl⟩
  · obtain ⟨hrow, hparsed⟩ := hsent.length_row hr ht hp hb
    rw [hrow]
    exact hsent.discards hs hr ten hparsed

end Sys2Proof.Machine
end

section
/-! No block but the link's own looks at the parser and at the exchange in progress: a request is carried out alike whatever comes
in meanwhile (R169, R182). A RESET alone touches the two, and leaves neither to what was there (R164). -/
namespace Sys2Proof.Machine

/-- The same part with another parser and another exchange in progress. -/
def tuned (q : Parser) (x : Option Exchange) (s : State) : State :=
  { s with link := { s.link with parser := q, exchange := x } }

/-- An operation that neither reads nor changes the parser and the exchange in progress. -/
def Deaf (f : State → State) : Prop := ∀ q x s, f (tuned q x s) = tuned q x (f s)

section
variable {q : Parser} {x : Option Exchange} {s : State} {n : Nat}

@[simp] theorem tuned_cfg : (tuned q x s).cfg = s.cfg := rfl
@[simp] theorem tuned_sched : (tuned q x s).sched = s.sched := rfl
@[simp] theorem tuned_launch : (tuned q x s).launch = s.launch := rfl
@[simp] theorem tuned_bufs : (tuned q x s).bufs = s.bufs := rfl
@[simp] theorem tuned_spor : (tuned q x s).spor = s.spor := rfl
@[simp] theorem tuned_notif : (tuned q x s).notif = s.notif := rfl
@[simp] theorem tuned_deferred : (tuned q x s).link.deferred = s.link.deferred := rfl
@[simp] theorem bankOf_tuned : bankOf (tuned q x s) n = bankOf s n := rfl
@[simp] theorem groupAt_tuned : groupAt (tuned q x s) n = groupAt s n := rfl

end

theorem Deaf.comp {f g : State → State} (hf : Deaf f) (hg : Deaf g) : Deaf (f ∘ g) := fun q x s => by
  rw [Function.comp_apply, Function.comp_apply, hg, hf]

/-- An operation that a condition chooses, which does not depend on the two either. -/
theorem Deaf.ite {f g : State → State} {c : State → Prop} [DecidablePred c] (hc : ∀ q x s, c (tuned q x s) ↔ c s)
    (hf : Deaf f) (hg : Deaf g) : Deaf fun s => if c s then f s else g s := fun q x s => by
  by_cases h : c s
  · simp only [if_pos h, if_pos ((hc q x s).2 h), hf q x s]
  · simp only [if_neg h, if_neg (mt (hc q x s).1 h), hg q x s]

/-- An operation with an operand from the state that does not depend on the two. -/
theorem Deaf.operand {α : Type} {f : α → State → State} {a : State → α} (hf : ∀ y, Deaf (f y))
    (ha : ∀ q x s, a (tuned q x s) = a s) : Deaf fun s => f (a s) s := fun q x s => by
  change f (a (tuned q x s)) (tuned q x s) = _
  rw [ha, hf]

theorem Deaf.id : Deaf fun s => s := fun _ _ _ => rfl

/-! ### What the blocks share -/

theorem compose_deaf : Deaf compose := fun q x s => by
  cases h : s.notif.chosen with
  | none => simp only [compose, tuned_notif, h]
  | some c =>
    rw [compose_eq (s := tuned q x s) h, compose_eq h]
    rfl

theorem composeAll_deaf : Deaf composeAll :=
  have honce : Deaf fun s => if arbiterReady s then compose s else s := .ite (fun _ _ _ => .rfl) compose_deaf .id
  honce.comp honce

theorem raise_deaf (e : Event) (d : Detail) : Deaf (raise e d) :=
  have hmoves : Deaf fun s =>
      if arbiterReady s then if Config.arbiterFirst s.races then composeAll (countRace s) else countRace s else s :=
    .ite (fun _ _ _ => .rfl) (.ite (fun _ _ _ => .rfl) (composeAll_deaf.comp fun _ _ _ => rfl) fun _ _ _ => rfl) .id
  hmoves.comp (g := fun s => { s with notif := s.notif.accept e s.tb.cycle d }) fun _ _ _ => rfl

/-- An event raised after an operation, with a detail that does not depend on the two. -/
theorem Deaf.raised {f : State → State} {e : Event} {d : State → Detail} (hf : Deaf f)
    (hd : ∀ q x s, d (tuned q x s) = d s) : Deaf fun s => raise e (d s) (f s) := fun q x s => by
  change raise e (d (tuned q x s)) (f (tuned q x s)) = _
  rw [hf, hd, raise_deaf]

theorem answerDeferred_deaf (kind : DeferredKind) (r : Result) : Deaf (answerDeferred kind r) := fun q x s => by
  unfold answerDeferred
  rw [tuned_deferred]
  cases s.link.deferred with
  | none => rfl
  | some d =>
    dsimp only
    split_ifs <;> rfl

theorem raiseCommitDone_deaf (cause : CommitCause) : Deaf (raiseCommitDone cause) := .raised .id fun _ _ _ => rfl

theorem settleCommit_deaf (cause : CommitCause) : Deaf (settleCommit cause) :=
  have hcopied : Deaf fun s => answerDeferred .tcommit .ok (copyEdit s) :=
    (answerDeferred_deaf _ _).comp (g := copyEdit) fun _ _ _ => rfl
  .ite (fun _ _ _ => .rfl) ((raiseCommitDone_deaf cause).comp hcopied) .id

theorem cutLaunch_deaf (lanes : LaneSet) : Deaf (cutLaunch lanes) := fun q x s => by
  unfold cutLaunch
  rw [tuned_launch]
  cases s.launch with
  | none => rfl
  | some l =>
    dsimp only
    split_ifs <;> rfl

theorem laneLeaves_deaf (l : Lane) : Deaf (laneLeaves l) := fun q x s => by
  rw [laneLeaves, cutLaunch_deaf]
  rfl

theorem changeLane_deaf (l : Lane) (cause : LaneCause) (u : LaneUnit) : Deaf (changeLane l cause u) :=
  .raised (fun _ _ _ => rfl) fun _ _ _ => rfl

theorem enterProbation_deaf (l : Lane) (cause : LaneCause) : Deaf (enterProbation l cause) :=
  (changeLane_deaf l cause _).comp (g := fun s => { s with rx := s.rx.update l (Receiver.listen s.now) }) fun _ _ _ => rfl

theorem insertRecord_deaf (r : Record) : Deaf (insertRecord r) :=
  .ite (fun _ _ _ => .rfl) (.raised (fun _ _ _ => rfl) fun _ _ _ => rfl) fun _ _ _ => rfl

theorem raiseSyncChanged_deaf (old : Sync) : Deaf (raiseSyncChanged old) := .raised .id fun _ _ _ => rfl

/-! ### What the requests do -/

theorem startPart_deaf : Deaf startPart :=
  have hlistens : Deaf fun s => changeSync .listen
      (setTimebase { s.tb with role := s.cfg.role } (receivers LaneSet.both (Receiver.listen s.now) s)) :=
    .raised (fun _ _ _ => rfl) fun _ _ _ => rfl
  .ite (fun _ _ _ => .rfl) (.comp (f := fun t => setTimebase
    { t.tb with startupListen := some (t.now + 2 * t.cfg.cycleLength) } t) (fun _ _ _ => rfl) hlistens) hlistens

theorem stopPart_deaf : Deaf stopPart :=
  have hstilled : Deaf fun s =>
      let t := abandonWindow (cutLaunch LaneSet.both s)
      setTimebase { t.tb with
        sync := .offline, role := t.cfg.role, offset := 0, length := t.cfg.cycleLength, missed := 0
        startupListen := none, beaconMark := false, lastTaken := none, atCycleStart := false, markUntil := none } t :=
    .comp (f := fun y =>
      let t := abandonWindow y
      setTimebase { t.tb with
        sync := .offline, role := t.cfg.role, offset := 0, length := t.cfg.cycleLength, missed := 0
        startupListen := none, beaconMark := false, lastTaken := none, atCycleStart := false, markUntil := none } t)
      (fun _ _ _ => rfl) (cutLaunch_deaf LaneSet.both)
  .operand (a := fun s => s.tb.sync) (fun old =>
    (answerDeferred_deaf _ _).comp ((settleCommit_deaf _).comp ((raiseSyncChanged_deaf old).comp hstilled)))
    fun _ _ _ => rfl

section
variable (tag : Byte) (p : List Byte)

theorem doStart_deaf : Deaf (doStart tag) :=
  .ite (fun _ _ _ => .rfl) (fun _ _ _ => rfl) <| .ite (fun _ _ _ => .rfl) (fun _ _ _ => rfl) <|
    .ite (fun _ _ _ => .rfl) (.comp (f := fun t => { t with link := { t.link with deferred := some ⟨.start, tag⟩ } })
      (fun _ _ _ => rfl) startPart_deaf) (.comp (f := answer tag .ok []) (fun _ _ _ => rfl) startPart_deaf)

theorem doStop_deaf : Deaf (doStop tag) :=
  .ite (fun _ _ _ => .rfl) (fun _ _ _ => rfl)
    (.operand (a := fun s => s.tb.sync) (fun old =>
      .comp (f := answer tag .ok [old.code]) (fun _ _ _ => rfl) stopPart_deaf) fun _ _ _ => rfl)

theorem doTcommit_deaf : Deaf (doTcommit tag) := fun q x s => by
  cases hp : s.sched.commitPending with
  | true =>
    have hbusy (y : State) (hy : y.sched.commitPending = true) : doTcommit tag y = refuse tag .busy y := if_pos hy
    rw [hbusy s hp, hbusy (tuned q x s) hp]
    rfl
  | false =>
    cases hv : validate s.cfg s.bufs s.sched.edit with
    | some f =>
      rw [doTcommit_invalid hp hv, doTcommit_invalid (s := tuned q x s) hp hv]
      rfl
    | none =>
      cases hr : s.tb.sync.running with
      | true =>
        rw [doTcommit_deferred hp hv hr, doTcommit_deferred (s := tuned q x s) hp hv hr]
        rfl
      | false =>
        rw [doTcommit_copied hp hv hr, doTcommit_copied (s := tuned q x s) hp hv hr]
        exact raiseCommitDone_deaf .immediate q x (answer tag .ok [] (copyEdit s))

theorem doTcancel_deaf : Deaf (doTcancel tag) :=
  .ite (fun _ _ _ => .rfl) (.raised (.comp (f := answer tag .ok []) (fun _ _ _ => rfl)
    ((answerDeferred_deaf .tcommit .cancelled).comp (g := uncommitted) fun _ _ _ => rfl)) fun _ _ _ => rfl)
    fun _ _ _ => rfl

theorem laneDisable_deaf (l : Lane) : Deaf (laneDisable tag l) := by
  have hleaves (u : LaneUnit) : Deaf fun s => changeLane l .lsetDisable u (answerLane tag u (laneLeaves l s)) :=
    .comp (changeLane_deaf l _ u) (.comp (f := answerLane tag u) (fun _ _ _ => rfl) (laneLeaves_deaf l))
  refine .ite (fun _ _ _ => .rfl) (fun _ _ _ => rfl) ?_
  exact .operand (a := fun s => (⟨.disabled, (s.lanes.get l).debit, 0, 0, false⟩ : LaneUnit)) hleaves fun _ _ _ => rfl

theorem laneEnable_deaf (l : Lane) : Deaf (laneEnable tag l) :=
  .ite (fun _ _ _ => .rfl) (.comp (f := enterProbation l .lsetEnable) (g := answer tag .ok [LaneState.probation.code, 0])
    (enterProbation_deaf l _) fun _ _ _ => rfl) fun _ _ _ => rfl

theorem laneClear_deaf (l : Lane) : Deaf (laneClear tag l) :=
  .ite (fun _ _ _ => .rfl) (fun _ _ _ => rfl) fun _ _ _ => rfl

theorem doLset_deaf : Deaf (doLset tag p) := by
  unfold doLset
  cases Lane.ofCode (fieldAt p 0) with
  | none => exact fun _ _ _ => rfl
  | some l =>
    dsimp only
    split_ifs
    · exact laneDisable_deaf tag l
    · exact laneEnable_deaf tag l
    · exact laneClear_deaf tag l
    · exact fun _ _ _ => rfl

theorem doRdrop_deaf : Deaf (doRdrop tag p) := by
  have hgap : Deaf fun s => closeGap s.recs.lost (dropRecords (fieldAt p 0) s) :=
    .operand (a := fun s => gapRecord s.recs.lost s.tb.cycle) (fun r => .comp (insertRecord_deaf r)
      (g := fun s => { dropRecords (fieldAt p 0) s with recs := { (dropRecords (fieldAt p 0) s).recs with lost := 0 } })
      fun _ _ _ => rfl) fun _ _ _ => rfl
  refine .ite (fun _ _ _ => .rfl) (.ite (fun _ _ _ => .rfl) (fun _ _ _ => rfl) fun q x s => ?_) fun _ _ _ => rfl
  rw [show closeGap _ (dropRecords _ (tuned q x s)) = _ from hgap q x s]
  rfl

theorem doConfig_deaf : Deaf (doConfig tag p) := by
  refine .ite (fun _ _ _ => .rfl) (fun _ _ _ => rfl) fun q x s => ?_
  cases configBad p with
  | some o => rfl
  | none =>
    simp only [tuned_bufs, tuned_sched]
    cases validate (configOf p) s.bufs s.sched.active <;> rfl

theorem doEput_deaf : Deaf (doEput tag p) := by
  refine .ite (fun _ _ _ => .rfl) (fun _ _ _ => rfl) ?_
  cases entryBad p <;> exact fun _ _ _ => rfl

theorem doEget_deaf : Deaf (doEget tag p) := fun q x s => by
  unfold doEget
  rw [bankOf_tuned]
  cases bankOf s (fieldAt p 0) with
  | none => rfl
  | some bank =>
    dsimp only
    split_ifs <;> rfl

theorem doTchk_deaf : Deaf (doTchk tag) := fun q x s => by
  simp only [doTchk, tuned_cfg, tuned_bufs, tuned_sched]
  cases validate s.cfg s.bufs s.sched.edit <;> rfl

theorem doBread_deaf : Deaf (doBread tag p) := by
  refine .ite (fun _ _ _ => .rfl) (fun _ _ _ => rfl) (.ite (fun _ _ _ => .rfl) (fun _ _ _ => rfl) ?_)
  cases (byteAt p 1).getLsbD 0 <;> exact fun _ _ _ => rfl

theorem doSpost_deaf : Deaf (doSpost tag p) := by
  unfold doSpost
  cases postBad p with
  | some o => exact fun _ _ _ => rfl
  | none =>
    exact .ite (fun _ _ _ => .rfl) (fun _ _ _ => rfl) <| .ite (fun _ _ _ => .rfl) (fun _ _ _ => rfl) <|
      .ite (fun _ _ _ => .rfl) (fun _ _ _ => rfl) fun _ _ _ => rfl

theorem doScancel_deaf : Deaf (doScancel tag p) := fun q x s => by
  simp only [doScancel, tuned_spor]
  cases s.spor.find (wordAt p 0).toNat with
  | none => rfl
  | some e =>
    dsimp only
    split_ifs <;> rfl

theorem doGset_deaf : Deaf (doGset tag p) := by
  unfold doGset
  cases groupBad p <;> exact fun _ _ _ => rfl

theorem doNack_deaf : Deaf (doNack tag p) := by
  refine .ite (fun _ _ _ => .rfl) (fun _ _ _ => rfl) (.ite (fun _ _ _ => .rfl) (fun q x s => ?_) fun _ _ _ => rfl)
  rw [groupAt_tuned]
  cases (groupAt s (fieldAt p 0)).acknowledged <;> rfl

/-- Every request but RESET. -/
theorem carryOut_deaf {c : Code} (hc : c ≠ .reset) : Deaf (carryOut c tag p) := by
  cases c with
  | reset => exact absurd rfl hc
  | start => exact doStart_deaf tag
  | stop => exact doStop_deaf tag
  | tcommit => exact doTcommit_deaf tag
  | tcancel => exact doTcancel_deaf tag
  | lset => exact doLset_deaf tag p
  | rdrop => exact doRdrop_deaf tag p
  | config => exact doConfig_deaf tag p
  | eput => exact doEput_deaf tag p
  | eget => exact doEget_deaf tag p
  | tchk => exact doTchk_deaf tag
  | bread => exact doBread_deaf tag p
  | spost => exact doSpost_deaf tag p
  | scancel => exact doScancel_deaf tag p
  | gset => exact doGset_deaf tag p
  | nack => exact doNack_deaf tag p
  | ident | cfgget | stat | lstat | slist => exact fun _ _ _ => rfl
  | edel | tclr | tload | bsetup | bwrite | bstat | rfetch | rthresh | nmask | evread =>
    repeat' refine .ite (fun _ _ _ => .rfl) ?_ ?_
    all_goals exact fun _ _ _ => rfl

end

end Sys2Proof.Machine
end

section
/-! A byte of the oldest frame is clocked out: the sync byte, a later one, and the last one, which frees a place for a request
that waits (O39). -/
namespace Sys2Proof.Machine

/-! ### The request that is taken (R180) -/

/-- A request carried out on the link as it stands: it touches neither what comes in nor the requests that wait, and its answer
fills the place reserved for it. -/
structure FillsItsPlace (op : State → State) : Prop where
  deaf : Deaf op
  onward : ∀ s, Onward s (op s)
  used : ∀ s, s.link.used ≤ (op s).link.used

section
variable {s : State} {r : Request} {rest : List Request} {c : Code}

theorem refuse_fills (tag : Byte) (x : Result) : FillsItsPlace (refuse tag x) where
  deaf := fun _ _ _ => rfl
  onward := fun _ => answer_onward _ _ _ _
  used := answer_used tag x []

theorem carryOut_fills (hc : c ≠ .reset) (tag : Byte) (p : List Byte) : FillsItsPlace (carryOut c tag p) where
  deaf := carryOut_deaf tag p hc
  onward := fun _ => carryOut_onward _ _ _ hc
  used := fun s => (carryOut_meets s tag p hc).used

theorem Code.byte_of_ofByte {b : Byte} (h : Code.ofByte b = some c) : c.byte = b := by
  have hfound : Code.all.find? (fun c : Code => c.byte == b) = some c := h
  have hsame := List.find?_some hfound
  exact beq_iff_eq.1 hsame

theorem checkRequest_carried (h : tagInUse r.tag rest s.link.deferred = false) (hc : Code.ofByte r.code = some c)
    (hlen : r.payload.length = c.required r.payload) : checkRequest r rest s = carryOut c r.tag r.payload s := by
  rw [checkRequest, if_neg (Bool.eq_false_iff.1 h), hc]
  exact if_pos hlen

/-- What becomes of the oldest request does not depend on what comes in; all but a RESET fill the place reserved for the
answer. -/
theorem takeRequest_op (h : s.link.intake = r :: rest) : ∃ op,
    (∀ q x, takeRequest (tuned q x s) = op (tuned q x (reserveFor rest s))) ∧
      (FillsItsPlace op ∨ r.code = Code.reset.byte ∧ op = commandReset r.tag) := by
  have htaken (q x) : takeRequest (tuned q x s) = checkRequest r rest (tuned q x (reserveFor rest s)) := by
    have hwaits : (tuned q x s).link.intake = r :: rest := h
    rw [takeRequest, hwaits]
    rfl
  cases hused : tagInUse r.tag rest s.link.deferred with
  | true => exact ⟨_, fun q x => (htaken q x).trans (checkRequest_inUse hused), .inl (refuse_fills _ _)⟩
  | false =>
    cases hcode : Code.ofByte r.code with
    | none => exact ⟨_, fun q x => (htaken q x).trans (checkRequest_unknown hused hcode), .inl (refuse_fills _ _)⟩
    | some c =>
      by_cases hlen : r.payload.length = c.required r.payload
      · refine ⟨_, fun q x => (htaken q x).trans (checkRequest_carried hused hcode hlen), ?_⟩
        by_cases hc : c = .reset
        · subst hc
          exact .inr ⟨(Code.byte_of_ofByte hcode).symm, rfl⟩
        · exact .inl (carryOut_fills hc _ _)
      · exact ⟨_, fun q x => (htaken q x).trans (checkRequest_badLength hused hcode hlen), .inl (refuse_fills _ _)⟩

/-! ### One place free, and requests that wait for it -/

/-- A single place is free, requests wait, and there is nothing to notify. -/
structure OnePlace (r : Request) (rest : List Request) (s : State) : Prop where
  awake : s.resetting = none
  waits : s.link.intake = r :: rest
  used : s.link.used = 7
  quiet : s.notif.chosen = none

theorem OnePlace.tuned (h : OnePlace r rest s) (q : Parser) (x : Option Exchange) : OnePlace r rest (tuned q x s) :=
  ⟨h.awake, h.waits, h.used, h.quiet⟩

theorem OnePlace.countRace (h : OnePlace r rest s) : OnePlace r rest (countRace s) := ⟨h.awake, h.waits, h.used, h.quiet⟩

theorem OnePlace.ready (h : OnePlace r rest s) : handlerReady s = true := by
  have hplace : s.link.hasPlace = true := by
    rw [Link.hasPlace, h.used]
    rfl
  rw [handlerReady, h.awake, h.waits, hplace]
  rfl

theorem OnePlace.idle (h : OnePlace r rest s) : arbiterReady s = false := by
  rw [arbiterReady, h.quiet, Option.isSome_none, Bool.and_false, Bool.false_and, Bool.false_and]

/-- The request that is taken leaves no place for the next. -/
theorem OnePlace.taken_settled (h : OnePlace r rest s) : Settled (takeRequest s) := by
  obtain ⟨op, hop, hkind⟩ := takeRequest_op h.waits
  have htaken : takeRequest s = op (reserveFor rest s) := hop s.link.parser s.link.exchange
  rw [htaken]
  rcases hkind with hfills | ⟨-, rfl⟩
  · have hreserved : (reserveFor rest s).link.used = 8 := congrArg (· + 1) h.used
    exact settled_of_full (noPlace_iff.2 (hreserved ▸ hfills.used (reserveFor rest s)))
  · exact commandReset_settled _ _

/-- It is the only one that is taken. -/
theorem OnePlace.settle (h : OnePlace r rest s) : settle s = takeRequest s := by
  have hserve : serve s = takeRequest s := by
    rw [serve, if_pos h.ready, if_neg (Bool.eq_false_iff.1 h.idle)]
  obtain ⟨hhandler, harbiter⟩ := h.taken_settled
  have hmoves : s.link.intake.length + Config.notifyPlaces = rest.length + 2 + 1 := by
    rw [h.waits]
    rfl
  rw [Machine.settle, hmoves, serveTimes, hserve, serveTimes_settled hhandler harbiter]

theorem OnePlace.intake (h : OnePlace r rest s) (hr : r.code ≠ Code.reset.byte) : (takeRequest s).link.intake = rest := by
  obtain ⟨op, hop, hkind⟩ := takeRequest_op h.waits
  have htaken : takeRequest s = op (reserveFor rest s) := hop s.link.parser s.link.exchange
  rcases hkind with hfills | ⟨hreset, -⟩
  · obtain ⟨-, hintake, -⟩ := hfills.onward (reserveFor rest s)
    rw [htaken, hintake]
    rfl
  · exact absurd hreset hr

variable {b : Byte} {p : Parser} {x : Byte}

/-- The parser takes its byte after the request as it would before: a RESET has neither parser nor exchange left to hear it, any
other request leaves them alone. -/
theorem OnePlace.hears_after (h : OnePlace r rest s) (hx : s.link.exchange = some ⟨x, .frame⟩)
    (hp : TakesByte b s.link.parser p) :
    (if hears (takeRequest s) then parseByte b (takeRequest s) else takeRequest s) = takeRequest (setParser p s) := by
  obtain ⟨op, hop, hkind⟩ := takeRequest_op h.waits
  have htaken : takeRequest s = op (reserveFor rest s) := hop s.link.parser s.link.exchange
  have hafter : takeRequest (setParser p s) = op (Machine.tuned p s.link.exchange (reserveFor rest s)) :=
    hop p s.link.exchange
  rw [hafter, htaken]
  rcases hkind with hfills | ⟨-, rfl⟩
  · have hkept : op (reserveFor rest s) = Machine.tuned s.link.parser s.link.exchange (op (reserveFor rest s)) :=
      hfills.deaf s.link.parser s.link.exchange (reserveFor rest s)
    have hparser : (op (reserveFor rest s)).link.parser = s.link.parser := by rw [hkept]; rfl
    have hexchange : (op (reserveFor rest s)).link.exchange = s.link.exchange := by rw [hkept]; rfl
    have hawake : (op (reserveFor rest s)).resetting = none := (hfills.onward (reserveFor rest s)).awake h.awake
    have hheard : hears (op (reserveFor rest s)) = true := by
      rw [hears, hexchange, hx, hawake]
      rfl
    rw [if_pos hheard, parseByte_takes (hparser.symm ▸ hp), hfills.deaf p s.link.exchange]
    conv_lhs => rw [hkept]
    rfl
  · have hdeaf : hears (commandReset r.tag (reserveFor rest s)) = false := by
      simp [hears, commandReset, resetBlocks, orphanExchange, reserveFor, hx]
    rw [if_neg (Bool.eq_false_iff.1 hdeaf)]
    rfl

end

/-! ### The last byte of a frame (R170) -/

section
variable {s : State} {b x : Byte} {p : Parser} {f : OutFrame} {rest : List OutFrame}

/-- The oldest frame has left the outbound queue. -/
def frameOut (rest : List OutFrame) (s : State) : State :=
  { s with link := { s.link with outbound := rest, delivered := 0 } }

theorem sendsFrame_of (hx : s.link.exchange = some ⟨x, .frame⟩) : sendsFrame s = true := by
  rw [sendsFrame, hx]
  rfl

theorem exchanging_of {e : Exchange} (ht : s.link.transaction = true) (hx : s.link.exchange = some e) :
    exchanging s = true := by
  rw [exchanging, ht, hx]
  rfl

theorem hears_of (hr : s.resetting = none) (hx : s.link.exchange = some ⟨x, .frame⟩) : hears s = true := by
  rw [hears, hx, hr]
  rfl

theorem clockOut_last (hf : s.link.outbound = f :: rest) (hlast : s.link.delivered + 1 = f.payload.length + 8) :
    clockOut s = frameOut rest s := by
  rw [clockOut, hf]
  exact if_pos hlast

theorem exchange_last (hr : s.resetting = none) (hx : s.link.exchange = some ⟨x, .frame⟩)
    (hf : s.link.outbound = f :: rest) (hlast : s.link.delivered + 1 = f.payload.length + 8) :
    exchange b s = beginExchange (settle
      (if hears (moveFirst (frameOut rest s)) then parseByte b (moveFirst (frameOut rest s))
        else moveFirst (frameOut rest s))) := by
  have hcounts : (sendsFrame s && s.resetting.isNone) = true := by
    rw [sendsFrame_of hx, hr]
    rfl
  simp only [exchange, if_pos hcounts, clockOut_last hf hlast]

theorem lastByte_row (ht : s.link.transaction = true) (hx : s.link.exchange = some ⟨x, .frame⟩)
    (hf : s.link.outbound = f :: rest) (hlast : s.link.delivered + 1 = f.payload.length + 8) :
    exec (.frameClockedOut b) s = finish (exchange b s) := by
  have hout : lastByteOut s.link = true := by
    rw [lastByteOut, hf]
    exact beq_iff_eq.2 hlast
  refine congrArg finish (if_pos ?_)
  rw [exchanging_of ht hx, sendsFrame_of hx, hout]
  rfl

/-- A request that comes in to an empty intake queue waits there alone. -/
theorem requestArrives_empty {tag code : Byte} {payload : List Byte} (hr : s.resetting = none) (htag : tag ≠ 0)
    (hi : s.link.intake = []) :
    requestArrives code tag payload s = { s with link := { s.link with intake := [⟨tag, code, payload⟩] } } := by
  rw [requestArrives_awake hr, acceptFrame_request htag, enterIntake, hi]
  rfl

/-- With no request waiting the arbiter alone may use the place that is freed. -/
theorem moveFirst_posts (hi : s.link.intake = []) : Posts [] [] s (moveFirst s) := by
  have hcounted : Posts [] [] s (countRace s) :=
    ⟨s.notif, [], s.races + 1, by simp [State.noted, countRace], rfl, by simp, .refl _⟩
  unfold moveFirst
  split_ifs
  · exact hcounted.settle hi
  · exact hcounted
  · exact .refl s

/-- With no request waiting, nothing but NOTIFY frames comes of the place that the frame leaves. -/
theorem exchange_last_unawaited (hr : s.resetting = none) (hx : s.link.exchange = some ⟨x, .frame⟩)
    (hp : TakesByte b s.link.parser p) (hf : s.link.outbound = f :: rest)
    (hlast : s.link.delivered + 1 = f.payload.length + 8) (hi : s.link.intake = []) :
    ∃ u, exchange b s = beginExchange u ∧ Settled u ∧ Posts [] [] (setParser p (frameOut rest s)) u := by
  have hmoved : Posts [] [] (frameOut rest s) (moveFirst (frameOut rest s)) := moveFirst_posts hi
  have hparsed : Posts [] [] (setParser p (frameOut rest s)) (setParser p (moveFirst (frameOut rest s))) :=
    hmoved.map fun _ _ _ _ => rfl
  refine ⟨settle (setParser p (moveFirst (frameOut rest s))), ?_, settle_settles _, hparsed.settle hi⟩
  have hkept : (moveFirst (frameOut rest s)).link.parser = s.link.parser ∧
      (moveFirst (frameOut rest s)).link.exchange = s.link.exchange ∧
      (moveFirst (frameOut rest s)).resetting = s.resetting := by
    obtain ⟨n, new, races, hnoted, -⟩ := hmoved
    rw [hnoted]
    exact ⟨rfl, rfl, rfl⟩
  obtain ⟨hparser, hsame, hreset⟩ := hkept
  rw [exchange_last hr hx hf hlast, if_pos (hears_of (hreset.trans hr) (hsame.trans hx)),
    parseByte_takes (hparser.symm ▸ hp)]

/-- The oldest request is taken at the place that the frame leaves, whether before the inbound byte or after it. -/
theorem exchange_last_taken {r : Request} {more : List Request} (hr : s.resetting = none)
    (hx : s.link.exchange = some ⟨x, .frame⟩) (hp : TakesByte b s.link.parser p) (hf : s.link.outbound = f :: rest)
    (hlast : s.link.delivered + 1 = f.payload.length + 8) (hplace : OnePlace r more (frameOut rest s)) :
    exchange b s = beginExchange (takeRequest (setParser p (countRace (frameOut rest s)))) := by
  have hcounted := hplace.countRace
  have hdone : Settled (takeRequest (setParser p (countRace (frameOut rest s)))) := (hcounted.tuned p _).taken_settled
  have hready : (handlerReady (frameOut rest s) || arbiterReady (frameOut rest s)) = true := by
    rw [hplace.ready, Bool.true_or]
  rw [exchange_last hr hx hf hlast, moveFirst, if_pos hready]
  congr 1
  split
  · rw [hcounted.settle, hcounted.hears_after hx hp, settle_settled hdone.1 hdone.2]
  · have hheard : hears (countRace (frameOut rest s)) = true := hears_of hr hx
    rw [if_pos hheard, parseByte_takes (s := countRace (frameOut rest s)) hp]
    exact (hcounted.tuned p _).settle

end

/-- Settles O39: the sync byte and the later ones free nothing; the last byte frees one place, which the arbiter may use when no
request waits, and which the oldest request takes when one does. -/
theorem bytesClockedOut : Obligations.BytesClockedOut := by
  intro b x p f rest s hs hr ht hx hp hf
  have hsends := sendsFrame_of hx
  have hopen := exchanging_of ht hx
  refine ⟨fun hfirst => ?_, fun hlater hless => ?_, fun hlast hi => ?_, fun r more hlast hi hsound htag hc => ?_⟩
  · have hrow : exec (.syncByteClockedOut b) s = finish (exchange b s) := by
      refine congrArg finish (if_pos ?_)
      rw [hopen, hsends, hfirst]
      rfl
    have hsent : ByteSent s _ := .inr ⟨x, f, rest, hx, hf, .inl ⟨hfirst, rfl⟩⟩
    rw [hrow, hsent.passes hs hr hp]
    rfl
  · have hsent : ByteSent s _ := .inr ⟨x, f, rest, hx, hf, .inr (.inl ⟨hlater, hless, rfl⟩)⟩
    have hrow : exec (.exchangeComplete b) s = finish (exchange b s) := congrArg finish (if_pos hopen)
    have hoffered : nextByte { s.link with delivered := s.link.delivered + 1 } =
        ⟨(f.wire[s.link.delivered + 1]?).getD 0, .frame⟩ := by rw [nextByte, hf]
    rw [hrow, hsent.passes hs hr hp, hoffered]
  · obtain ⟨u, hexchange, hrest, hposts⟩ := exchange_last_unawaited hr hx hp hf hlast hi
    have hawake : u.resetting = none := hposts.onward.awake hr
    have hdone : finish (exchange b s) = .next (beginExchange u) := by rw [hexchange, finish_settled hrest.beginExchange]
    rw [lastByte_row ht hx hf hlast]
    refine ⟨_, hdone, hposts.next_exchange.answers rfl, ?_, fun hempty hc => ?_⟩
    · rw [beginExchange_awake hawake]
      rfl
    · have hsent : ByteSent s _ := .inr ⟨x, f, rest, hx, hf, .inr (.inr ⟨hlast, hi, hc, rfl⟩)⟩
      rw [Host.Outcome.next.inj (hdone.symm.trans (hsent.passes hs hr hp)), hempty, attn]
      exact Bool.and_false _
  · have hplace : OnePlace r more (frameOut rest s) := by
      have hwaits : s.link.intake ≠ [] := hi ▸ List.cons_ne_nil r more
      have hfull : 8 ≤ s.link.used := noPlace_iff.1 (hs.full hr hwaits)
      obtain ⟨hle, -⟩ := hsound
      refine ⟨hr, hi, ?_, hc⟩
      rw [Link.used, hf, List.length_cons] at hfull hle
      change rest.length + s.link.reservations = 7
      omega
    have hcounted : OnePlace r more (setParser p (countRace (frameOut rest s))) := hplace.countRace.tuned p s.link.exchange
    have hawake : (takeRequest (setParser p (countRace (frameOut rest s)))).resetting = none := takeRequest_awake hr
    rw [lastByte_row ht hx hf hlast, exchange_last_taken hr hx hp hf hlast hplace]
    refine ⟨_, finish_settled hcounted.taken_settled.beginExchange, ?_, fun hcode => ?_, fun hmore => ?_⟩
    · rw [beginExchange_awake hawake]
      rfl
    · exact hcounted.intake hcode
    · refine ⟨takeRequest (setParser p (countRace (frameOut rest s))), ?_, rfl⟩
      subst hmore
      have harrives : requestArrives r.code r.tag r.payload
          { s with
            link := { s.link with outbound := rest, delivered := 0, intake := [], parser := p }, races := s.races + 1 } =
          setParser p (countRace (frameOut rest s)) := by
        have hwaits : setParser p (countRace (frameOut rest s)) = { s with
            link := { s.link with outbound := rest, delivered := 0, intake := [r], parser := p }
            races := s.races + 1 } := by
          rw [← hi]
          rfl
        rw [hwaits]
        exact requestArrives_empty hr htag rfl
      rw [harrives, finish, hcounted.settle]

end Sys2Proof.Machine
end

section
/-! The slot entry as EGET answers it and EPUT reads it (R40, R197, R198; O16). -/
namespace Sys2Proof.Machine

/-! ### The set of cycles (R188) -/

theorem cyclesBytes_length (n : Nat) (c : BitVec 64) : (cyclesBytes n c).length = n := by
  induction n generalizing c with
  | zero => rfl
  | succ n ih => rw [cyclesBytes, List.length_cons, ih]

/-- A set is its first eight cycles and the ones after them. -/
theorem cycles_split (c : BitVec 64) : (c.setWidth 8).setWidth 64 ||| (c >>> 8 <<< 8) = c := by
  ext i hi
  by_cases h : i < 8
  · simp [h, hi]
  · have hback : 8 + (i - 8) = i := by omega
    simp [h, hi, hback]

/-- A set with no cycle past the first 8n comes back from its first n bytes. -/
theorem cyclesOf_cyclesBytes {n : Nat} {c : BitVec 64} (h : c >>> (8 * n) = 0) : cyclesOf (cyclesBytes n c) = c := by
  induction n generalizing c with
  | zero => exact h.symm
  | succ n ih =>
    have hrest : c >>> 8 >>> (8 * n) = 0 := by
      rw [← BitVec.shiftRight_add, Nat.add_comm]
      exact h
    rw [cyclesBytes, cyclesOf, ih hrest, cycles_split]

/-! ### The codes of an entry's fields (R188, R204) -/

theorem entryRoleOfCode_code (r : EntryRole) : EntryRole.ofCode r.code.toNat = some r := by cases r <;> rfl

theorem laneSetOfCode_code {x : LaneSet} (h : x.isEmpty = false) : LaneSet.ofCode x.code.toNat = some x := by
  match x with
  | ⟨true, true⟩ | ⟨true, false⟩ | ⟨false, true⟩ => rfl
  | ⟨false, false⟩ => exact absurd h nofun

/-- An optional number comes back from its byte where presence is known from elsewhere. -/
theorem optByte_back {x : Option Nat} (h : ∀ n ∈ x, n ≤ 255) : (if x.isSome then some (optByte x).toNat else none) = x := by
  cases x with
  | none => rfl
  | some n => exact congrArg some (byte_toNat (h n rfl))

/-- So does an expected sender; a node id never reads as ANY. -/
theorem senderByte_back {x : Option Expected} (h : ∀ n, x = some (.node n) → n ≤ 63) :
    (if x.isSome then some (Expected.ofCode (senderByte x).toNat) else none) = x := by
  match x with
  | none | some .any => rfl
  | some (.node n) =>
    have hn : n ≤ 63 := h n rfl
    have hbyte : (byte n).toNat = n := byte_toNat (by omega)
    have hany : n ≠ 255 := by omega
    simp [senderByte, hbyte, Expected.ofCode, hany]

theorem senderByte_passes {x : Option Expected} (h : ∀ n, x = some (.node n) → 1 ≤ n ∧ n ≤ 63) :
    idOrAny (senderByte x).toNat = true := by
  match x with
  | none | some .any => rfl
  | some (.node n) =>
    have hn := h n rfl
    have hbyte : (byte n).toNat = n := byte_toNat (by omega)
    rw [senderByte, hbyte, idOrAny, within_iff.2 hn, Bool.true_or]

/-- A field that is present lies in its range, so its byte passes the field's test. -/
theorem optByte_within {high : Nat} {x : Option Nat} (hhigh : high ≤ 255) (h : ∀ n ∈ x, n ≤ high) :
    (!x.isSome || within 0 high (optByte x).toNat) = true := by
  cases x with
  | none => rfl
  | some n =>
    have hn : n ≤ high := h n rfl
    have hbyte : (byte n).toNat = n := byte_toNat (by omega)
    rw [optByte, hbyte, within_iff.2 ⟨n.zero_le, hn⟩, Bool.or_true]

theorem logBit_flags (log alarm : Bool) : (flagByte log ||| (flagByte alarm <<< 1)).getLsbD 0 = log := by
  cases log <;> cases alarm <;> rfl

theorem alarmBit_flags (log alarm : Bool) : (flagByte log ||| (flagByte alarm <<< 1)).getLsbD 1 = alarm := by
  cases log <;> cases alarm <;> rfl

/-! ### The entry (R40, R197, R198) -/

section
variable {position : Nat} {e : Entry}

/-- The role says which optional fields are present (R40). -/
theorem entryPresence (h : EntrySound e) :
    roleUsesBuffer e.role.code.toNat = e.buffer.isSome ∧ roleUsesBuffer e.role.code.toNat = e.maxWords.isSome ∧
    decide (e.role.code.toNat = 2) = e.sender.isSome := by
  obtain ⟨-, -, -, -, hrole⟩ := h
  cases hr : e.role with
  | send =>
    rw [hr] at hrole
    obtain ⟨⟨b, hb, -⟩, hs, w, hw, -⟩ := hrole
    rw [Option.mem_def.1 hb, hs, Option.mem_def.1 hw]
    exact ⟨rfl, rfl, rfl⟩
  | expect =>
    rw [hr] at hrole
    obtain ⟨⟨b, hb, -⟩, hs, w, hw, -⟩ := hrole
    rw [Option.mem_def.1 hb, hs, Option.mem_def.1 hw]
    exact ⟨rfl, rfl, rfl⟩
  | openSlot | quiet =>
    rw [hr] at hrole
    obtain ⟨hb, hs, hw⟩ := hrole
    rw [hb, hs, hw]
    exact ⟨rfl, rfl, rfl⟩

theorem entryBuffer_le (h : EntrySound e) : ∀ n ∈ e.buffer, n ≤ 47 := by
  obtain ⟨-, -, -, -, hrole⟩ := h
  intro n hn
  cases hr : e.role with
  | send | expect =>
    rw [hr] at hrole
    obtain ⟨⟨b, hb, hle⟩, -⟩ := hrole
    exact Option.mem_unique hn hb ▸ hle
  | openSlot | quiet =>
    rw [hr] at hrole
    rw [hrole.1] at hn
    exact absurd hn nofun

theorem entryMaxWords_le (h : EntrySound e) : ∀ n ∈ e.maxWords, n ≤ 32 := by
  intro n hn
  have hle := maxWords_le h
  rwa [Option.mem_def.1 hn] at hle

theorem entryBytes_length (position : Nat) (e : Entry) : (entryBytes position e).length = 20 := by
  rw [entryBytes, List.length_append, cyclesBytes_length]
  rfl

/-- The fields of the EGET answer that every role has, each read at its offset (R197). -/
theorem entryBytes_fields (hp : position ≤ 63) (h : EntrySound e) :
    fieldAt (entryBytes position e) 0 = position ∧ fieldAt (entryBytes position e) 1 = e.slot ∧
    fieldAt (entryBytes position e) 2 = e.role.code.toNat ∧
    LaneSet.ofCode (fieldAt (entryBytes position e) 3) = some e.lanes ∧
    (wordAt (entryBytes position e) 4).toNat = e.start ∧ (wordAt (entryBytes position e) 6).toNat = e.length ∧
    (byteAt (entryBytes position e) 11).getLsbD 0 = e.log ∧ (byteAt (entryBytes position e) 11).getLsbD 1 = e.alarm ∧
    cyclesOf ((entryBytes position e).drop 12) = e.cycles := by
  obtain ⟨hslot, hstart, hlength, hlanes, -⟩ := h
  have hcycles : e.cycles >>> (8 * 8) = 0 := BitVec.ushiftRight_eq_zero (Nat.le_refl _)
  exact ⟨byte_toNat (by omega), byte_toNat (by omega), rfl, laneSetOfCode_code hlanes, wordOf_number16 hstart,
    wordOf_number16 hlength.2, logBit_flags e.log e.alarm, alarmBit_flags e.log e.alarm, cyclesOf_cyclesBytes hcycles⟩

/-- The three fields that only some roles have: absent is 0xFF (R198). -/
theorem entryBytes_optional (position : Nat) (e : Entry) :
    fieldAt (entryBytes position e) 8 = (optByte e.buffer).toNat ∧
    fieldAt (entryBytes position e) 9 = (senderByte e.sender).toNat ∧
    fieldAt (entryBytes position e) 10 = (optByte e.maxWords).toNat := ⟨rfl, rfl, rfl⟩

/-- The EGET answer passes the EPUT tests. -/
theorem entryBad_entryBytes (hp : position ≤ 63) (h : EntrySound e)
    (hid : ∀ n, e.sender = some (.node n) → 1 ≤ n ∧ n ≤ 63) : entryBad (entryBytes position e) = none := by
  obtain ⟨hposition, hslot, hrole, hlanes, -, hlength, -⟩ := entryBytes_fields hp h
  obtain ⟨hbuffer, hsender, hwords⟩ := entryBytes_optional position e
  obtain ⟨husesBuffer, husesWords, -⟩ := entryPresence h
  have hbufferPasses := optByte_within (by decide) (entryBuffer_le h)
  have hwordsPasses := optByte_within (by decide) (entryMaxWords_le h)
  obtain ⟨hslotRange, -, hlengthRange, -⟩ := h
  have hnonzero : wordAt (entryBytes position e) 6 ≠ 0 := fun hzero => by
    have hlengthZero : e.length = 0 := by
      rw [← hlength, hzero]
      rfl
    omega
  rw [entryBad, hposition, hslot, hrole, hlanes, hbuffer, hsender, hwords, entryRoleOfCode_code, senderByte_passes hid]
  refine firstBad_eq_none ?_
  simp only [List.forall_mem_cons]
  refine ⟨within_iff.2 ⟨position.zero_le, hp⟩, within_iff.2 hslotRange, rfl, rfl, decide_eq_true hnonzero, ?_,
    Bool.or_true _, ?_, nofun⟩
  · rw [husesBuffer, hbufferPasses]
  · rw [husesWords, hwordsPasses]

/-- Read as an EPUT payload, the EGET answer carries the entry it was made from. -/
theorem entryOf_entryBytes (hp : position ≤ 63) (h : EntrySound e) (hid : ∀ n, e.sender = some (.node n) → n ≤ 63) :
    entryOf (entryBytes position e) = e := by
  obtain ⟨-, hslot, hrole, hlanes, hstart, hlength, hlog, halarm, hcycles⟩ := entryBytes_fields hp h
  obtain ⟨hbuffer, hsender, hwords⟩ := entryBytes_optional position e
  obtain ⟨husesBuffer, husesWords, husesSender⟩ := entryPresence h
  have hbufferBack := optByte_back fun n hn => (entryBuffer_le h n hn).trans (by decide)
  have hwordsBack := optByte_back fun n hn => (entryMaxWords_le h n hn).trans (by decide)
  have hsenderBack := senderByte_back hid
  rw [← husesBuffer] at hbufferBack
  rw [← husesWords] at hwordsBack
  simp only [← husesSender, decide_eq_true_eq] at hsenderBack
  rw [entryOf, hslot, hrole, hlanes, hstart, hlength, hlog, halarm, hcycles, hbuffer, hsender, hwords, entryRoleOfCode_code]
  simp only [hbufferBack, hwordsBack, hsenderBack, Option.getD_some]

end

/-- Settles O16: each field comes back from its bytes, and the role says which optional fields were present. -/
theorem entryRoundTrip : Obligations.EntryRoundTrip := fun position e hp h hid =>
  ⟨entryBytes_length position e, entryBad_entryBytes hp h hid, (entryBytes_fields hp h).1,
    entryOf_entryBytes hp h fun n hn => (hid n hn).2⟩

end Sys2Proof.Machine
end

section
/-! What the blocks share leaves the queue of commands that wait alone: it is the model's own, and no block knows of it (log 1). -/
namespace Sys2Proof.Machine

/-! ### Branches, notifications and posts -/

/-- Both branches of a test are looked at for the commands that wait in them. -/
@[simp] theorem ite_pending (c : Prop) [Decidable c] (s t : State) :
    (if c then s else t).pending = if c then s.pending else t.pending := apply_ite State.pending c s t

section
variable {s t : State}

theorem Notifies.pending_eq (h : Notifies s t) : t.pending = s.pending := by
  obtain ⟨n, new, r, rfl, -⟩ := h
  rfl

theorem Posts.pending_eq {responses : List OutFrame} {notices : List Notice} (h : Posts responses notices s t) :
    t.pending = s.pending := by
  obtain ⟨n, new, r, rfl, -⟩ := h
  rfl

/-- What an operation posts does not touch the queue, so the change it makes tells what becomes of it. -/
theorem Does.pending_eq {op f : State → State} {resp : State → List OutFrame} {said : State → List Notice}
    (d : Does op f resp said) (s : State) : (op s).pending = (f s).pending := (d.posts s).pending_eq

end

variable (s : State)

/-! ### Notifications, answers, records and commits -/

@[simp] theorem compose_pending : (compose s).pending = s.pending := (compose_notifies s).pending_eq

@[simp] theorem insertRecord_pending (r : Record) : (insertRecord r s).pending = s.pending := (insertRecord_does r).pending_eq s

@[simp] theorem fileRecord_pending (r : Record) : (fileRecord r s).pending = s.pending := (fileRecord_does r).pending_eq s

@[simp] theorem raiseCommitDone_pending (cause : CommitCause) : (raiseCommitDone cause s).pending = s.pending := raise_pending

@[simp] theorem answerDeferred_pending (kind : DeferredKind) (r : Result) : (answerDeferred kind r s).pending = s.pending :=
  (answerDeferred_does kind r).pending_eq s

@[simp] theorem settleCommit_pending (cause : CommitCause) : (settleCommit cause s).pending = s.pending := by
  simp [settleCommit]

@[simp] theorem raiseQueueEmpty_pending (ticket : Nat) (cause : Byte) (cycle : BitVec 6) :
    (raiseQueueEmpty ticket cause cycle s).pending = s.pending := by
  simp [raiseQueueEmpty]

@[simp] theorem expireDue_pending : (expireDue s).pending = s.pending := by
  have hgone : (s.spor.due.foldl (fun t e => expireEntry e t) s).pending = s.pending := by
    rw [(expireAll_posts s.spor.due (.refl s)).pending_eq, expiredAll_eq]
  unfold expireDue
  split
  next => rfl
  next => exact (raiseQueueEmpty_pending _ _ _ _).trans hgone

/-! ### Lanes and launches -/

@[simp] theorem cutLaunch_pending (lanes : LaneSet) : (cutLaunch lanes s).pending = s.pending := by
  rcases cutLaunch_cases lanes s with ⟨-, h⟩ | ⟨x, -, ⟨-, h⟩ | ⟨-, h⟩⟩ <;> rw [h]

@[simp] theorem laneLeaves_pending (l : Lane) : (laneLeaves l s).pending = s.pending := cutLaunch_pending s _

@[simp] theorem changeLane_pending (l : Lane) (cause : LaneCause) (u : LaneUnit) : (changeLane l cause u s).pending = s.pending :=
  (changeLane_does l cause u).pending_eq s

@[simp] theorem enterProbation_pending (l : Lane) (cause : LaneCause) : (enterProbation l cause s).pending = s.pending :=
  (enterProbation_does l cause).pending_eq s

@[simp] theorem promoteLane_pending (l : Lane) : (promoteLane l s).pending = s.pending := (promoteLane_does l).pending_eq s

@[simp] theorem laneCycleStart_pending (l : Lane) : (laneCycleStart l s).pending = s.pending := by
  rw [(laneCycleStart_does l).pending_eq, lived_eq]

@[simp] theorem gradeOutcome_pending (l : Lane) (o : Outcome) (proved : Bool) (position : Option Nat) (cycle : BitVec 6) :
    (gradeOutcome l o proved position cycle s).pending = s.pending := by
  rw [(gradeOutcome_does l o proved position cycle).pending_eq]
  simp [graded, setUnit]

theorem echoed_pending (l : Lane) (o : Outcome) : (echoed l o s).pending = s.pending := by
  simp [echoed, setUnit]

@[simp] theorem gradeEchoes_pending (k : LaunchKind) (position : Option Nat) (cycle : BitVec 6) (o : PerLane Outcome) :
    (gradeEchoes k position cycle o s).pending = s.pending :=
  ((gradeEchoes_does k position cycle o).pending_eq s).trans ((echoed_pending _ .B o.b).trans (echoed_pending s .A o.a))

/-! ### Windows (R58 to R63, R115) -/

section
variable (position : Nat) (e : Entry) (w : Window) (x : Launch)

theorem openSend_pending : (openSend position e s).pending = s.pending := by
  unfold openSend
  dsimp only
  split_ifs
  · rfl
  · exact (suppressSend_posts position e _).pending_eq
  · split
    · simp [launchSend]
    · rfl

theorem openOpen_pending : (openOpen position e s).pending = s.pending := by
  unfold openOpen
  split
  · rfl
  · split <;> rfl

theorem breachAt_pending (l : Lane) (m : Nat) : (breachAt w l m s).pending = s.pending := (breachAt_posts w l m s).pending_eq

theorem applyToBuffer_pending (c : Combined) (f : Facts) : (applyToBuffer w c f s).pending = s.pending := by
  cases hb : w.entry.buffer with
  | none => simp [applyToBuffer, hb]
  | some n => exact (applyToBuffer_does c f hb).pending_eq s

theorem endExpect_pending (a b : List Heard) : (endExpect w a b s).pending = s.pending := by
  have hgraded (v : PerLane LaneView) : (gradeWindow w v (closeHeard w a b s)).pending = s.pending :=
    (gradeOutcome_pending _ _ _ _ _ _).trans (gradeOutcome_pending _ _ _ _ _ _)
  have happlied (v : PerLane LaneView) (c : Combined) (f : Facts) :
      (applyToBuffer w c f (reportDisagree w c (gradeWindow w v (closeHeard w a b s)))).pending = s.pending :=
    (applyToBuffer_pending _ w c f).trans (((reportDisagree_does w c).pending_eq _).trans (hgraded v))
  exact ((reportAlarm_does w _ _).pending_eq _).trans (((logRecord_does w.entry.log _).pending_eq _).trans (happlied _ _ _))

theorem endSend_pending (a b : Echo) : (endSend x a b s).pending = s.pending := by
  unfold endSend
  dsimp only
  split <;> simp

theorem endSporadic_pending (a b : Echo) : (endSporadic x a b s).pending = s.pending := by
  unfold endSporadic
  dsimp only
  split <;> simp [completeSporadic]

theorem endBeacon_pending (a b : Echo) : (endBeacon x a b s).pending = s.pending := gradeEchoes_pending _ _ _ _ _

end

/-! ### The timebase (R18 to R38) -/

@[simp] theorem changeSync_pending (new : Sync) : (changeSync new s).pending = s.pending := (changeSync_does new).pending_eq s

@[simp] theorem raiseSyncChanged_pending (old : Sync) : (raiseSyncChanged old s).pending = s.pending := raise_pending

@[simp] theorem launchBeacon_pending (lanes : LaneSet) : (launchBeacon lanes s).pending = s.pending := by
  simp [launchBeacon]

theorem blockReactions_pending : (blockReactions s).pending = s.pending := by
  simp [blockReactions, sporadicCycleStart, ageBuffers]

theorem cycleStartEvent_pending (first : Promotions) : (cycleStartEvent first s).pending = s.pending :=
  (launchBeacon_pending _ _).trans (blockReactions_pending (beginCycle s))

@[simp] theorem hardAlign_pending (number : BitVec 6) : (hardAlign number s).pending = s.pending := by
  simp [hardAlign, blockReactions_pending]

@[simp] theorem alignAndAcquire_pending (number : BitVec 6) : (alignAndAcquire number s).pending = s.pending := by
  simp [alignAndAcquire]

@[simp] theorem correct_pending (e : Int) (number : BitVec 6) (l : Lane) (sender : Nat) :
    (correct e number l sender s).pending = s.pending := (correct_does e number l sender).pending_eq s

theorem conflictInListen_pending (l : Lane) (number : BitVec 6) (sender : Nat) :
    (conflictInListen l number sender s).pending = s.pending := by
  simp [conflictInListen, raiseMasterConflict, demote]

theorem conflictInLocked_pending (l : Lane) (number : BitVec 6) (sender : Nat) :
    (conflictInLocked l number sender s).pending = s.pending := by
  simp [conflictInLocked, raiseMasterConflict, demote]

theorem realignFromHoldover_pending (number : BitVec 6) : (realignFromHoldover number s).pending = s.pending := by
  simp [realignFromHoldover]

/-- In each sync state the beacon corrects the cycle, aligns it anew, or is only told of. -/
theorem actOnBeacon_pending (l : Lane) (stamp : Stamp) (number : BitVec 6) (sender : Nat) :
    (actOnBeacon l stamp number sender s).pending = s.pending := by
  unfold actOnBeacon
  cases s.tb.sync with
  | offline => rfl
  | listen => simp [conflictInListen_pending]
  | acquire => simp
  | locked => simp [conflictInLocked_pending]
  | holdover => simp [realignFromHoldover_pending]

theorem freeMessage_pending (l : Lane) (stamp : Stamp) (m : Message) : (freeMessage l stamp m s).pending = s.pending := by
  unfold freeMessage
  split
  next => simp [takeBeacon, actOnBeacon_pending, gradeBeacon]
  next => exact gradeOutcome_pending _ _ _ _ _ _
  next => rfl

theorem endFree_pending (l : Lane) (m : Message) : (endFree l m s).pending = s.pending := freeMessage_pending _ l _ m

@[simp] theorem fallToListen_pending : (fallToListen s).pending = s.pending := by simp [fallToListen]

theorem missedBeacon_pending : (missedBeacon s).pending = s.pending := by
  unfold missedBeacon
  cases s.tb.sync with
  | offline | listen => rfl
  | acquire => exact fallToListen_pending s
  | locked | holdover => simp [raiseBeaconMissed]

theorem meetDeadline_pending : (meetDeadline s).pending = s.pending := by
  unfold meetDeadline
  dsimp only
  split
  · rfl
  · exact missedBeacon_pending _

theorem expireListen_pending (moment : Nat) : (expireListen moment s).pending = s.pending := by simp [expireListen]

theorem startPart_pending : (startPart s).pending = s.pending := by simp [startPart]

theorem stopPart_pending : (stopPart s).pending = s.pending := by simp [stopPart]

theorem pass_pending (elapsed : Nat) : (pass elapsed s).pending = s.pending := by simp [pass]

theorem endPulse_pending (m : Nat) : (endPulse m s).pending = s.pending := by simp [endPulse, clearMark]

end Sys2Proof.Machine
end

section
/-! Requests, the handler, the arbiter and the link, and with them every command, leave the queue of commands that wait alone: a
command is taken from it by the step, before it runs (O2; log 1). -/
namespace Sys2Proof.Machine

section
variable {s t : State}

/-! ### Resets and requests (R163, R182) -/

/-- A reset reaches every block, but the queue is no block's (R165; log 12). -/
theorem holdReset_pending (cause : ResetCause) (s : State) : (holdReset cause s).pending = s.pending := rfl

theorem doLset_pending (tag : Byte) (p : List Byte) (s : State) : (doLset tag p s).pending = s.pending := by
  unfold doLset
  split
  · rfl
  · simp [laneDisable, laneEnable, laneClear, answerLane, refuse, badField]

/-- Every request is refused, or answered or deferred after its block's changes. -/
theorem carryOut_pending (c : Code) (tag : Byte) (p : List Byte) (s : State) : (carryOut c tag p s).pending = s.pending := by
  cases c with
  | ident | cfgget | stat | lstat | slist | reset => rfl
  | start => simp [carryOut, doStart, startPart_pending, refuse]
  | stop => simp [carryOut, doStop, stopPart_pending]
  | lset => exact doLset_pending tag p s
  | tcancel => simp [carryOut, doTcancel, refuse]
  | rdrop => simp [carryOut, doRdrop, closeGap, badField]
  | tcommit =>
    simp only [carryOut, doTcommit]
    repeat' split
    all_goals simp [refuse]
  | config | eput | edel | eget | tclr | tload | tchk =>
    simp only [carryOut, doConfig, doEput, doEdel, doEget, doTclr, doTload, doTchk]
    repeat' split
    all_goals rfl
  | bsetup | bwrite | bread | bstat | spost | scancel =>
    simp only [carryOut, doBsetup, doBwrite, doBread, doBstat, doSpost, doScancel]
    repeat' split
    all_goals rfl
  | rfetch | rthresh | gset | nmask | nack | evread =>
    simp only [carryOut, doRfetch, doRthresh, doGset, doNmask, doNack, doEvread]
    repeat' split
    all_goals rfl

/-! ### The handler and the arbiter (R144, R180) -/

@[simp] theorem takeRequest_pending (s : State) : (takeRequest s).pending = s.pending := by
  unfold takeRequest
  split
  next => rfl
  next =>
    unfold checkRequest
    split
    next => rfl
    next =>
      split
      next => rfl
      next => simp [carryOut_pending, refuse]

theorem serve_pending (s : State) : (serve s).pending = s.pending := by simp [serve]

theorem serveTimes_pending (n : Nat) (s : State) : (serveTimes n s).pending = s.pending := by
  induction n generalizing s with
  | zero => rfl
  | succ n ih => exact (ih _).trans (serve_pending s)

@[simp] theorem settle_pending (s : State) : (settle s).pending = s.pending := serveTimes_pending _ s

/-! ### The link (R169 to R179) -/

@[simp] theorem acceptFrame_pending (kind : Byte) (r : Request) (s : State) : (acceptFrame kind r s).pending = s.pending := by
  simp [acceptFrame, enterIntake, overflow]

theorem requestArrives_pending (code tag : Byte) (payload : List Byte) (s : State) :
    (requestArrives code tag payload s).pending = s.pending := by
  simp [requestArrives]

@[simp] theorem parseByte_pending (b : Byte) (s : State) : (parseByte b s).pending = s.pending := by
  unfold parseByte
  split <;> simp [completeFrame]

@[simp] theorem clockOut_pending (s : State) : (clockOut s).pending = s.pending := by
  unfold clockOut
  split <;> simp

@[simp] theorem moveFirst_pending (s : State) : (moveFirst s).pending = s.pending := by simp [moveFirst]

@[simp] theorem beginExchange_pending (s : State) : (beginExchange s).pending = s.pending := rfl

theorem exchange_pending (b : Byte) (s : State) : (exchange b s).pending = s.pending := by simp [exchange]

theorem fallCS_pending (s : State) : (fallCS s).pending = s.pending := by simp [fallCS]

theorem riseCS_pending (s : State) : (riseCS s).pending = s.pending := by
  unfold riseCS cutFrame
  split
  · split <;> simp
  · rfl

/-! ### Rows that come at a moment of their own (R17) -/

theorem windowStart_pending {role : EntryRole} {start : Nat → Entry → State → State}
    (hs : ∀ (position : Nat) (e : Entry) (x : State), (start position e x).pending = x.pending) (position : Nat) (s : State) :
    (windowStart role start position s).pending = s.pending := by
  unfold windowStart
  split
  · exact hs _ _ _
  · rfl

theorem launchEnd_pending {kind : LaunchKind} {stop : Launch → State → State}
    (hs : ∀ (x : Launch) (y : State), (stop x y).pending = y.pending) (s : State) :
    (launchEnd kind stop s).pending = s.pending := by
  unfold launchEnd
  split <;> simp [hs]

theorem carrierStart_pending (l : Lane) (offset : Nat) (s : State) : (carrierStart l offset s).pending = s.pending := by
  unfold carrierStart
  split <;> simp [breachAt_pending]

theorem closeExpect_pending (a b : List Heard) (s : State) : (closeExpect a b s).pending = s.pending := by
  unfold closeExpect
  split <;> simp [endExpect_pending]

theorem closeWindow_pending (s : State) : (closeWindow s).pending = s.pending := by
  unfold closeWindow
  split <;> simp

/-! ### Commands -/

/-- Every command answers its effect on the state, settled, and neither the effect nor settling touches the queue. -/
theorem exec_pending {c : Instr} (he : exec c s = .next t) : t.pending = s.pending := by
  have ends {x : State} (hx : x.pending = s.pending) (he : finish x = .next t) : t.pending = s.pending := by
    obtain rfl := Host.Outcome.next.inj he
    exact (settle_pending x).trans hx
  have guarded {x : State} {g : Bool} (hx : x.pending = s.pending) (he : finish (if g then x else s) = .next t) :
      t.pending = s.pending := ends (by rw [ite_pending, hx, ite_self]) he
  cases c with
  | ident | config | cfgget | start | stop | stat | reset | eput | edel | eget | tclr | tload | tchk | tcommit | tcancel
  | bsetup | bwrite | bread | bstat | lsetDisable | lsetEnable | lsetClear | lstat | spost | scancel | slist | rfetch | rdrop
  | rthresh | gset | nmask | nack | evread => exact ends (requestArrives_pending _ _ _ s) he
  | unknownRequest tag code payload => exact guarded (requestArrives_pending code tag payload s) he
  | inboundFrameComplete b | frameLength b | syncByteClockedOut b | frameClockedOut b | exchangeComplete b =>
    exact guarded (exchange_pending b s) he
  | transactionStart => exact ends (fallCS_pending s) he
  | transactionEnd => exact ends (riseCS_pending s) he
  | notificationFrameComposed => exact guarded (compose_pending s) he
  | powerReset => exact ends (holdReset_pending .power s) he
  | pinReset => exact ends (holdReset_pending .pin s) he
  | resetEnd =>
    refine ends ?_ he
    split <;> rfl
  | cycleStart first => exact guarded (cycleStartEvent_pending s first) he
  | cycleMarkPulseEnd =>
    refine ends ?_ he
    split
    · exact endPulse_pending s _
    · rfl
  | startupListenExpiry =>
    refine ends ?_ he
    split
    · exact expireListen_pending s _
    · rfl
  | beaconDeadline | holdoverLimitReached => exact guarded (meetDeadline_pending s) he
  | freeMessageEnd l elapsed m => exact guarded ((endFree_pending _ l m.body).trans (pass_pending s elapsed)) he
  | sendWindowStart position => exact ends (windowStart_pending (fun p e x => openSend_pending x p e) position s) he
  | expectWindowStart position => exact ends (windowStart_pending (start := openExpect) (fun _ _ _ => rfl) position s) he
  | openWindowStart position => exact ends (windowStart_pending (fun p e x => openOpen_pending x p e) position s) he
  | quietWindowStart position => exact ends (windowStart_pending (start := openQuiet) (fun _ _ _ => rfl) position s) he
  | breach l offset => exact ends (carrierStart_pending l offset s) he
  | expectWindowEnd a b => exact ends (closeExpect_pending a b s) he
  | windowEnd => exact ends (closeWindow_pending s) he
  | sendLaunchEnd a b => exact ends (launchEnd_pending (fun x y => endSend_pending y x a b) s) he
  | sporadicLaunchEnd a b => exact ends (launchEnd_pending (fun x y => endSporadic_pending y x a b) s) he
  | beaconLaunchEnd a b => exact ends (launchEnd_pending (fun x y => endBeacon_pending y x a b) s) he
  | expiry => exact guarded (expireDue_pending s) he
  | holdExpired l => exact guarded (enterProbation_pending s l .holdExpired) he
  | probationPassed l => exact guarded (promoteLane_pending s l) he

end

/-- Settles O2: a command's effect is made of operations of the blocks, and none of them knows of the queue. -/
theorem commandsLeaveTheQueue : Obligations.CommandsLeaveTheQueue := fun _ _ _ he => exec_pending he

end Sys2Proof.Machine
end
